-- ==== Sys2Proof/Word.lean ====
section
/-!
DEFINITION. The word types of the part: octets, 32-bit registers and words, and the plainest arithmetic on them.
-/

namespace Sys2Proof

/-- One octet. -/
abbrev Byte := BitVec 8

/-- A 32-bit register or memory word (R9). -/
abbrev Word := BitVec 32

/-- A 64-bit quantity of a register pair (R10), and a 64-bit tick time. -/
abbrev DWord := BitVec 64

/-- The integer read as a signed word of `w` bits (two's complement). -/
abbrev sgn (w n : Nat) : Int := (BitVec.ofNat w n).toInt

/-- An integer written into `w` bits (two's complement, wrapping). -/
abbrev uns (w : Nat) (i : Int) : Nat := (BitVec.ofInt w i).toNat

end Sys2Proof
end

