-- ==== Sys2Proof/Syntax.lean ====
section
/-!
DEFINITION. The commands of the part: one constructor of `Instr` per row of spec/opcode_table.json, with the operands of
the row as arguments.  Instance numbers are `Fin` of the number of instances, so that no command names an instance that
does not exist.
-/

namespace Sys2Proof

/-- The two host ports (R582). -/
inductive Port where
  | pcie
  | spi
deriving DecidableEq, Repr

/-- One channel of a serial frame: a sample with its V, C and U bits, a subframe with bad parity, or an inactive channel (R363–R365). -/
inductive ChanIn where
  | sample (audio : BitVec 24) (v c u : Bool)
  | badParity
  | inactive
deriving DecidableEq, Repr

/-- A PTP message as the classifier hands it to the engine (R292, R293): the port; the message from its first octet; the source MAC; the
source address as kind (0 MAC, 1 IPv4, 2 IPv6) and value; its capture, `back` × 2^-16 ns before the last GRID edge; a UDP checksum that is non-zero
and wrong; arrival beyond the processing rate (R302); and the whole frame without FCS, for host software. -/
structure PtpRx where
  port : Fin 4
  msg : List Byte
  mac : BitVec 48
  kind : Fin 3
  addr : BitVec 128
  back : BitVec 32
  sumBad : Bool
  ovr : Bool
  frame : List Byte
deriving DecidableEq, Repr

/-- A command of the part: a host access, an event on a pin or a port, an internal event the spec names as a step, or one
operation of a Facet lane.  The docstring of a constructor names its row. -/
inductive Instr where
  /-- HOST_REGISTER_WRITE: a write of `value` to BAR0 offset `addr` through port `p`; an offset that is not a multiple of 4 stands for every
  access that is not one aligned doubleword with all four byte enables set (R579). -/
  | hostRegisterWrite (p : Port) (addr : Nat) (value : Word)
  /-- READ_LO_LATCH: a read of the _LO half `addr` of a 64-bit pair through port `p`. -/
  | readLoLatch (p : Port) (addr : Nat)
  /-- WRITE_LO_HOLD: a write of `value` to the _LO half `addr` of a 64-bit pair through port `p`. -/
  | writeLoHold (p : Port) (addr : Nat) (value : Word)
  /-- WRITE_HI_COMMIT: a write of `value` to the _HI half `addr` of a 64-bit pair through port `p`. -/
  | writeHiCommit (p : Port) (addr : Nat) (value : Word)
  /-- BAR2_WINDOW_WRITE: a write into BAR2 through port `p` from octet offset `off`: each octet, none where its byte enable is clear. -/
  | bar2WindowWrite (p : Port) (off : BitVec 26) (data : List (Option Byte))
  /-- HANDSHAKE_STALL: a request at position `pos` of R523 (source 43) has been unacknowledged for 100 µs. -/
  | handshakeStall (pos : Fin 24)
  /-- SAMPLE_BOUNDARY: a sample boundary of domain `dom` (0 A, 1 B); `absent` names the paged delay lines whose page is not present, and
  `upset` the slots whose word was read with a parity error. -/
  | sampleBoundary (dom : Fin 2) (absent : List (Fin 2048)) (upset : List (Fin 8192))
  /-- SECOND_BOUNDARY: a TB_0 second boundary; `oscEdges` edges of the oscillator in use have passed since the last one; `differ` says that the
  two copies of the ledger differ. -/
  | secondBoundary (oscEdges : Word) (differ : Bool)
  /-- STRUCT_LOAD: STRUCT_CTRL.LOAD written as 1. -/
  | structLoad
  /-- STRUCT_ABORT: STRUCT_CTRL.ABORT written as 1. -/
  | structAbort
  /-- LOADER_LEAVE_EMPTY: reset ends and the loader leaves EMPTY. -/
  | loaderLeaveEmpty
  /-- STRUCT_FETCH_COMPLETE: the last octet of the image is received; `octets` is what the QSPI flash delivered, unused for the staging window. -/
  | structFetchComplete (octets : List Byte)
  /-- QSPI_FETCH_TIMEOUT: no data from the flash within 10 ms. -/
  | qspiFetchTimeout
  /-- STRUCT_CHECK_COMPLETE: the checks of R43 end. -/
  | structCheckComplete
  /-- STRUCT_APPLY_COMPLETE: application completes for the regions in the mask `regions`. -/
  | structApplyComplete (regions : Nat)
  /-- STRUCT_OWNER_PROG: `value` written to STRUCT_OWNER_PROG. -/
  | structOwnerProg (value : Word)
  /-- STRUCT_ROLLBACK_ADV: `value` written to STRUCT_ROLLBACK_ADV. -/
  | structRollbackAdv (value : Word)
  /-- STRUCT_SCRUB: the once-per-second scrub of configuration memory found `corrected` single-bit errors and, when `bad` names a region, an uncorrectable error in it. -/
  | structScrub (corrected : Nat) (bad : Option (Fin 20))
  /-- PORESET_ASSERT: PORESET_B has been low for `ns` nanoseconds. -/
  | poresetAssert (ns : Nat)
  /-- PORESET_RELEASE: PORESET_B rises, with the strap balls at `straps` (UNITSEL, OSCSEL_1..0, BOOTSEL_1..0). -/
  | poresetRelease (straps : BitVec 5)
  /-- CHIP_RESET: a chip reset, by a fault's CRST or by GLOBAL_RESET. -/
  | chipReset (byFault : Bool)
  /-- OTP_READ_DONE: the OTP read is complete. -/
  | otpReadDone
  /-- STARTUP_SELFTEST_DONE: the start-up self-tests end: the DETAIL of an SRAM that failed, and whether the AEAD and the TRNG passed. -/
  | startupSelftestDone (sram : Option (BitVec 16)) (aead trng : Bool)
  /-- REF_ENABLE: REF_n_CTRL.ENABLE written as 1. -/
  | refEnable (n : Fin 20)
  /-- REF_DISABLE: REF_n_CTRL.ENABLE written as 0. -/
  | refDisable (n : Fin 20)
  /-- REF_ACCEPT: REF_n_CTRL.ACCEPT written as 1. -/
  | refAccept (n : Fin 20)
  /-- REF_MONITOR_EVENT: the monitor of frequency reference 4 + `n` takes the event that its Loupe channel has counted out. -/
  | refMonitorEvent (n : Fin 8)
  /-- PPSIN_PULSE: the monitor of reference `n` takes the pulse on PPSIN_n that its Loupe channel has seen. -/
  | ppsinPulse (n : Fin 4)
  /-- REF_ACTIVITY_LOSS: the detection time of reference `n` passes without an event or offset. -/
  | refActivityLoss (n : Fin 20)
  /-- TOD_RX_OCTET: an octet is received on TOD_RX_n. -/
  | todRxOctet (n : Fin 4) (octet : Byte)
  /-- TOD_DATA_READ: REF_n_TOD_DATA is read. -/
  | todDataRead (n : Fin 4)
  /-- REF_OFS_COMMIT: `value` written to the OFS_COMMIT of reference 12 + `n`. -/
  | refOfsCommit (n : Fin 8) (value : Word)
  /-- REF_OFS_TAKE: the monitor of reference 12 + `n` takes the waiting offset. -/
  | refOfsTake (n : Fin 8)
  /-- REF_WTR_EXPIRE: the wait-to-restore time of reference `n` has run out. -/
  | refWtrExpire (n : Fin 20)
  /-- SEL_CTRL_WRITE: `value` written to SEL_CTRL. -/
  | selCtrlWrite (value : Word)
  /-- OSC_EDGE_LOSS: oscillator `osc` (0 OSC_A, 1 OSC_B) has no edge for three nominal periods. -/
  | oscEdgeLoss (osc : Fin 2)
  /-- OSC_COMPARE: the comparison over 16 s: each oscillator's measured offset from the selected reference (ppt), the offset between the
  two, and whether each has delivered edges for the 16 s without a gap. -/
  | oscCompare (a b ab : BitVec 32) (aEdges bEdges : Bool)
  /-- OSC_PREFER_WRITE: OSC_CTRL.PREFER written. -/
  | oscPreferWrite (osc : Fin 2)
  /-- TEMP_SENSOR_READ: the once-per-second read of the temperature sensor: its two octets, or none when not acknowledged. -/
  | tempSensorRead (value : Option (BitVec 16))
  /-- HOLD_SNAP_EXPORT: HOLD_SNAP_CTRL.EXPORT written as 1. -/
  | holdSnapExport
  /-- HOLD_SNAP_EXPORT_DONE: the snapshot under construction is complete. -/
  | holdSnapExportDone
  /-- HOLD_SNAP_RESTORE: HOLD_SNAP_CTRL.RESTORE written as 1. -/
  | holdSnapRestore
  /-- HOLD_SNAP_RESTORE_DONE: the accepted restore completes. -/
  | holdSnapRestoreDone
  /-- SYN_TABLE_READY: SYN_s_CTRL.TABLE_READY written as 1. -/
  | synTableReady (k : Fin 3)
  /-- SYN_SURVEY: SYN_s_CTRL.SURVEY written as 1. -/
  | synSurvey (k : Fin 3)
  /-- SYN_SURVEY_DONE: the survey of synthesiser `k` ends with these 64 band centres, kHz. `gaps` here and below: for each rising edge since the last
  such command at a clock made from synthesiser `k`, the divider of that clock and the interval in fs from the edge before it. -/
  | synSurveyDone (k : Fin 3) (centres : List (BitVec 24)) (gaps : List (Nat × Nat))
  /-- SYN_RELOCK: SYN_s_CTRL.RELOCK written as 1. -/
  | synRelock (k : Fin 3)
  /-- SYN_PULL_WRITE: `pull` written to SYN_s_CTRL.PULL. -/
  | synPullWrite (k : Fin 3) (pull : Fin 8)
  /-- SYN_LOCK_ACHIEVED: 256 phase comparisons of synthesiser `k` none of which exceeds `worst` ps, at `freq` ppb from nominal. -/
  | synLockAchieved (k : Fin 3) (freq : BitVec 32) (worst : BitVec 16) (gaps : List (Nat × Nat))
  /-- SYN_ACQUIRE_TIMEOUT: 5 ms in ACQUIRE without lock in the band in use. -/
  | synAcquireTimeout (k : Fin 3)
  /-- SYN_ACQUIRE_RETRY: 1 s has passed since the band choice of synthesiser `k` failed. -/
  | synAcquireRetry (k : Fin 3)
  /-- SYN_RELOCK_TIMEOUT: 5 ms in RELOCK without lock. -/
  | synRelockTimeout (k : Fin 3)
  /-- SYN_UNLOCK: 16 phase comparisons of synthesiser `k` none of which is below `least` ps; or its tracking bank at an end. -/
  | synUnlock (k : Fin 3) (least : BitVec 16) (bankEnd : Bool) (gaps : List (Nat × Nat))
  /-- SYN_ENVELOPE_CHECK: the 1 ms measurement of the target of synthesiser `k`, in ppb from nominal. -/
  | synEnvelopeCheck (k : Fin 3) (target : BitVec 32) (gaps : List (Nat × Nat))
  /-- CLKOUT_ALIGN_INSTANT: an alignment instant of CLKOUT_n. -/
  | clkoutAlignInstant (n : Fin 8)
  /-- OUT_SRC_DIV_WRITE: SRC and DIV of CLKOUT_n written. -/
  | outSrcDivWrite (n : Fin 8) (src : Fin 4) (div : Word)
  /-- OUT_OFFSET_WRITE: `value` written to OUT_n_OFFSET. -/
  | outOffsetWrite (n : Fin 12) (value : Word)
  /-- PPSOUT_PULSE: a period boundary of PPSOUT_n plus OFFSET: the edge read back minus its intended instant in ps, none when missing; and
  whether an extra pulse has appeared. -/
  | ppsoutPulse (n : Fin 4) (err : Option (BitVec 32)) (extra : Bool)
  /-- PPSOUT_PULSE_END: WIDTH µs after a rising edge of PPSOUT_n. -/
  | ppsoutPulseEnd (n : Fin 4)
  /-- CLKOUT_MONITOR: `count` readback edges of CLKOUT_n in 1 ms. -/
  | clkoutMonitor (n : Fin 8) (count : Word)
  /-- ALIGNER_INPUT_EDGE: aligner `n` takes the oldest edge that its Loupe input has delivered. -/
  | alignerInputEdge (n : Fin 12)
  /-- ALIGNER_INPUT_MISSING: an edge that aligner `n` predicted has not arrived. -/
  | alignerInputMissing (n : Fin 12)
  /-- LOUPE_STAMP: an edge of source `src` (numbered as LOUPE_n_CFG.SRC) at channel `n` before the next GRID edge: its slope, the interpolator's code for
  the time up to that GRID edge, and whether the FIFO's write port is busy. -/
  | loupeStamp (n : Fin 12) (src : Fin 22) (falling : Bool) (code : BitVec 16) (busy : Bool)
  /-- LOUPE_CALIBRATION: a calibration of channel `n` ends with `gain` (fs per code), `noise` and `offset` (1/16 ps, signed). -/
  | loupeCalibration (n : Fin 12) (gain noise offset : BitVec 32)
  /-- LOUPE_START: LOUPE_n_CMD.START written as 1. -/
  | loupeStart (n : Fin 12)
  /-- LOUPE_STOP: LOUPE_n_CMD.STOP written as 1. -/
  | loupeStop (n : Fin 12)
  /-- LOUPE_ARM_CAL: the instant 4 µs before the arm time of channel `n`. -/
  | loupeArmCal (n : Fin 12)
  /-- LOUPE_GATE_OPEN: the arm time of channel `n`, or 4 µs after a late START. -/
  | loupeGateOpen (n : Fin 12)
  /-- LOUPE_GATE_CLOSE: the GATE length of channel `n` has elapsed. -/
  | loupeGateClose (n : Fin 12)
  /-- LOUPE_MODE_WRITE: `mode` written to LOUPE_n_CFG.MODE. -/
  | loupeModeWrite (n : Fin 12) (mode : Fin 8)
  /-- LOUPE_CONT_BLOCK: channel `n` ends 1 ms of capture in CONT mode. -/
  | loupeContBlock (n : Fin 12)
  /-- LOUPE_GUEST: the once-per-second measurement of output `target` (0–11) or chain marker `target` − 12: `err` the edge minus its instant in ps,
  `code` its interpolator code, the figures of the calibration of its block, and whether the FIFO's write port is busy. -/
  | loupeGuest (target : Fin 16) (err : BitVec 32) (code : BitVec 16) (gain noise offset : BitVec 32) (busy : Bool)
  /-- LOUPE_FIFO_READ: LOUPE_FIFO_0 is read. -/
  | loupeFifoRead
  /-- TIME_SNAP: TIME_CMD.SNAP written as 1. -/
  | timeSnap
  /-- LEAP_COMMIT: `value` written to LEAP_COMMIT. -/
  | leapCommit (value : Word)
  /-- TB_STEP: TB_n_CMD.STEP written as 1 with SET 0. -/
  | tbStep (n : Fin 8)
  /-- TB_SET: TB_n_CMD.SET written as 1. -/
  | tbSet (n : Fin 8)
  /-- TB_STEP_APPLY: the GRID edge of the step that time base `n` awaits. -/
  | tbStepApply (n : Fin 8)
  /-- TB_OFS_COMMIT: `value` written to TB_n_OFS_COMMIT. -/
  | tbOfsCommit (n : Fin 8) (value : Word)
  /-- TB_SERVO_TIMEOUT: time base `n` has had no accepted offset for OFS_TIMEOUT seconds. -/
  | tbServoTimeout (n : Fin 8)
  /-- TB_SRC_WRITE: `src` written to TB_n_CTRL.SRC. -/
  | tbSrcWrite (n : Fin 8) (src : Fin 16)
  /-- TB_FADJ_WRITE: `value` written to TB_n_FADJ. -/
  | tbFadjWrite (n : Fin 8) (value : Word)
  /-- CMP_ARM: CMP_k_CTRL of time base `n` written with ARM 1 and PERIODIC as given. -/
  | cmpArm (n : Fin 8) (k : Fin 4) (periodic : Bool)
  /-- CMP_FIRE: the target of compare unit `k` of time base `n` is reached. -/
  | cmpFire (n : Fin 8) (k : Fin 4)
  /-- TBEV_PULSE_END: the WIDTH of the pulse on TBEV_m ends. -/
  | tbevPulseEnd (m : Fin 4)
  /-- GNSS_SCLK_STOP: the GNSS sample clock stops at tick time `time`. -/
  | gnssSclkStop (time : BitVec 64)
  /-- GNSS_LISTEN_LOCK: in listen mode, the phases of the edges received in the last millisecond against the own GRID, in units of 50 ps. -/
  | gnssListenLock (phases : List (BitVec 16))
  /-- GNSS_FE_MONITOR: the samples of IF input `n` in a millisecond have been taken: at each the levels of GNSS_IFI_0..7 (bits 0–7) and GNSS_IFQ_0..7
  (bits 8–15). -/
  | gnssFeMonitor (n : Fin 4) (balls : List (BitVec 16))
  /-- GNSS_CH_START: CH_c_CMD.START written as 1. -/
  | gnssChStart (c : Fin 96)
  /-- GNSS_CH_STOP: CH_c_CMD.STOP written as 1. -/
  | gnssChStop (c : Fin 96)
  /-- GNSS_CH_UPDATE: CH_c_CMD.UPDATE written as 1. -/
  | gnssChUpdate (c : Fin 96)
  /-- GNSS_CH_RUN_BEGIN: a GNSS_SCLK edge at tick time `edge`, with the levels of the IF balls (as in GNSS_FE_MONITOR), for channel `c` in WAIT_START. -/
  | gnssChRunBegin (c : Fin 96) (balls : BitVec 16) (edge : BitVec 64)
  /-- GNSS_EPOCH_DUMP: the GNSS_SCLK edges since the last that channel `c` has taken: at each the levels of the IF balls and its tick time. -/
  | gnssEpochDump (c : Fin 96) (samples : List (BitVec 16 × BitVec 64))
  /-- GNSS_NAV_ENTRY: the navigation unit of channel `c` delivers an entry whose symbols are complete. -/
  | gnssNavEntry (c : Fin 96)
  /-- GNSS_DUMP_READ: a host read of GNSS_DUMP_0. -/
  | gnssDumpRead
  /-- GNSS_NAV_READ: a host read of GNSS_NAV_0. -/
  | gnssNavRead
  /-- GNSS_ACQ_START: GNSS_ACQ_CTRL.START written as 1. -/
  | gnssAcqStart
  /-- GNSS_ACQ_ABORT: GNSS_ACQ_CTRL.ABORT written as 1. -/
  | gnssAcqAbort
  /-- GNSS_CAPTURE_BEGIN: a GNSS_SCLK edge at tick time `edge`, with the levels of the IF balls, for the armed capture. -/
  | gnssCaptureBegin (balls : BitVec 16) (edge : BitVec 64)
  /-- GNSS_CAPTURE_FULL: the levels of the IF balls at the GNSS_SCLK edges since the last that the capture has taken. -/
  | gnssCaptureFull (balls : List (BitVec 16))
  /-- GNSS_JOB_GO: JOB_j_CFG.GO written as 1. -/
  | gnssJobGo (j : Fin 16)
  /-- GNSS_JOB_ABORT: JOB_j_CFG.ABORT written as 1. -/
  | gnssJobAbort (j : Fin 16)
  /-- GNSS_JOB_DISPATCH: the scheduler lends `lane` to the lowest PENDING job. -/
  | gnssJobDispatch (lane : Fin 256)
  /-- GNSS_ANT_SHORT: GNSS_ANT_SC_B has been low for 10 µs. -/
  | gnssAntShort
  /-- GNSS_ANT_RETRY: RETRY seconds have passed since the antenna supply tripped. -/
  | gnssAntRetry
  /-- GNSS_ANT_OPEN: GNSS_ANT_OC_B is low; `second` when it has been low for 1 s. -/
  | gnssAntOpen (second : Bool)
  /-- GNSS_ANT_FAULT_CLEAR: GNSS_ANT_SC_B (`short`) or GNSS_ANT_OC_B returns high. -/
  | gnssAntFaultClear (short : Bool)
  /-- LINE_ENABLE_WRITE: `enable` written to LINE_n_CTRL.ENABLE. -/
  | lineEnableWrite (n : Fin 4) (enable : Bool)
  /-- LINE_SYNC_ACQUIRED: port `n` acquires code-group sync or block lock (and FEC lock). -/
  | lineSyncAcquired (n : Fin 4)
  /-- LINE_LINK_UP: auto-negotiation of port `n` is complete or absent and lock has been held for 1 ms; the partner's abilities where the mode
  negotiates: full duplex, pause, and the SGMII speed. -/
  | lineLinkUp (n : Fin 4) (fullDuplex : Bool) (pause speed : Fin 4)
  /-- LINE_SYNC_LOST: port `n` loses sync or block lock, or `hiBer` is set. -/
  | lineSyncLost (n : Fin 4) (hiBer : Bool)
  /-- LINE_AN_RESTART: 1 s with MODE_BAD on port `n`. -/
  | lineAnRestart (n : Fin 4)
  /-- LINE_BLK_RST: LINE_n_CTRL.BLK_RST written as 1. -/
  | lineBlkRst (n : Fin 4)
  /-- LINE_CNT_CLR: LINE_n_CTRL.CNT_CLR written as 1. -/
  | lineCntClr (n : Fin 4)
  /-- LINE_FRAME_RX: port `n` has received `frame` (destination address through FCS), captured `back` × 2^-16 ns before the last GRID edge;
  the start fell where the coding forbids it or the end was ragged (`align`), an invalid code was within it (`symbol`), the elastic buffer overflowed (`ovr`),
  PCIe refuses its completion writes (`refused`); FEC has corrected `corr` codewords and failed on `uncorr` since the last frame. -/
  | lineFrameRx (n : Fin 4) (frame : List Byte) (back : BitVec 32) (align symbol ovr refused : Bool) (corr uncorr : BitVec 16)
  /-- LINE_PAUSE_EXPIRE: the pause hold of port `n` ends. -/
  | linePauseExpire (n : Fin 4)
  /-- LINE_FRAME_TX: port `n` is free and starts its next frame; a host frame is captured `back` × 2^-16 ns before the last GRID edge, and
  `octets` is what DMA reads for it. -/
  | lineFrameTx (n : Fin 4) (back : BitVec 32) (octets : List Byte)
  /-- POOL_TAIL_WRITE: `value` written to POOL_TAIL; `addrs` are the ring entries that this posts. -/
  | poolTailWrite (value : BitVec 16) (addrs : List (BitVec 64))
  /-- RXQ_HEAD_WRITE: `value` written to RXQ_q_HEAD. -/
  | rxqHeadWrite (q : Fin 4) (value : BitVec 16)
  /-- RXQ_COAL_TIMER: COAL µs have passed since the first entry written after the last interrupt of queue `q`. -/
  | rxqCoalTimer (q : Fin 4)
  /-- TXQ_TAIL_WRITE: `value` written to TXQ_q_TAIL; `descs` are the descriptors that this hands over, 128 bits each, little-endian. -/
  | txqTailWrite (q : Fin 4) (value : BitVec 16) (descs : List (BitVec 128))
  /-- TXQ_FRAME_COMPLETE: the frame of queue `q` on the wire ends; `dmaFailed` when a DMA read for it failed. -/
  | txqFrameComplete (q : Fin 4) (dmaFailed : Bool)
  /-- QUEUE_BLK_RST: QUEUE_CTRL.BLK_RST written as 1. -/
  | queueBlkRst
  /-- PTP_PROFILE_WRITE: `profile` written to PTP_n_M_CFG.PROFILE. -/
  | ptpProfileWrite (n : Fin 4) (profile : Fin 8)
  /-- PTP_ANNOUNCE_RX: an Announce reaches the engine. -/
  | ptpAnnounceRx (m : PtpRx)
  /-- PTP_SYNC_RX: a Sync reaches the engine. -/
  | ptpSyncRx (m : PtpRx)
  /-- PTP_FOLLOW_UP_RX: a Follow_Up reaches the engine. -/
  | ptpFollowUpRx (m : PtpRx)
  /-- PTP_DELAY_REQ_RX: a Delay_Req reaches the engine. -/
  | ptpDelayReqRx (m : PtpRx)
  /-- PTP_DELAY_RESP_RX: a Delay_Resp reaches the engine. -/
  | ptpDelayRespRx (m : PtpRx)
  /-- PTP_PDELAY_REQ_RX: a Pdelay_Req reaches the engine. -/
  | ptpPdelayReqRx (m : PtpRx)
  /-- PTP_PDELAY_RESP_RX: a Pdelay_Resp reaches the engine. -/
  | ptpPdelayRespRx (m : PtpRx)
  /-- PTP_PDELAY_RESP_FUP_RX: a Pdelay_Resp_Follow_Up reaches the engine. -/
  | ptpPdelayRespFupRx (m : PtpRx)
  /-- PTP_UC_REQUEST_RX: a Signaling message with REQUEST_UNICAST_TRANSMISSION TLVs reaches the engine. -/
  | ptpUcRequestRx (m : PtpRx)
  /-- PTP_UC_CANCEL_RX: a Signaling message with CANCEL_UNICAST_TRANSMISSION TLVs reaches the engine. -/
  | ptpUcCancelRx (m : PtpRx)
  /-- PTP_UC_GRANT_RX: a Signaling message with GRANT_UNICAST_TRANSMISSION TLVs reaches the engine. -/
  | ptpUcGrantRx (m : PtpRx)
  /-- PTP_MGMT_FORWARD: a Management or untyped Signaling message reaches the engine. -/
  | ptpMgmtForward (m : PtpRx)
  /-- PTP_ANNOUNCE_TX: the scheduled instant of an Announce of port `n`: multicast, or to the client in entry `client`. -/
  | ptpAnnounceTx (n : Fin 4) (client : Option (Fin 4096))
  /-- PTP_SYNC_TX: the scheduled instant of a Sync of port `n`, captured `back` × 2^-16 ns before the last GRID edge. -/
  | ptpSyncTx (n : Fin 4) (client : Option (Fin 4096)) (back : BitVec 32)
  /-- PTP_FOLLOW_UP_TX: the oldest Follow_Up that port `n` owes is sent. -/
  | ptpFollowUpTx (n : Fin 4)
  /-- PTP_DELAY_RESP_TX: the oldest Delay_Resp that port `n` owes is sent. -/
  | ptpDelayRespTx (n : Fin 4)
  /-- PTP_DELAY_REQ_TX: the random instant at which the follower of port `n` sends a Delay_Req, captured `back` × 2^-16 ns before
  the last GRID edge. -/
  | ptpDelayReqTx (n : Fin 4) (back : BitVec 32)
  /-- PTP_PDELAY_REQ_TX: port `n` sends a Pdelay_Req, captured `back` × 2^-16 ns before the last GRID edge. -/
  | ptpPdelayReqTx (n : Fin 4) (back : BitVec 32)
  /-- PTP_PDELAY_RESP_TX: the oldest Pdelay_Resp that port `n` owes is sent, captured `back` × 2^-16 ns before the last GRID edge. -/
  | ptpPdelayRespTx (n : Fin 4) (back : BitVec 32)
  /-- PTP_PDELAY_RESP_FUP_TX: the oldest Pdelay_Resp_Follow_Up that port `n` owes is sent. -/
  | ptpPdelayRespFupTx (n : Fin 4)
  /-- PTP_ANNOUNCE_TIMEOUT: an announce receipt timeout of port `n`: of the foreign master `src` (80-bit identity) in domain `dom`, or, with `src` absent,
  the receipt timer of a LISTENING port. -/
  | ptpAnnounceTimeout (n : Fin 4) (dom : BitVec 8) (src : Option (BitVec 80))
  /-- PTP_GRANT_EXPIRE: the time of a grant of entry `client` runs out: 0 Announce, 1 Sync, 2 Delay_Resp. -/
  | ptpGrantExpire (client : Fin 4096) (kind : Fin 3)
  /-- PTP_UC_RENEW: 30 s remain of a grant that the follower of port `n` holds. -/
  | ptpUcRenew (n : Fin 4)
  /-- PTP_UC_RETRY: 1 s without a reply, or 10 s after a denial or no reply, for the follower of port `n`. -/
  | ptpUcRetry (n : Fin 4)
  /-- PTP_UC_SEL_WRITE: entry number `i` written to PTP_UC_SEL. -/
  | ptpUcSelWrite (entry : Fin 4096)
  /-- PTP_TS_READ: PTP_TS_0 is read. -/
  | ptpTsRead
  /-- NTS_REQUEST_RX: an NTP request (a frame without FCS) reaches the responder on port `n`, captured `back` × 2^-16 ns
  before the last GRID edge. -/
  | ntsRequestRx (n : Fin 4) (frame : List Byte) (back : BitVec 32)
  /-- NTS_RESPONSE_TX: T_tx of the oldest response of port `n`; `late` when it is not ready. -/
  | ntsResponseTx (n : Fin 4) (late : Bool)
  /-- NTS_ROT_DRAW: ROT_LEFT reaches 30. -/
  | ntsRotDraw
  /-- NTS_ROT_SWAP: ROT_LEFT reaches 0 at a second boundary. -/
  | ntsRotSwap
  /-- NTS_ROT_CMD: `value` written to NTS_ROT_CMD. -/
  | ntsRotCmd (value : Word)
  /-- NTS_MINT: NTS_MINT_CTRL written with GO 1 and COUNT `count` + 1. -/
  | ntsMint (count : Fin 8)
  /-- NTS_MINT_DONE: the mint in progress completes. -/
  | ntsMintDone
  /-- KEYS_LOAD: KEYS_LOAD_CTRL written through port `p` with GO 1, CLEAR 0 and TARGET `target`. -/
  | keysLoad (p : Port) (target : Fin 32)
  /-- KEYS_CLEAR: KEYS_LOAD_CTRL written with GO 1, CLEAR 1 and TARGET `target`. -/
  | keysClear (target : Fin 32)
  /-- KEYS_ZEROIZE: `value` written to KEYS_ZEROIZE. -/
  | keysZeroize (value : Word)
  /-- KEYS_BLOB_EXPORT: KEYS_BLOB_CTRL.EXPORT written as 1. -/
  | keysBlobExport
  /-- KEYS_BLOB_EXPORT_DONE: the export in progress completes. -/
  | keysBlobExportDone
  /-- KEYS_BLOB_RESTORE: KEYS_BLOB_CTRL.RESTORE written as 1. -/
  | keysBlobRestore
  /-- KEYS_BLOB_RESTORE_DONE: the accepted restore completes. -/
  | keysBlobRestoreDone
  /-- KEYSTORE_CHECK: the once-per-second CMAC over the key slots; `good` when it equals the reference. -/
  | keystoreCheck (good : Bool)
  /-- DRBG_RESEED: the once-per-second reseed of the DRBG. -/
  | drbgReseed
  /-- NTS_ROT_RETRY: one second with DEFERRED set. -/
  | ntsRotRetry
  /-- SERIAL_FRAME_RX: serial input `n` completes a frame; `z` when it starts a channel-status block. -/
  | serialFrameRx (n : Fin 48) (chans : List ChanIn) (z : Bool)
  /-- SERIAL_LOCK: serial input `n` locks at `rate` (1/64 Hz). -/
  | serialLock (n : Fin 48) (rate : BitVec 24)
  /-- SERIAL_LOCK_LOST: serial input `n` loses its lock. -/
  | serialLockLost (n : Fin 48)
  /-- STREAM_PACKET_RX: a stream frame (without FCS) received on port `n` reaches the stream engine. -/
  | streamPacketRx (n : Fin 4) (frame : List Byte)
  /-- STREAM_SOURCE_TIMEOUT: the source of path `path` with address `addr` of receive entry `s` has been unheard for 64 SP. -/
  | streamSourceTimeout (s : Fin 256) (path : Fin 2) (addr : BitVec 128)
  /-- STREAM_RX_ENABLE: `enable` written to RX_s_CTRL.ENABLE. -/
  | streamRxEnable (s : Fin 256) (enable : Bool)
  /-- STREAM_TX_ENABLE: `enable` written to TX_s_CTRL.ENABLE. -/
  | streamTxEnable (s : Fin 256) (enable : Bool)
  /-- ASRC_LOCK: the ASRC group of a source (serial pin, or receive stream with `stream`) locks at `rate` (1/64 Hz). -/
  | asrcLock (stream : Bool) (index : Fin 256) (rate : BitVec 24)
  /-- ASRC_UNLOCK: the estimator of a locked group measures `rate` (1/64 Hz), 0 when its source has stopped. -/
  | asrcUnlock (stream : Bool) (index : Fin 256) (rate : BitVec 24)
  /-- SERIAL_LAUNCH: 560 ns after a boundary of domain `dom`; `late` names the pins a sample word did not reach in time. -/
  | serialLaunch (dom : Fin 2) (late : List Nat)
  /-- TBL_READ: TBL_CMD written with READ 1. -/
  | tblRead
  /-- TBL_WRITE: TBL_CMD written with WRITE 1 and STAGE 0. -/
  | tblWrite
  /-- TBL_STAGE: TBL_CMD written with WRITE 1 and STAGE 1. -/
  | tblStage
  /-- TBL_RELEASE: TBL_CMD written with READ 1 and RELEASE 1. -/
  | tblRelease
  /-- TBL_CMD_DONE: the table command in progress completes. -/
  | tblCmdDone
  /-- ROUTE_COMMIT: 1 written to ROUTE_COMMIT. -/
  | routeCommit
  /-- ROUTE_DISCARD: 2 written to ROUTE_COMMIT. -/
  | routeDiscard
  /-- METER_PERIOD_END: a metering period of domain `dom` (0 A, 1 B) ends. -/
  | meterPeriodEnd (dom : Fin 2)
  /-- METER_HOLD_RELEASE: HOLD_S seconds have passed since the HOLD of `slot` last rose. -/
  | meterHoldRelease (slot : Fin 8192)
  /-- PAGER_PAGE_FETCH: a page of delay line `line` completes its move after `ns`; each beat read with an error as its octet address, its syndrome
and, for an uncorrectable one, its position in the line. -/
  | pagerPageFetch (line : Fin 2048) (ns : Word) (errs : List (BitVec 33 × Byte × Option Nat))
  /-- PAGER_TIMEOUT: a pager access has been unanswered for 100 µs. -/
  | pagerTimeout
  /-- STORE_BLK_RST: STORE_CTRL.BLK_RST written as 1. -/
  | storeBlkRst
  /-- STORE_SPLIT_WRITE: `value` written to STORE_SPLIT. -/
  | storeSplitWrite (value : BitVec 14)
  /-- FACET_OOS_WRITE: `oos` written to FACET_n_CTRL.OOS. -/
  | facetOosWrite (n : Fin 256) (oos : Bool)
  /-- FACET_BLK_RST: FACET_n_CTRL.BLK_RST written as 1. -/
  | facetBlkRst (n : Fin 256)
  /-- FACET_MOVE: FACET_n_TASK_SEL written with MOVE, TASK and TARGET. -/
  | facetMove (n : Fin 256) (task : Fin 16) (target : Fin 256)
  /-- FACET_SWAP: FACET_n_TASK_SEL written with SWAP and TASK. -/
  | facetSwap (n : Fin 256) (task : Fin 16)
  /-- FACET_MAIL_IN_WRITE: `value` written to FACET_n_MAIL_IN. -/
  | facetMailInWrite (n : Fin 256) (value : Word)
  /-- FACET_MAIL_OUT_READ: a host read of FACET_n_MAIL_OUT. -/
  | facetMailOutRead (n : Fin 256)
  /-- FACET_MAIL_STATUS_READ: a host read of FACET_n_MAIL_STATUS. -/
  | facetMailStatusRead (n : Fin 256)
  /-- FACET_MARGIN_MIN_READ: a host read of FACET_n_MARGIN_MIN. -/
  | facetMarginMinRead (n : Fin 256)
  /-- FACET_TASK_DATA_READ: a host read of FACET_n_TASK_DATA. -/
  | facetTaskDataRead (n : Fin 256)
  /-- FACET_MEM_WRITE: `value` written to the octet offset `off` of the BAR2 window of lane `n`. -/
  | facetMemWrite (n : Fin 256) (off : BitVec 17) (value : Word)
  /-- FACET_TASK_START: the next task of lane `n` starts. -/
  | facetTaskStart (n : Fin 256)
  /-- FACET_DEADLINE: the deadline of lane `n`; `slack` ps since the end of its last task and `issue` ps spent issuing in this SP. -/
  | facetDeadline (n : Fin 256) (slack issue : Nat)
  /-- MIGRATION_COPY_DONE: the copy of the migration ends. -/
  | migrationCopyDone
  /-- FACET_ROTATION: SELFTEST_S seconds have passed, at a TB_0 second boundary. -/
  | facetRotation
  /-- FACET_SELFTEST_DONE: the self-test of the lane under test ends. -/
  | facetSelftestDone (pass : Bool)
  /-- FACET_INTERRUPT_ENTRY: lane `n` accepts an interrupt. -/
  | facetInterruptEntry (n : Fin 256)
  /-- FACET_PORT_STALL_END: a word has arrived at the port on which lane `n` is stalled. -/
  | facetPortStallEnd (n : Fin 256)
  /-- FACET_NOP: lane `n` issues its next bundle, which holds no listed operation. -/
  | facetNop (n : Fin 256)
  /-- MPY: lane `n` issues its next bundle, with this operation in the MAC slot: fields D, A, B and AUX. -/
  | mpy (n : Fin 256) (d : Fin 4) (a b : Fin 8) (aux : BitVec 10)
  /-- MAC: lane `n` issues its next bundle, with this operation in the MAC slot: fields D, A, B and AUX. -/
  | mac (n : Fin 256) (d : Fin 4) (a b : Fin 8) (aux : BitVec 10)
  /-- MSU: lane `n` issues its next bundle, with this operation in the MAC slot: fields D, A, B and AUX. -/
  | msu (n : Fin 256) (d : Fin 4) (a b : Fin 8) (aux : BitVec 10)
  /-- MPY2: lane `n` issues its next bundle, with this operation in the MAC slot: fields D, A, B and AUX. -/
  | mpy2 (n : Fin 256) (d : Fin 4) (a b : Fin 8) (aux : BitVec 10)
  /-- MAC2: lane `n` issues its next bundle, with this operation in the MAC slot: fields D, A, B and AUX. -/
  | mac2 (n : Fin 256) (d : Fin 4) (a b : Fin 8) (aux : BitVec 10)
  /-- MSU2: lane `n` issues its next bundle, with this operation in the MAC slot: fields D, A, B and AUX. -/
  | msu2 (n : Fin 256) (d : Fin 4) (a b : Fin 8) (aux : BitVec 10)
  /-- CMPY: lane `n` issues its next bundle, with this operation in the MAC slot: fields D, A, B and AUX. -/
  | cmpy (n : Fin 256) (d : Fin 4) (a b : Fin 8) (aux : BitVec 10)
  /-- CMAC: lane `n` issues its next bundle, with this operation in the MAC slot: fields D, A, B and AUX. -/
  | cmac (n : Fin 256) (d : Fin 4) (a b : Fin 8) (aux : BitVec 10)
  /-- CMSU: lane `n` issues its next bundle, with this operation in the MAC slot: fields D, A, B and AUX. -/
  | cmsu (n : Fin 256) (d : Fin 4) (a b : Fin 8) (aux : BitVec 10)
  /-- CLR: lane `n` issues its next bundle, with this operation in the MAC slot: field D. -/
  | clr (n : Fin 256) (d : Fin 4)
  /-- MOVA: lane `n` issues its next bundle, with this operation in the MAC slot: fields D and S. -/
  | mova (n : Fin 256) (d src : Fin 4)
  /-- ADDA: lane `n` issues its next bundle, with this operation in the MAC slot: fields D and S. -/
  | adda (n : Fin 256) (d src : Fin 4)
  /-- SUBA: lane `n` issues its next bundle, with this operation in the MAC slot: fields D and S. -/
  | suba (n : Fin 256) (d src : Fin 4)
  /-- NEGA: lane `n` issues its next bundle, with this operation in the MAC slot: fields D and S. -/
  | nega (n : Fin 256) (d src : Fin 4)
  /-- ABSA: lane `n` issues its next bundle, with this operation in the MAC slot: fields D and S. -/
  | absa (n : Fin 256) (d src : Fin 4)
  /-- ASHA: lane `n` issues its next bundle, with this operation in the MAC slot: fields D, S and AUX. -/
  | asha (n : Fin 256) (d src : Fin 4) (aux : BitVec 10)
  /-- LDA: lane `n` issues its next bundle, with this operation in the MAC slot: fields D and A. -/
  | lda (n : Fin 256) (d : Fin 4) (a : Fin 8)
  /-- SATA: lane `n` issues its next bundle, with this operation in the MAC slot: fields D and S. -/
  | sata (n : Fin 256) (d src : Fin 4)
  /-- RNDA: lane `n` issues its next bundle, with this operation in the MAC slot: fields D and S. -/
  | rnda (n : Fin 256) (d src : Fin 4)
  /-- LD: lane `n` issues its next bundle, with this operation in the X move slot, or the Y move slot with `y`; `err` 1 a corrected and 2 an
  uncorrectable error in a word it reads. -/
  | ld (n : Fin 256) (y : Bool) (ar upd : Fin 4) (r : Fin 8) (fm : Bool) (err : Fin 3)
  /-- LDP: as LD, for a register pair. -/
  | ldp (n : Fin 256) (y : Bool) (ar upd : Fin 4) (r : Fin 8) (fm : Bool) (err : Fin 3)
  /-- ST: lane `n` issues its next bundle, with this operation in a move slot. -/
  | st (n : Fin 256) (y : Bool) (ar upd : Fin 4) (r : Fin 8) (fm : Bool)
  /-- STA: lane `n` issues its next bundle, with this operation in a move slot. -/
  | sta (n : Fin 256) (y : Bool) (ar upd : Fin 4) (r : Fin 8) (fm : Bool)
  /-- MOV: lane `n` issues its next bundle, with this operation in a move slot. -/
  | mov (n : Fin 256) (y : Bool) (r src : Fin 8)
  /-- MVA: lane `n` issues its next bundle, with this operation in a move slot. -/
  | mva (n : Fin 256) (y : Bool) (r src : Fin 8) (fm : Bool)
  /-- LDI: lane `n` issues its next bundle, of format C, with this operation. -/
  | ldi (n : Fin 256) (dst : Fin 32) (imm : BitVec 24)
  /-- MVR: lane `n` issues its next bundle, of format C, with this operation. -/
  | mvr (n : Fin 256) (dst src : Fin 32)
  /-- ADDI: lane `n` issues its next bundle, of format C, with this operation. -/
  | addi (n : Fin 256) (dst src : Fin 32) (imm : BitVec 24)
  /-- ADD: lane `n` issues its next bundle, of format C, with this operation. -/
  | add (n : Fin 256) (dst src : Fin 32)
  /-- SUB: lane `n` issues its next bundle, of format C, with this operation. -/
  | sub (n : Fin 256) (dst src : Fin 32)
  /-- ANDI: lane `n` issues its next bundle, of format C, with this operation. -/
  | andi (n : Fin 256) (dst src : Fin 32) (imm : BitVec 24)
  /-- ORI: lane `n` issues its next bundle, of format C, with this operation. -/
  | ori (n : Fin 256) (dst src : Fin 32) (imm : BitVec 24)
  /-- XORI: lane `n` issues its next bundle, of format C, with this operation. -/
  | xori (n : Fin 256) (dst src : Fin 32) (imm : BitVec 24)
  /-- SHLI: lane `n` issues its next bundle, of format C, with this operation. -/
  | shli (n : Fin 256) (dst src : Fin 32) (imm : BitVec 24)
  /-- SHRI: lane `n` issues its next bundle, of format C, with this operation. -/
  | shri (n : Fin 256) (dst src : Fin 32) (imm : BitVec 24)
  /-- ASRI: lane `n` issues its next bundle, of format C, with this operation. -/
  | asri (n : Fin 256) (dst src : Fin 32) (imm : BitVec 24)
  /-- MIN: lane `n` issues its next bundle, of format C, with this operation. -/
  | minOp (n : Fin 256) (dst src : Fin 32)
  /-- MAX: lane `n` issues its next bundle, of format C, with this operation. -/
  | maxOp (n : Fin 256) (dst src : Fin 32)
  /-- BR: lane `n` issues its next bundle, of format B, with this operation. -/
  | br (n : Fin 256) (cond : Fin 16) (acc : Bool) (creg : Fin 32) (target : BitVec 11)
  /-- CALL: as BR. -/
  | call (n : Fin 256) (cond : Fin 16) (acc : Bool) (creg : Fin 32) (target : BitVec 11)
  /-- RET: lane `n` issues its next bundle, of format B, with this operation. -/
  | ret (n : Fin 256) (cond : Fin 16) (acc : Bool) (creg : Fin 32)
  /-- RTI: lane `n` issues its next bundle, of format B, with this operation. -/
  | rti (n : Fin 256)
  /-- LOOP: lane `n` issues its next bundle, of format B, with this operation. -/
  | loop (n : Fin 256) (count : BitVec 16) (stop : BitVec 11)
  /-- LOOPR: lane `n` issues its next bundle, of format B, with this operation. -/
  | loopr (n : Fin 256) (creg : Fin 32) (stop : BitVec 11)
  /-- LBRK: lane `n` issues its next bundle, of format B, with this operation. -/
  | lbrk (n : Fin 256)
  /-- EI: lane `n` issues its next bundle, of format B, with this operation. -/
  | ei (n : Fin 256)
  /-- DI: lane `n` issues its next bundle, of format B, with this operation. -/
  | di (n : Fin 256)
  /-- SETI: lane `n` issues its next bundle, of format B, with this operation. -/
  | seti (n : Fin 256)
  /-- TEND: lane `n` issues its next bundle, of format B, with this operation. -/
  | tend (n : Fin 256)
  /-- LSAVE: lane `n` issues its next bundle, of format B, with this operation. -/
  | lsave (n : Fin 256) (ar : Fin 4)
  /-- LREST: lane `n` issues its next bundle, of format B, with this operation; `err` as for LD. -/
  | lrest (n : Fin 256) (ar : Fin 4) (err : Fin 3)
  /-- PIN: lane `n` issues its next bundle, of format B, with this operation; `y` the memory. -/
  | pin (n : Fin 256) (ar upd : Fin 4) (y : Bool) (port : BitVec 8)
  /-- POUT: lane `n` issues its next bundle, of format B, with this operation; `y` the memory, `err` as for LD. -/
  | pout (n : Fin 256) (ar upd : Fin 4) (y : Bool) (port : BitVec 8) (err : Fin 3)
  /-- TRAP: lane `n` issues its next bundle, of format B, with this operation. -/
  | trap (n : Fin 256) (code : BitVec 8)
  /-- CLAIM_FRAME: an arbitration frame: bit i of `low` is the line sampled low in slot i. -/
  | claimFrame (low : BitVec 20)
  /-- IVERN_BLOCK_LOCK: 64 consecutive valid sync headers on lane `lane`. -/
  | ivernBlockLock (lane : Fin 2)
  /-- IVERN_DESKEW: two ALIGN pairs in a row within the skew limit. -/
  | ivernDeskew
  /-- IVERN_HELLO_TX: 1 ms has passed since deskew or since the last HELLO. -/
  | ivernHelloTx
  /-- IVERN_HELLO_RX: a HELLO arrives: its word 0 and the structure digest of words 1–4. -/
  | ivernHelloRx (w0 : BitVec 64) (digest : BitVec 256)
  /-- IVERN_TIME_TX: a TIME message is sent, its START block crossing the reference plane `back` × 2^-16 ns before the last GRID edge. -/
  | ivernTimeTx (back : BitVec 32)
  /-- IVERN_TIME_RX: a TIME message with this SEQ and these words arrives `back` × 2^-16 ns before the last GRID edge. -/
  | ivernTimeRx (seq : BitVec 16) (w0 w1 w2 w3 : BitVec 64) (back : BitVec 32)
  /-- IVERN_LINK_LOSS: a lane has been without block lock for 10 µs, deskew has failed twice, or no HEALTH has come for 8 frames. -/
  | ivernLinkLoss
  /-- IVERN_MIRROR_RX: a MIRROR message: domain, LAST, media count, base slot, n, and its slot words. -/
  | ivernMirrorRx (dom : Fin 2) (last : Bool) (b : BitVec 32) (base n : BitVec 16) (words : List Word)
  /-- IVERN_DIGEST_RX: a DIGEST message: domain, media count and digest. -/
  | ivernDigestRx (dom : Fin 2) (b : BitVec 32) (digest : BitVec 64)
  /-- IVERN_WRITE_RX: a WRITE message: domain, media count, and the writes as space, offset and value. -/
  | ivernWriteRx (dom : Fin 2) (b : BitVec 32) (writes : List (Fin 2 × BitVec 30 × Word))
  /-- IVERN_HEALTH_RX: a HEALTH message with these words. -/
  | ivernHealthRx (w0 w1 : BitVec 64)
  /-- IVERN_KEY_RX: a KEY message: its START block and its sealed octets. -/
  | ivernKeyRx (aux : Byte) (start sealed_ : List Byte)
  /-- IVERN_STATE_RX: a STATE message: space, octet offset and data words. -/
  | ivernStateRx (space : Byte) (off : BitVec 64) (words : List (BitVec 64))
  /-- IVERN_JOIN_REQ_RX: a CONTROL JOIN_REQ with the second of its boundary and the joining unit's digest. -/
  | ivernJoinReqRx (sec : BitVec 48) (digest : BitVec 256)
  /-- IVERN_LOCK_RX: a CONTROL LOCK naming the lock boundaries of domains A and B. -/
  | ivernLockRx (a b : BitVec 32)
  /-- IVERN_HANDOVER_RX: a CONTROL HANDOVER naming the frame and the new EPOCH. -/
  | ivernHandoverRx (frame : BitVec 32) (epoch : BitVec 8)
  /-- IVERN_LEAVE_RX: a CONTROL LEAVE arrives. -/
  | ivernLeaveRx
  /-- IVERN_RESYNC_RX: a CONTROL RESYNC arrives. -/
  | ivernResyncRx
  /-- IVERN_BAD_MESSAGE: a message arrives, its blocks' 8 octets each from START to END. -/
  | ivernBadMessage (msg : List Byte)
  /-- PAIR_DIGEST_TIMEOUT: 32 SP have passed since boundary `b` of domain `dom` without the partner's digest. -/
  | pairDigestTimeout (dom : Fin 2) (b : BitVec 32)
  /-- PAIR_JOIN_DRAINED: every word of the join is sent and no rewrite is outstanding. -/
  | pairJoinDrained
  /-- PAIR_JOIN_KEY_TIMEOUT: 1 s has passed since JOIN_REQ without a KEY message. -/
  | pairJoinKeyTimeout
  /-- PAIR_HANDOVER: PAIR_CMD.HANDOVER written as 1. -/
  | pairHandover
  /-- PAIR_LEAVE: PAIR_CMD.LEAVE written as 1. -/
  | pairLeave
  /-- PAIR_RESYNC: PAIR_CMD.RESYNC written as 1. -/
  | pairResync
  /-- CHAIN_CYCLE: a 48 kHz instant of TB_0. -/
  | chainCycle
  /-- CHAIN_FRAME48_RX: a FRAME48 arrives on a side (0 upstream): its 16 bits and its CRC-8. -/
  | chainFrame48Rx (side : Fin 2) (k : BitVec 16) (crc : BitVec 8)
  /-- CHAIN_SIDE_LOST: 8 consecutive cycles without a good FRAME48 on a side. -/
  | chainSideLost (side : Fin 2)
  /-- CHAIN_TOD_RX: a TOD frame arrives: flags, the sender's bound, the origin's claim, UID and hop count. -/
  | chainTodRx (side : Fin 2) (flags : BitVec 8) (bound : BitVec 32) (claim : BitVec 16) (uid : BitVec 64) (hop : BitVec 8)
  /-- CHAIN_HOP_RX: a HOP frame arrives: the neighbour's stamps, the cycle and its UID. -/
  | chainHopRx (side : Fin 2) (ttx trx : BitVec 64) (cycle : BitVec 16) (uid : BitVec 64)
  /-- CHAIN_ENUM_RX: an ENUM frame arrives: HOPS, the sender's hop count and the origin's UID. -/
  | chainEnumRx (side : Fin 2) (hops hop : BitVec 8) (uid : BitVec 64)
  /-- CHAIN_PARTNER_RX: a PARTNER frame arrives: HOPS, octet 2, UID, device kind, claim and chain address. -/
  | chainPartnerRx (side : Fin 2) (hops sender : BitVec 8) (uid : BitVec 64) (kind claim : BitVec 16) (addr : BitVec 8)
  /-- CHAIN_BAD_FRAME: the 48 octets of a message frame arrive. -/
  | chainBadFrame (frame : List Byte)
  /-- CHAIN_TOD_TIMEOUT: 2 s without a TOD on a side. -/
  | chainTodTimeout (side : Fin 2)
  /-- PARTNER_LEAVE_TIMEOUT: 3 s without a PARTNER frame from `uid`. -/
  | partnerLeaveTimeout (uid : BitVec 64)
  /-- PARTNER_SEL_WRITE: entry `i` written to PARTNER_SEL. -/
  | partnerSelWrite (i : Fin 1024)
  /-- FAULT_TAKE: a collector tick. -/
  | faultTake
  /-- FAULT_STATUS_CLEAR: `value` written to FAULT_STATUS_LO, or FAULT_STATUS_HI with `hi`. -/
  | faultStatusClear (hi : Bool) (value : Word)
  /-- FAULT_FORCE: `value` written through port `p` to FAULT_FORCE_LO, or FAULT_FORCE_HI with `hi`. -/
  | faultForce (p : Port) (hi : Bool) (value : Word)
  /-- FAULT_FORCE_ARM: `value` written to FAULT_FORCE_ARM. -/
  | faultForceArm (value : Word)
  /-- FAULT_SOFT: `value` written to FAULT_SOFT. -/
  | faultSoft (value : Word)
  /-- FAULT_FIRST_RELEASE: 1 written to FAULT_FIRST.RELEASE. -/
  | faultFirstRelease
  /-- FAULT_NMI_ACK: 1 written to FAULT_NMI.ACK. -/
  | faultNmiAck
  /-- FAULT_EPIN_HOLD_WRITE: `hold` written to FAULT_EPIN.HOLD. -/
  | faultEpinHoldWrite (hold : Bool)
  /-- ERR_B_MIN_WIDTH_END: the minimum width of ERR_B ends. -/
  | errBMinWidthEnd
  /-- NMI_B_MIN_WIDTH_END: NMI_B has been asserted for 1 µs. -/
  | nmiBMinWidthEnd
  /-- INTC_SOURCE_EVENT: the controller takes the events presented and the conditions as they stand. -/
  | intcSourceEvent
  /-- INTC_MSIX_UNMASK: MSI-X Enable, Function Mask and the per-vector mask bits take these values. -/
  | intcMsixUnmask (enable funcMask : Bool) (masks : BitVec 8)
  /-- INTC_CLAIM: INTC_TGT_t_CLAIM is read. -/
  | intcClaim (t : Fin 4)
  /-- INTC_COMPLETE: `value` written to INTC_TGT_t_COMPLETE. -/
  | intcComplete (t : Fin 4) (value : Word)
  /-- INTC_SW_TEST: 1 written to INTC_SW.TEST. -/
  | intcSwTest
  /-- INTC_PEND_CLEAR: `value` written to INTC_PEND_LO, or INTC_PEND_HI with `hi`. -/
  | intcPendClear (hi : Bool) (value : Word)
  /-- EVT_READ: EVT_0 is read. -/
  | evtRead
  /-- PPS_CAP_READ: PPS_n_CAP_0 is read. -/
  | ppsCapRead (n : Fin 4)
  /-- PG_LATENCY_WRITE: `us` written to PG_n_LATENCY. -/
  | pgLatencyWrite (n : Fin 25) (us : BitVec 24)
  /-- PG_DEMAND: work reaches group `n`. -/
  | pgDemand (n : Fin 25)
  /-- PG_WAKE_COMPLETE: the wake of group `n` ends. -/
  | pgWakeComplete (n : Fin 25)
  /-- PG_IDLE_RETURN: 1 µs without demand on group `n`. -/
  | pgIdleReturn (n : Fin 25)
  /-- VID_ADJUST: an elapsed GRID second; the predicted rate R_corner of each cluster at this temperature and code, bundles/s. -/
  | vidAdjust (corner : List Word)
  /-- VMON_SAMPLE: a millisecond in which VDD_CORE measured `mv` mV. -/
  | vmonSample (mv : BitVec 16)
  /-- SENTINEL_MEASURE: the hourly measurement: for each sentinel the counts of the reference and the stressed ring over 1 ms;
R_corner of each cluster, bundles/s; and the mean Tj of the hour, 1/256 °C. -/
  | sentinelMeasure (rings : List (Word × Word)) (corner : List Word) (tj : BitVec 16)
  /-- AGEING_FIT: 24 powered hours have passed: the ratio ρ (16 fraction bits) of each lane that has run a task in those hours. -/
  | ageingFit (ratios : List (Fin 256 × BitVec 32))
  /-- TJ_SAMPLE: a millisecond in which sensor `hot` read highest, `tj` (1/256 °C). -/
  | tjSample (hot : Fin 20) (tj : BitVec 16)
  /-- DRAM_EN_WRITE: `en` written to DRAM_CTRL.EN. -/
  | dramEnWrite (en : Bool)
  /-- DRAM_TRAIN_START: 1 written to DRAM_TRAIN_CTRL.START. -/
  | dramTrainStart
  /-- DRAM_TRAIN_ABORT: 1 written to DRAM_TRAIN_CTRL.ABORT. -/
  | dramTrainAbort
  /-- DRAM_TRAIN_DONE: the training run ends after `us` µs: with every step passed, or with the step and lane (5 the command bus) that failed; the lanes
passed; and the settings found, as the words of TRAIN_CA, TRAIN_WL, RGATE, RDLY, WDLY, VREF, DESKEW_RD and DESKEW_WR in turn. -/
  | dramTrainDone (fail : Option (Fin 11 × Fin 6)) (us : Word) (lanes : BitVec 5) (found : List Word)
  /-- DRAM_MRS_CMD: GO written to DRAM_MRS_CMD with register number `k`. -/
  | dramMrsCmd (k : Fin 8)
  /-- DRAM_ECC_INJECT_SINGLE: 1 written to DRAM_ECC_INJECT.SINGLE. -/
  | dramEccInjectSingle
  /-- DRAM_ECC_INJECT_DOUBLE: 1 written to DRAM_ECC_INJECT.DOUBLE. -/
  | dramEccInjectDouble
  /-- DRAM_SCRUB_PASS: PERIOD seconds have passed: the errors found, as octet address, syndrome and whether uncorrectable. -/
  | dramScrubPass (errs : List (BitVec 33 × Byte × Bool))
  /-- DRAM_REFRESH: the refresh interval has passed. -/
  | dramRefresh
  /-- DRAM_ZQ_CAL: INTERVAL ms have passed. -/
  | dramZqCal
  /-- DRAM_TEMP_READ: the once-per-second read of the devices' multi-purpose register: its range code, and whether it reports above 85 °C. -/
  | dramTempRead (range : Fin 4) (hot : Bool)
  /-- DRAM_ALERT: an alert on DDR_ALERT_B: a write CRC (`crc`) or a parity error; `again` when a command issued again raises it, with the octet
address it was for. -/
  | dramAlert (crc again : Bool) (addr : BitVec 33)
  /-- SPI_WRITE_BAR0: an SPI transaction with command 0x02, its address and the octets that follow. -/
  | spiWriteBar0 (addr : Word) (octets : List Byte)
  /-- SPI_READ_BAR0: an SPI transaction with command 0x03: one entry for each word clocked out, the number of wait octets before it. -/
  | spiReadBar0 (addr : Word) (waits : List Nat)
  /-- SPI_WRITE_BAR2: an SPI transaction with command 0x0A. -/
  | spiWriteBar2 (addr : Word) (octets : List Byte)
  /-- SPI_READ_BAR2: an SPI transaction with command 0x0B. -/
  | spiReadBar2 (addr : Word) (waits : List Nat)
  /-- SPI_UNKNOWN_COMMAND: an SPI transaction of `n` octets after a command octet `code` that R582 does not list. -/
  | spiUnknownCommand (code : Byte) (n : Nat)
  /-- PCIE_UNSUPPORTED_REQUEST: a PCIe request that hits no BAR. -/
  | pcieUnsupportedRequest
  /-- PCIE_CORRECTABLE_ERROR: a correctable PCIe error. -/
  | pcieCorrectableError
  /-- PCIE_FATAL_ERROR: an uncorrectable error reported as fatal, or with `linkDown` the link going down. -/
  | pcieFatalError (linkDown : Bool)
  /-- PCIE_POISONED_WRITE: a poisoned write to a BAR. -/
  | pciePoisonedWrite
  /-- PCIE_PERST: PCIE_PERST_B is asserted. -/
  | pciePerst
  /-- PCIE_FLR: a function-level reset. -/
  | pcieFlr
  /-- PCIE_BME_CLEAR: Bus Master Enable is cleared. -/
  | pcieBmeClear
  /-- PCIE_DMA_READ_TIMEOUT: a device read for the frame at the head of queue `q` has had no completion within 50 ms. -/
  | pcieDmaReadTimeout (q : Fin 4)
  /-- PCIE_LINK_UP: the link trains at generation `gen` and `width` lanes. -/
  | pcieLinkUp (gen : Fin 5) (width : Fin 5)
  /-- PCIE_BME_SET: Bus Master Enable is set. -/
  | pcieBmeSet
  /-- PCIE_D3HOT: the function enters D3hot, or with `enter` false returns to D0. -/
  | pcieD3hot (enter : Bool)
  /-- HOST_WDOG_KICK: `value` written to HOST_WDOG_KICK through port `p`. -/
  | hostWdogKick (p : Port) (value : Word)
  /-- HOST_WDOG_ENABLE: `value` written to HOST_WDOG_CTRL. -/
  | hostWdogEnable (value : Word)
  /-- HOST_WDOG_EXPIRE: HOST_WDOG_STATUS.LEFT reaches 0. -/
  | hostWdogExpire
  /-- DOORBELL_SET: `value` written to DB_SET. -/
  | doorbellSet (value : Word)
  /-- GLOBAL_RESET: `value` written to GLOBAL_RESET. -/
  | globalReset (value : Word)
  /-- DBG_CLR: DBG_CTRL.CLR written as 1. -/
  | dbgClr
  /-- VDD_AON_LOSS: VDD_AON has been below 0.1 V for 100 ms. -/
  | vddAonLoss
  /-- VDD_CORE_LOW: VDD_CORE falls below 0.62 V with VDD_AON in range. -/
  | vddCoreLow
  /-- VDD_AON_BROWNOUT: VDD_AON falls below 0.70 V. -/
  | vddAonBrownout
  /-- VDDIO_33_LOSS: VDDIO_33 is lost. -/
  | vddio33Loss
  /-- TAP_EXTEST: the test port's instruction register is updated with 0x00. -/
  | tapExtest
  /-- TAP_IDCODE: the instruction register is updated with 0x01. -/
  | tapIdcode
  /-- TAP_SAMPLE_PRELOAD: the instruction register is updated with 0x02. -/
  | tapSamplePreload
  /-- TAP_EXTEST_PULSE: the instruction register is updated with 0x03. -/
  | tapExtestPulse
  /-- TAP_EXTEST_TRAIN: the instruction register is updated with 0x04. -/
  | tapExtestTrain
  /-- TAP_HIGHZ: the instruction register is updated with 0x05. -/
  | tapHighz
  /-- TAP_CLAMP: the instruction register is updated with 0x06. -/
  | tapClamp
  /-- TAP_BYPASS: the instruction register is updated with 0xFF. -/
  | tapBypass
  /-- TAP_OTHER_CODE: the instruction register is updated with `code`, 0x07–0xFE. -/
  | tapOtherCode (code : Byte)
deriving DecidableEq, Repr

end Sys2Proof
end

