-- ==== Sys2Proof/Config.lean ====
section
/-!
DEFINITION. What an implementation or a unit fixes and the spec leaves open: free values, the published cryptographic
functions the spec names, and the per-unit constants it says are read from OTP or set at the factory.
Every constant here is opaque, so that no proof can see a value of it.
-/

namespace Sys2Proof.Config

/-- DESIGN CHOICE (log entry 1). The free value number `n` of width `w`: a value the spec leaves open. -/
opaque freeValue (w n : Nat) : BitVec w

/-- SHA-256 of an octet string (R36, R44, R45): the published function, uninterpreted (log entry 2). -/
opaque sha256 : List Byte → BitVec 256

/-- Ed25519 verification of a signature by a public key (R37, R125): the published function, uninterpreted. -/
opaque ed25519Verify : BitVec 256 → List Byte → BitVec 512 → Bool

/-- Ed25519 signature with the unit's identity key (R123): the published function, uninterpreted. -/
opaque ed25519Sign : List Byte → BitVec 512

/-- AES-SIV sealing under a key (R325, R330, R340, R345): key, associated data, plaintext; uninterpreted. -/
opaque sivSeal : BitVec 256 → List (List Byte) → List Byte → List Byte

/-- AES-SIV opening: `none` when the tag does not verify (R325, R330, R340, R346); uninterpreted. -/
opaque sivOpen : BitVec 256 → List (List Byte) → List Byte → Option (List Byte)

/-- The wrapping key of the unit with DEVICE_UID `uid`, derived from its identity key by HKDF-SHA-256 (R340), uninterpreted. -/
opaque wrapKey (uid : BitVec 64) : BitVec 256

/-- The keyed hash that addresses the rate buckets (R335), uninterpreted. -/
opaque bucketHash (key : BitVec 256) (addr : BitVec 64) : BitVec 16

/-- HMAC-SHA-256 under a 256-bit key (R307, R308), uninterpreted. -/
opaque hmac : BitVec 256 → List Byte → BitVec 256

/-- AES-CMAC under a 128-bit key (R307, R308), uninterpreted. -/
opaque cmac : BitVec 128 → List Byte → BitVec 128

/-- The nominal interpolator gain of the Loupe in fs per code, a factory figure the spec does not state (R181). -/
opaque loupeGain : Nat

/-- The factory bound on the interpolator's non-linearity in 1/16 ps, which the spec does not state (R181). -/
opaque loupeNonlin : Nat

/-- The level in 2^-32 dB of a Q3.20 gain magnitude over the scale 1 ÷ `d`, and back to a gain in 2^-20, inside the slew limiter of a mix
bus: the spec gives no rounding for it (R398). -/
opaque gainLevel (g d : Nat) : Int

/-- The gain in 2^-20 of a level in 2^-32 dB inside the slew limiter (R398). -/
opaque levelGain (l : Int) : Nat

/-- TS_RX_FIXED of port `n` in personality `p`, a factory characterisation (R266). -/
opaque lineRxFixed (n p : Nat) : BitVec 32

/-- TS_TX_FIXED of port `n` in personality `p`, a factory characterisation (R266). -/
opaque lineTxFixed (n p : Nat) : BitVec 32

/-- Chip `i` of the primary code of signal `sig` for `prn`, true for a logical 1 (R235): published in each signal's interface control document. -/
opaque primaryCode (sig prn i : Nat) : Bool

/-- Chip `i` of the secondary code of the data component of signal `sig` for `prn` (R244), published likewise. -/
opaque secondaryCode (sig prn i : Nat) : Bool

/-- The carrier replica at each of its 16 phase levels, real and imaginary part, in a channel or in the capture's mixer: the spec gives no amplitudes
(R236, R247). -/
opaque carrierReplica (capture : Bool) (level : Nat) : Int × Int

/-- The 2-bit code of a mixed sample component in a capture with DECIM 0, whose mapping the spec does not state (R247). -/
opaque captureCode : Int → BitVec 2

/-- The search for a format's published synchronisation pattern at the end of the hard symbols, oldest first (R244): once found, the polarity is inverted or
not, and how many of the newest symbols belong to the entry in progress. -/
opaque navFound (format : Nat) (symbols : List Bool) : Option (Bool × Nat)

/-- The published parity of an LNAV word of 30 bits after D29 and D30 of the word before (R244). -/
opaque lnavParity (tail : Bool × Bool) (word : List Bool) : Bool

/-- The published deinterleaving, Viterbi decoding and CRC-24Q of CNAV, I/NAV and F/NAV (R244): the symbol sums of an entry and its decoding depth to its
bits and the check. -/
opaque navDecode (format : Nat) (sums : List Int) : List Bool × Bool

/-- The audio of an A ↔ B bridge at a boundary (R356): the ratio f_dst ÷ f_src as a fraction, the instant 16 SP back in units of 1 ÷ (f_src × f_dst) s
after the newest input sample, and the 24-bit audio of the input samples in the filter, newest first.  The spec gives the response of the filter and no
coefficients. -/
opaque bridgeFilter (num den : Nat) (centre : Int) (inputs : List Int) : BitVec 24

/-- The word the TRNG and its DRBG deliver at draw `n` (R326, R343): random, hence free. -/
opaque random (n : Nat) : BitVec 256

/-- The least-squares fit of log s against log t over hourly samples (powered hours, s in ppm): A in ppm and n × 65,536 before its clamp.  The spec
gives no arithmetic for it (R570). -/
opaque wearFit : List (Nat × Nat) → Nat × Nat

/-- The modelled slowdown in ppm, A × (t ÷ 8,760 h)^n, for A in ppm, n × 65,536 and t in powered hours.  The spec gives no arithmetic for it (R570). -/
opaque wearAt (a n hours : Nat) : Nat

end Sys2Proof.Config
end

