-- ==== Sys2Proof/Machine/Bytes.lean ====
section
/-!
DEFINITION. Octet strings: little-endian and big-endian fields, and the cyclic redundancy checks the spec names.
-/

namespace Sys2Proof.Machine

/-- A little-endian number from octets. -/
def leNat : List Byte → Nat
  | [] => 0
  | b :: bs => b.toNat + 256 * leNat bs

/-- A big-endian number from octets. -/
def beNat (bs : List Byte) : Nat := bs.foldl (fun a b => a * 256 + b.toNat) 0

/-- `n` octets of a number, little-endian. -/
def leBytes : Nat → Nat → List Byte
  | 0, _ => []
  | n + 1, v => BitVec.ofNat 8 v :: leBytes n (v / 256)

/-- `n` octets of a number, big-endian. -/
def beBytes (n v : Nat) : List Byte := (leBytes n v).reverse

/-- `n` octets of a signed number, little-endian two's complement. -/
def leBytesI (n : Nat) (i : Int) : List Byte := leBytes n (uns (8 * n) i)

/-- A signed little-endian field. -/
def leInt (bs : List Byte) : Int := sgn (8 * bs.length) (leNat bs)

/-- A slice: `n` octets from offset `o`. -/
def slice (bs : List Byte) (o n : Nat) : List Byte := (bs.drop o).take n

/-- A little-endian field of `n` octets at offset `o`. -/
def leAt (bs : List Byte) (o n : Nat) : Nat := leNat (slice bs o n)

/-- A big-endian field of `n` octets at offset `o`. -/
def beAt (bs : List Byte) (o n : Nat) : Nat := beNat (slice bs o n)

/-- One bit step of a reflected CRC of polynomial `p`. -/
def crcStepR (p c : Nat) : Nat := if c % 2 = 1 then (c / 2) ^^^ p else c / 2

/-- Eight bit steps of a reflected CRC. -/
def crcByteR (p c : Nat) (b : Byte) : Nat :=
  Nat.rec (motive := fun _ => Nat) (c ^^^ b.toNat) (fun _ x => crcStepR p x) 8

/-- CRC-32 with the IEEE 802.3 polynomial (R36). -/
def crc32 (bs : List Byte) : Nat := bs.foldl (crcByteR 0xEDB88320) 0xFFFFFFFF ^^^ 0xFFFFFFFF

/-- One bit step of a most-significant-bit-first CRC of width `w` and polynomial `p`. -/
def crcStepM (w p c : Nat) : Nat :=
  if c.testBit (w - 1) then ((c * 2) % 2 ^ w) ^^^ p else c * 2 % 2 ^ w

/-- One octet of a most-significant-bit-first CRC. -/
def crcByteM (w p c : Nat) (b : Byte) : Nat :=
  Nat.rec (motive := fun _ => Nat) (c ^^^ (b.toNat * 2 ^ (w - 8))) (fun _ x => crcStepM w p x) 8

/-- A most-significant-bit-first CRC of width `w`, polynomial `p` and start value `i`. -/
def crcM (w p i : Nat) (bs : List Byte) : Nat := bs.foldl (crcByteM w p) i

/-- Saturate an integer to `w` signed bits. -/
def satI (w : Nat) (v : Int) : Int := max (-(2 ^ (w - 1) : Int)) (min (2 ^ (w - 1) - 1 : Int) v)

/-- Division rounding toward minus infinity. -/
def fdiv (a b : Int) : Int := a / b

/-- Division rounding to nearest, halves upward; 0 when the divisor is 0. -/
def rdiv (a b : Int) : Int := if b = 0 then 0 else (2 * a + b) / (2 * b)

/-- Integer square root of a number below 2^128, rounded down, one result bit at a time. -/
def isqrt (n : Nat) : Nat :=
  (List.range 64).foldl (fun r i =>
    let b := r + 2 ^ (63 - i)
    if b * b ≤ n then b else r) 0

/-- Insert into a rising list. -/
def insertI (x : Int) : List Int → List Int
  | [] => [x]
  | y :: ys => if x ≤ y then x :: y :: ys else y :: insertI x ys

/-- A list in rising order. -/
def sortI : List Int → List Int
  | [] => []
  | x :: xs => insertI x (sortI xs)

/-- The median of a list: of an even number, the mean of the middle two, rounded down. -/
def median (l : List Int) : Int :=
  let a := sortI l
  let n := a.length
  if n = 0 then 0
  else if n % 2 = 1 then a.getD (n / 2) 0
  else (a.getD (n / 2 - 1) 0 + a.getD (n / 2) 0) / 2

end Sys2Proof.Machine
end

