-- ==== Sys2Proof/Machine/RegMap.lean ====
section
/-!
DEFINITION. The register map of BAR0: one name per register (its octet offset, with the instance numbers as arguments),
one name per field of the field tables, and the table of reset values and access masks (rules R58 to R607).
-/

namespace Sys2Proof.Machine

/-- A field of a 32-bit register: its lowest bit and its width. -/
structure Bits where
  lo : Nat
  len : Nat
deriving DecidableEq, Repr

namespace Reg

/-- STRUCT_CTRL (R58). -/
abbrev structCtrl : Nat := 0x10000
/-- STRUCT_STATUS (R58). -/
abbrev structStatus : Nat := 0x10004
/-- STRUCT_SRC (R58). -/
abbrev structSrc : Nat := 0x10008
/-- STRUCT_SIZE (R58). -/
abbrev structSize : Nat := 0x1000C
/-- STRUCT_QSPI_PRI (R58). -/
abbrev structQspiPri : Nat := 0x10010
/-- STRUCT_QSPI_ALT (R58). -/
abbrev structQspiAlt : Nat := 0x10014
/-- STRUCT_QSPI_CFG (R58). -/
abbrev structQspiCfg : Nat := 0x10018
/-- STRUCT_REGION_BUSY (R58). -/
abbrev structRegionBusy : Nat := 0x1001C
/-- STRUCT_LOAD_COUNT (R58). -/
abbrev structLoadCount : Nat := 0x10020
/-- STRUCT_LAST_US (R58). -/
abbrev structLastUs : Nat := 0x10024
/-- STRUCT_ROLLBACK (R58). -/
abbrev structRollback : Nat := 0x10028
/-- STRUCT_ROLLBACK_ADV (R58). -/
abbrev structRollbackAdv : Nat := 0x1002C
/-- STRUCT_OWNER (R58). -/
abbrev structOwner : Nat := 0x10030
/-- STRUCT_OWNER_PROG (R58). -/
abbrev structOwnerProg : Nat := 0x10034
/-- STRUCT_STRAPS (R58). -/
abbrev structStraps : Nat := 0x10038
/-- STRUCT_SCRUB (R58). -/
abbrev structScrub : Nat := 0x1003C
/-- STRUCT_DIGEST_0..7 (R58). -/
abbrev structDigest (n : Nat) : Nat := 0x10040 + 0x4 * n
/-- STRUCT_BUILD_0..3 (R58). -/
abbrev structBuild (n : Nat) : Nat := 0x10060 + 0x4 * n
/-- STRUCT_ASBUILT_SEL (R58). -/
abbrev structAsbuiltSel : Nat := 0x10080
/-- STRUCT_ASBUILT_DATA (R58). -/
abbrev structAsbuiltData : Nat := 0x10084
/-- REF_0_CTRL (R102). -/
abbrev refCtrl (n : Nat) : Nat := 0x40000 + 0x100 * n
/-- REF_0_STATE (R102). -/
abbrev refState (n : Nat) : Nat := 0x40004 + 0x100 * n
/-- REF_0_HISTORY (R102). -/
abbrev refHistory (n : Nat) : Nat := 0x40008 + 0x100 * n
/-- REF_0_WTR (R102). -/
abbrev refWtr (n : Nat) : Nat := 0x4000C + 0x100 * n
/-- REF_0_WTR_LEFT (R102). -/
abbrev refWtrLeft (n : Nat) : Nat := 0x40010 + 0x100 * n
/-- REF_0_WINDOW (R102). -/
abbrev refWindow (n : Nat) : Nat := 0x40014 + 0x100 * n
/-- REF_0_SOFT_LIMIT (R102). -/
abbrev refSoftLimit (n : Nat) : Nat := 0x40018 + 0x100 * n
/-- REF_0_HARD_LIMIT (R102). -/
abbrev refHardLimit (n : Nat) : Nat := 0x4001C + 0x100 * n
/-- REF_0_PHASE_HIT (R102). -/
abbrev refPhaseHit (n : Nat) : Nat := 0x40020 + 0x100 * n
/-- REF_0_NOMINAL (R102). -/
abbrev refNominal (n : Nat) : Nat := 0x40024 + 0x100 * n
/-- REF_0_FOFS (R102). -/
abbrev refFofs (n : Nat) : Nat := 0x40028 + 0x100 * n
/-- REF_0_FOFS_SHORT (R102). -/
abbrev refFofsShort (n : Nat) : Nat := 0x4002C + 0x100 * n
/-- REF_0_PHASE_LO (R102). -/
abbrev refPhaseLo (n : Nat) : Nat := 0x40030 + 0x100 * n
/-- REF_0_PHASE_HI (R102). -/
abbrev refPhaseHi (n : Nat) : Nat := 0x40034 + 0x100 * n
/-- REF_0_DELAY_LO (R102). -/
abbrev refDelayLo (n : Nat) : Nat := 0x40038 + 0x100 * n
/-- REF_0_DELAY_HI (R102). -/
abbrev refDelayHi (n : Nat) : Nat := 0x4003C + 0x100 * n
/-- REF_0_DECLARED (R102). -/
abbrev refDeclared (n : Nat) : Nat := 0x40040 + 0x100 * n
/-- REF_0_PATH_UNC (R102). -/
abbrev refPathUnc (n : Nat) : Nat := 0x40044 + 0x100 * n
/-- REF_0_TOD_SEC_LO (R102). -/
abbrev refTodSecLo (n : Nat) : Nat := 0x40048 + 0x100 * n
/-- REF_0_TOD_SEC_HI (R102). -/
abbrev refTodSecHi (n : Nat) : Nat := 0x4004C + 0x100 * n
/-- REF_0_TOD_CFG (R102). -/
abbrev refTodCfg (n : Nat) : Nat := 0x40050 + 0x100 * n
/-- REF_0_TOD_DATA (R102). -/
abbrev refTodData (n : Nat) : Nat := 0x40054 + 0x100 * n
/-- REF_0_OFS_LO (R102). -/
abbrev refOfsLo (n : Nat) : Nat := 0x40058 + 0x100 * n
/-- REF_0_OFS_HI (R102). -/
abbrev refOfsHi (n : Nat) : Nat := 0x4005C + 0x100 * n
/-- REF_0_OFS_TIME_LO (R102). -/
abbrev refOfsTimeLo (n : Nat) : Nat := 0x40060 + 0x100 * n
/-- REF_0_OFS_TIME_HI (R102). -/
abbrev refOfsTimeHi (n : Nat) : Nat := 0x40064 + 0x100 * n
/-- REF_0_OFS_UNC (R102). -/
abbrev refOfsUnc (n : Nat) : Nat := 0x40068 + 0x100 * n
/-- REF_0_OFS_COMMIT (R102). -/
abbrev refOfsCommit (n : Nat) : Nat := 0x4006C + 0x100 * n
/-- REF_0_OFS_STATUS (R102). -/
abbrev refOfsStatus (n : Nat) : Nat := 0x40070 + 0x100 * n
/-- REF_0_OFS_TIMEOUT (R102). -/
abbrev refOfsTimeout (n : Nat) : Nat := 0x40074 + 0x100 * n
/-- SEL_CTRL (R108). -/
abbrev selCtrl : Nat := 0x42000
/-- SEL_STATUS (R108). -/
abbrev selStatus : Nat := 0x42004
/-- SEL_SLOPE (R108). -/
abbrev selSlope : Nat := 0x42008
/-- SEL_LAST (R108). -/
abbrev selLast : Nat := 0x4200C
/-- SEL_LAST_TIME_LO (R108). -/
abbrev selLastTimeLo : Nat := 0x42010
/-- SEL_LAST_TIME_HI (R108). -/
abbrev selLastTimeHi : Nat := 0x42014
/-- SEL_PULL_LO (R108). -/
abbrev selPullLo : Nat := 0x42018
/-- SEL_PULL_HI (R108). -/
abbrev selPullHi : Nat := 0x4201C
/-- SEL_DISAGREE (R108). -/
abbrev selDisagree : Nat := 0x42020
/-- SEL_AGREE_0..15 (R108). -/
abbrev selAgree (n : Nat) : Nat := 0x42040 + 0x4 * n
/-- OSC_CTRL (R108). -/
abbrev oscCtrl : Nat := 0x42100
/-- OSC_STATUS (R108). -/
abbrev oscStatus : Nat := 0x42104
/-- OSC_FLIMIT (R108). -/
abbrev oscFlimit : Nat := 0x42108
/-- OSC_FOFS (R108). -/
abbrev oscFofs : Nat := 0x4210C
/-- HOLD_CTRL (R140). -/
abbrev holdCtrl : Nat := 0x43000
/-- HOLD_STATUS (R140). -/
abbrev holdStatus : Nat := 0x43004
/-- HOLD_LOCK_CFG (R140). -/
abbrev holdLockCfg : Nat := 0x43008
/-- HOLD_CLASS_FRATE (R140). -/
abbrev holdClassFrate : Nat := 0x4300C
/-- HOLD_CLASS_AGE (R140). -/
abbrev holdClassAge : Nat := 0x43010
/-- HOLD_TEMP_UNL (R140). -/
abbrev holdTempUnl : Nat := 0x43014
/-- HOLD_FUNC (R140). -/
abbrev holdFunc : Nat := 0x43018
/-- HOLD_TUNC (R140). -/
abbrev holdTunc : Nat := 0x4301C
/-- HOLD_AUNC (R140). -/
abbrev holdAunc : Nat := 0x43020
/-- HOLD_FREQ (R140). -/
abbrev holdFreq : Nat := 0x43024
/-- HOLD_AGE_RATE (R140). -/
abbrev holdAgeRate : Nat := 0x43028
/-- HOLD_LEARN_A (R140). -/
abbrev holdLearnA : Nat := 0x4302C
/-- HOLD_LEARN_B (R140). -/
abbrev holdLearnB : Nat := 0x43030
/-- HOLD_COAST (R140). -/
abbrev holdCoast : Nat := 0x43034
/-- HOLD_TEMP (R140). -/
abbrev holdTemp : Nat := 0x43038
/-- HOLD_TEMP_CFG (R140). -/
abbrev holdTempCfg : Nat := 0x4303C
/-- HOLD_FACC_4..11 (R140). -/
abbrev holdFacc (n : Nat) : Nat := 0x43040 + 0x4 * n
/-- HOLD_SNAP_CTRL (R140). -/
abbrev holdSnapCtrl : Nat := 0x43060
/-- HOLD_SNAP_STATUS (R140). -/
abbrev holdSnapStatus : Nat := 0x43064
/-- HOLD_CLASS_MAP_0 (R140). -/
abbrev holdClassMap0 : Nat := 0x43068
/-- HOLD_CLASS_MAP_1 (R140). -/
abbrev holdClassMap1 : Nat := 0x4306C
/-- HOLD_TRACE_MASK (R140). -/
abbrev holdTraceMask : Nat := 0x43070
/-- BOUND_LIMIT (R140). -/
abbrev boundLimit : Nat := 0x43074
/-- LEDGER_REF (R140). -/
abbrev ledgerRef : Nat := 0x43100
/-- LEDGER_PATH (R140). -/
abbrev ledgerPath : Nat := 0x43104
/-- LEDGER_MEAS (R140). -/
abbrev ledgerMeas : Nat := 0x43108
/-- LEDGER_HOLD (R140). -/
abbrev ledgerHold : Nat := 0x4310C
/-- LEDGER_STEER (R140). -/
abbrev ledgerSteer : Nat := 0x43110
/-- LEDGER_AGE (R140). -/
abbrev ledgerAge : Nat := 0x43114
/-- LEDGER_DRIFT (R140). -/
abbrev ledgerDrift : Nat := 0x43118
/-- LEDGER_PAIR (R140). -/
abbrev ledgerPair : Nat := 0x4311C
/-- LEDGER_BOUND (R140). -/
abbrev ledgerBound : Nat := 0x43120
/-- LEDGER_SUM (R140). -/
abbrev ledgerSum : Nat := 0x43124
/-- LEDGER_STATUS (R140). -/
abbrev ledgerStatus : Nat := 0x43128
/-- LEDGER_TRACE (R140). -/
abbrev ledgerTrace : Nat := 0x4312C
/-- LEDGER_ANCHOR_TIME_LO (R140). -/
abbrev ledgerAnchorTimeLo : Nat := 0x43130
/-- LEDGER_ANCHOR_TIME_HI (R140). -/
abbrev ledgerAnchorTimeHi : Nat := 0x43134
/-- LEDGER_STEP_UNC (R140). -/
abbrev ledgerStepUnc : Nat := 0x43138
/-- LEDGER_STEPS (R140). -/
abbrev ledgerSteps : Nat := 0x4313C
/-- LEDGER_LAST_STEP_LO (R140). -/
abbrev ledgerLastStepLo : Nat := 0x43140
/-- LEDGER_LAST_STEP_HI (R140). -/
abbrev ledgerLastStepHi : Nat := 0x43144
/-- LEDGER_LAST_STEP_TIME_LO (R140). -/
abbrev ledgerLastStepTimeLo : Nat := 0x43148
/-- LEDGER_LAST_STEP_TIME_HI (R140). -/
abbrev ledgerLastStepTimeHi : Nat := 0x4314C
/-- LEDGER_DRIFT_0..19 (R140). -/
abbrev ledgerDriftOf (n : Nat) : Nat := 0x43150 + 0x4 * n
/-- SYN_G_CTRL (R171). -/
abbrev synCtrl (n : Nat) : Nat := 0x50000 + 0x1000 * n
/-- SYN_G_STATUS (R171). -/
abbrev synStatus (n : Nat) : Nat := 0x50004 + 0x1000 * n
/-- SYN_G_LOOP (R171). -/
abbrev synLoop (n : Nat) : Nat := 0x50008 + 0x1000 * n
/-- SYN_G_FLOCK (R171). -/
abbrev synFlock (n : Nat) : Nat := 0x5000C + 0x1000 * n
/-- SYN_G_FNOW (R171). -/
abbrev synFnow (n : Nat) : Nat := 0x50010 + 0x1000 * n
/-- SYN_G_CEILING (R171). -/
abbrev synCeiling (n : Nat) : Nat := 0x50014 + 0x1000 * n
/-- SYN_G_GUARD (R171). -/
abbrev synGuard (n : Nat) : Nat := 0x50018 + 0x1000 * n
/-- SYN_G_UNLOCKS (R171). -/
abbrev synUnlocks (n : Nat) : Nat := 0x5001C + 0x1000 * n
/-- SYN_G_BAND_0..63 (R171). -/
abbrev synBand (n k : Nat) : Nat := 0x50100 + 0x1000 * n + 0x4 * k
/-- OUT_0_CTRL (R173). -/
abbrev outCtrl (n : Nat) : Nat := 0x53000 + 0x40 * n
/-- OUT_0_DIV (R173). -/
abbrev outDiv (n : Nat) : Nat := 0x53004 + 0x40 * n
/-- OUT_0_OFFSET (R173). -/
abbrev outOffset (n : Nat) : Nat := 0x53008 + 0x40 * n
/-- OUT_0_PAD (R173). -/
abbrev outPad (n : Nat) : Nat := 0x5300C + 0x40 * n
/-- OUT_0_WIDTH (R173). -/
abbrev outWidth (n : Nat) : Nat := 0x53010 + 0x40 * n
/-- OUT_0_ALIGN (R173). -/
abbrev outAlign (n : Nat) : Nat := 0x53014 + 0x40 * n
/-- OUT_0_STATUS (R173). -/
abbrev outStatus (n : Nat) : Nat := 0x53018 + 0x40 * n
/-- OUT_0_DELAY (R173). -/
abbrev outDelay (n : Nat) : Nat := 0x5301C + 0x40 * n
/-- LOUPE_0_CFG (R196). -/
abbrev loupeCfg (n : Nat) : Nat := 0x60000 + 0x100 * n
/-- LOUPE_0_COND (R196). -/
abbrev loupeCond (n : Nat) : Nat := 0x60004 + 0x100 * n
/-- LOUPE_0_NOM_LO (R196). -/
abbrev loupeNomLo (n : Nat) : Nat := 0x60008 + 0x100 * n
/-- LOUPE_0_NOM_HI (R196). -/
abbrev loupeNomHi (n : Nat) : Nat := 0x6000C + 0x100 * n
/-- LOUPE_0_ARM_LO (R196). -/
abbrev loupeArmLo (n : Nat) : Nat := 0x60010 + 0x100 * n
/-- LOUPE_0_ARM_HI (R196). -/
abbrev loupeArmHi (n : Nat) : Nat := 0x60014 + 0x100 * n
/-- LOUPE_0_GATE (R196). -/
abbrev loupeGate (n : Nat) : Nat := 0x60018 + 0x100 * n
/-- LOUPE_0_COUNT (R196). -/
abbrev loupeCount (n : Nat) : Nat := 0x6001C + 0x100 * n
/-- LOUPE_0_CMD (R196). -/
abbrev loupeCmd (n : Nat) : Nat := 0x60020 + 0x100 * n
/-- LOUPE_0_STATUS (R196). -/
abbrev loupeStatus (n : Nat) : Nat := 0x60024 + 0x100 * n
/-- LOUPE_0_N (R196). -/
abbrev loupeN (n : Nat) : Nat := 0x60028 + 0x100 * n
/-- LOUPE_0_MEAN_LO (R196). -/
abbrev loupeMeanLo (n : Nat) : Nat := 0x6002C + 0x100 * n
/-- LOUPE_0_MEAN_HI (R196). -/
abbrev loupeMeanHi (n : Nat) : Nat := 0x60030 + 0x100 * n
/-- LOUPE_0_SDEV (R196). -/
abbrev loupeSdev (n : Nat) : Nat := 0x60034 + 0x100 * n
/-- LOUPE_0_MIN (R196). -/
abbrev loupeMin (n : Nat) : Nat := 0x60038 + 0x100 * n
/-- LOUPE_0_MAX (R196). -/
abbrev loupeMax (n : Nat) : Nat := 0x6003C + 0x100 * n
/-- LOUPE_0_CAL_GAIN (R196). -/
abbrev loupeCalGain (n : Nat) : Nat := 0x60040 + 0x100 * n
/-- LOUPE_0_CAL_RES (R196). -/
abbrev loupeCalRes (n : Nat) : Nat := 0x60044 + 0x100 * n
/-- LOUPE_0_NOISE (R196). -/
abbrev loupeNoise (n : Nat) : Nat := 0x60048 + 0x100 * n
/-- LOUPE_0_MEAS (R196). -/
abbrev loupeMeas (n : Nat) : Nat := 0x6004C + 0x100 * n
/-- LOUPE_0_COUNTERS (R196). -/
abbrev loupeCounters (n : Nat) : Nat := 0x60050 + 0x100 * n
/-- LOUPE_0_PRESCALE (R196). -/
abbrev loupePrescale (n : Nat) : Nat := 0x60054 + 0x100 * n
/-- LOUPE_CTRL (R197). -/
abbrev loupeCtrl : Nat := 0x61000
/-- LOUPE_STATUS (R197). -/
abbrev loupeStatusOf : Nat := 0x61004
/-- LOUPE_DONE (R197). -/
abbrev loupeDone : Nat := 0x61008
/-- LOUPE_GUEST_MISS (R197). -/
abbrev loupeGuestMiss : Nat := 0x6100C
/-- LOUPE_FIFO_0..3 (R197). -/
abbrev loupeFifo (n : Nat) : Nat := 0x61010 + 0x4 * n
/-- LOUPE_OUT_0..11_ERR (R197). -/
abbrev loupeOutErr (n : Nat) : Nat := 0x61040 + 0x4 * n
/-- TB_0_CTRL (R226). -/
abbrev tbCtrl (n : Nat) : Nat := 0x70000 + 0x200 * n
/-- TB_0_STATUS (R226). -/
abbrev tbStatus (n : Nat) : Nat := 0x70004 + 0x200 * n
/-- TB_0_CMD (R226). -/
abbrev tbCmd (n : Nat) : Nat := 0x70008 + 0x200 * n
/-- TB_0_KP (R226). -/
abbrev tbKp (n : Nat) : Nat := 0x7000C + 0x200 * n
/-- TB_0_KI (R226). -/
abbrev tbKi (n : Nat) : Nat := 0x70010 + 0x200 * n
/-- TB_0_FLIMIT (R226). -/
abbrev tbFlimit (n : Nat) : Nat := 0x70014 + 0x200 * n
/-- TB_0_FADJ (R226). -/
abbrev tbFadj (n : Nat) : Nat := 0x70018 + 0x200 * n
/-- TB_0_INTEG (R226). -/
abbrev tbInteg (n : Nat) : Nat := 0x7001C + 0x200 * n
/-- TB_0_STEP_LO (R226). -/
abbrev tbStepLo (n : Nat) : Nat := 0x70020 + 0x200 * n
/-- TB_0_STEP_HI (R226). -/
abbrev tbStepHi (n : Nat) : Nat := 0x70024 + 0x200 * n
/-- TB_0_SET_SEC_LO (R226). -/
abbrev tbSetSecLo (n : Nat) : Nat := 0x70028 + 0x200 * n
/-- TB_0_SET_SEC_HI (R226). -/
abbrev tbSetSecHi (n : Nat) : Nat := 0x7002C + 0x200 * n
/-- TB_0_SET_NS (R226). -/
abbrev tbSetNs (n : Nat) : Nat := 0x70030 + 0x200 * n
/-- TB_0_STEP_THR (R226). -/
abbrev tbStepThr (n : Nat) : Nat := 0x70034 + 0x200 * n
/-- TB_0_TICK_LO (R226). -/
abbrev tbTickLo (n : Nat) : Nat := 0x70038 + 0x200 * n
/-- TB_0_TICK_HI (R226). -/
abbrev tbTickHi (n : Nat) : Nat := 0x7003C + 0x200 * n
/-- TB_0_SNAP_SEC_LO (R226). -/
abbrev tbSnapSecLo (n : Nat) : Nat := 0x70040 + 0x200 * n
/-- TB_0_SNAP_SEC_HI (R226). -/
abbrev tbSnapSecHi (n : Nat) : Nat := 0x70044 + 0x200 * n
/-- TB_0_SNAP_NS (R226). -/
abbrev tbSnapNs (n : Nat) : Nat := 0x70048 + 0x200 * n
/-- TB_0_SNAP_FRAC (R226). -/
abbrev tbSnapFrac (n : Nat) : Nat := 0x7004C + 0x200 * n
/-- TB_0_SNAP_TICK_LO (R226). -/
abbrev tbSnapTickLo (n : Nat) : Nat := 0x70050 + 0x200 * n
/-- TB_0_SNAP_TICK_HI (R226). -/
abbrev tbSnapTickHi (n : Nat) : Nat := 0x70054 + 0x200 * n
/-- TB_0_OFS_LO (R226). -/
abbrev tbOfsLo (n : Nat) : Nat := 0x70058 + 0x200 * n
/-- TB_0_OFS_HI (R226). -/
abbrev tbOfsHi (n : Nat) : Nat := 0x7005C + 0x200 * n
/-- TB_0_OFS_TIME_LO (R226). -/
abbrev tbOfsTimeLo (n : Nat) : Nat := 0x70060 + 0x200 * n
/-- TB_0_OFS_TIME_HI (R226). -/
abbrev tbOfsTimeHi (n : Nat) : Nat := 0x70064 + 0x200 * n
/-- TB_0_OFS_COMMIT (R226). -/
abbrev tbOfsCommit (n : Nat) : Nat := 0x70068 + 0x200 * n
/-- TB_0_OFS_TIMEOUT (R226). -/
abbrev tbOfsTimeout (n : Nat) : Nat := 0x7006C + 0x200 * n
/-- TB_0_ERR_LO (R226). -/
abbrev tbErrLo (n : Nat) : Nat := 0x70070 + 0x200 * n
/-- TB_0_ERR_HI (R226). -/
abbrev tbErrHi (n : Nat) : Nat := 0x70074 + 0x200 * n
/-- TB_0_MATCH (R226). -/
abbrev tbMatch (n : Nat) : Nat := 0x70078 + 0x200 * n
/-- TB_0_MATCH_EN (R226). -/
abbrev tbMatchEn (n : Nat) : Nat := 0x7007C + 0x200 * n
/-- TB_0_CMP_0_CTRL (R226). -/
abbrev tbCmpCtrl (n k : Nat) : Nat := 0x70100 + 0x200 * n + 0x20 * k
/-- TB_0_CMP_0_PERIOD (R226). -/
abbrev tbCmpPeriod (n k : Nat) : Nat := 0x70104 + 0x200 * n + 0x20 * k
/-- TB_0_CMP_0_TARGET_LO (R226). -/
abbrev tbCmpTargetLo (n k : Nat) : Nat := 0x70108 + 0x200 * n + 0x20 * k
/-- TB_0_CMP_0_TARGET_HI (R226). -/
abbrev tbCmpTargetHi (n k : Nat) : Nat := 0x7010C + 0x200 * n + 0x20 * k
/-- TB_0_CMP_0_STATUS (R226). -/
abbrev tbCmpStatus (n k : Nat) : Nat := 0x70110 + 0x200 * n + 0x20 * k
/-- TIME_CMD (R227). -/
abbrev timeCmd : Nat := 0x71000
/-- UTC_OFFSET (R227). -/
abbrev utcOffset : Nat := 0x71004
/-- LEAP_STATUS (R227). -/
abbrev leapStatus : Nat := 0x71008
/-- LEAP_COMMIT (R227). -/
abbrev leapCommit : Nat := 0x7100C
/-- LEAP_0..7_LO (R227). -/
abbrev leapLo (n : Nat) : Nat := 0x71010 + 0x8 * n
/-- LEAP_0..7_HI (R227). -/
abbrev leapHi (n : Nat) : Nat := 0x71014 + 0x8 * n
/-- TBEV_0..3_CFG (R227). -/
abbrev tbevCfg (n : Nat) : Nat := 0x71060 + 0x4 * n
/-- WDOG_LAST (R227). -/
abbrev wdogLast : Nat := 0x71070
/-- GNSS_CTRL (R255). -/
abbrev gnssCtrl : Nat := 0xC0000
/-- GNSS_STATUS (R255). -/
abbrev gnssStatus : Nat := 0xC0004
/-- GNSS_SCLK_PHASE (R255). -/
abbrev gnssSclkPhase : Nat := 0xC0008
/-- GNSS_ANT_CTRL (R255). -/
abbrev gnssAntCtrl : Nat := 0xC000C
/-- GNSS_ANT_STATUS (R255). -/
abbrev gnssAntStatus : Nat := 0xC0010
/-- GNSS_IF_0..3_CFG (R255). -/
abbrev gnssIfCfg (n : Nat) : Nat := 0xC0020 + 0x4 * n
/-- GNSS_IF_0..3_STATUS (R255). -/
abbrev gnssIfStatus (n : Nat) : Nat := 0xC0030 + 0x4 * n
/-- GNSS_IF_0..3_DELAY_LO (R255). -/
abbrev gnssIfDelayLo (n : Nat) : Nat := 0xC0040 + 0x8 * n
/-- GNSS_IF_0..3_DELAY_HI (R255). -/
abbrev gnssIfDelayHi (n : Nat) : Nat := 0xC0044 + 0x8 * n
/-- GNSS_DUMP_CTRL (R255). -/
abbrev gnssDumpCtrl : Nat := 0xC0060
/-- GNSS_DUMP_STATUS (R255). -/
abbrev gnssDumpStatus : Nat := 0xC0064
/-- GNSS_NAV_CTRL (R255). -/
abbrev gnssNavCtrl : Nat := 0xC0068
/-- GNSS_NAV_STATUS (R255). -/
abbrev gnssNavStatus : Nat := 0xC006C
/-- GNSS_DUMP_0..9 (R255). -/
abbrev gnssDump (n : Nat) : Nat := 0xC0080 + 0x4 * n
/-- GNSS_NAV_0..15 (R255). -/
abbrev gnssNav (n : Nat) : Nat := 0xC00C0 + 0x4 * n
/-- GNSS_ACQ_CTRL (R255). -/
abbrev gnssAcqCtrl : Nat := 0xC0100
/-- GNSS_ACQ_MIX (R255). -/
abbrev gnssAcqMix : Nat := 0xC0104
/-- GNSS_ACQ_START_LO (R255). -/
abbrev gnssAcqStartLo : Nat := 0xC0108
/-- GNSS_ACQ_START_HI (R255). -/
abbrev gnssAcqStartHi : Nat := 0xC010C
/-- GNSS_ACQ_T0_LO (R255). -/
abbrev gnssAcqT0Lo : Nat := 0xC0110
/-- GNSS_ACQ_T0_HI (R255). -/
abbrev gnssAcqT0Hi : Nat := 0xC0114
/-- GNSS_ACQ_STATUS (R255). -/
abbrev gnssAcqStatus : Nat := 0xC0118
/-- GNSS_ACQ_ENTRY (R255). -/
abbrev gnssAcqEntry : Nat := 0xC011C
/-- JOB_0_CFG (R256). -/
abbrev jobCfg (n : Nat) : Nat := 0xC0800 + 0x20 * n
/-- JOB_0_DOPP_MIN (R256). -/
abbrev jobDoppMin (n : Nat) : Nat := 0xC0804 + 0x20 * n
/-- JOB_0_DOPP_BINS (R256). -/
abbrev jobDoppBins (n : Nat) : Nat := 0xC0808 + 0x20 * n
/-- JOB_0_STATUS (R256). -/
abbrev jobStatus (n : Nat) : Nat := 0xC080C + 0x20 * n
/-- JOB_0_CODE (R256). -/
abbrev jobCode (n : Nat) : Nat := 0xC0810 + 0x20 * n
/-- JOB_0_FREQ (R256). -/
abbrev jobFreq (n : Nat) : Nat := 0xC0814 + 0x20 * n
/-- JOB_0_METRIC (R256). -/
abbrev jobMetric (n : Nat) : Nat := 0xC0818 + 0x20 * n
/-- CH_0_CMD (R257). -/
abbrev chCmd (n : Nat) : Nat := 0xC1000 + 0x40 * n
/-- CH_0_SIG (R257). -/
abbrev chSig (n : Nat) : Nat := 0xC1004 + 0x40 * n
/-- CH_0_CARR_INC (R257). -/
abbrev chCarrInc (n : Nat) : Nat := 0xC1008 + 0x40 * n
/-- CH_0_CODE_INC (R257). -/
abbrev chCodeInc (n : Nat) : Nat := 0xC100C + 0x40 * n
/-- CH_0_CODE_INIT (R257). -/
abbrev chCodeInit (n : Nat) : Nat := 0xC1010 + 0x40 * n
/-- CH_0_START_LO (R257). -/
abbrev chStartLo (n : Nat) : Nat := 0xC1014 + 0x40 * n
/-- CH_0_START_HI (R257). -/
abbrev chStartHi (n : Nat) : Nat := 0xC1018 + 0x40 * n
/-- CH_0_TAPS (R257). -/
abbrev chTaps (n : Nat) : Nat := 0xC101C + 0x40 * n
/-- CH_0_DUMP (R257). -/
abbrev chDump (n : Nat) : Nat := 0xC1020 + 0x40 * n
/-- CH_0_NAV (R257). -/
abbrev chNav (n : Nat) : Nat := 0xC1024 + 0x40 * n
/-- CH_0_STATUS (R257). -/
abbrev chStatus (n : Nat) : Nat := 0xC1028 + 0x40 * n
/-- CH_0_EPOCHS (R257). -/
abbrev chEpochs (n : Nat) : Nat := 0xC102C + 0x40 * n
/-- LINE_0_CTRL (R288). -/
abbrev lineCtrl (n : Nat) : Nat := 0x80000 + 0x4000 * n
/-- LINE_0_STATUS (R288). -/
abbrev lineStatus (n : Nat) : Nat := 0x80004 + 0x4000 * n
/-- LINE_0_MAXFRAME (R288). -/
abbrev lineMaxframe (n : Nat) : Nat := 0x80008 + 0x4000 * n
/-- LINE_0_AN (R288). -/
abbrev lineAn (n : Nat) : Nat := 0x8000C + 0x4000 * n
/-- LINE_0_MAC_LO (R288). -/
abbrev lineMacLo (n : Nat) : Nat := 0x80010 + 0x4000 * n
/-- LINE_0_MAC_HI (R288). -/
abbrev lineMacHi (n : Nat) : Nat := 0x80014 + 0x4000 * n
/-- LINE_0_FILTER (R288). -/
abbrev lineFilter (n : Nat) : Nat := 0x80018 + 0x4000 * n
/-- LINE_0_PAUSE (R288). -/
abbrev linePause (n : Nat) : Nat := 0x8001C + 0x4000 * n
/-- LINE_0_HASH_0..7 (R288). -/
abbrev lineHash (n k : Nat) : Nat := 0x80020 + 0x4000 * n + 0x4 * k
/-- LINE_0_TS_CFG (R288). -/
abbrev lineTsCfg (n : Nat) : Nat := 0x80040 + 0x4000 * n
/-- LINE_0_TS_RX_ADJ (R288). -/
abbrev lineTsRxAdj (n : Nat) : Nat := 0x80044 + 0x4000 * n
/-- LINE_0_TS_TX_ADJ (R288). -/
abbrev lineTsTxAdj (n : Nat) : Nat := 0x80048 + 0x4000 * n
/-- LINE_0_TS_RX_FIXED (R288). -/
abbrev lineTsRxFixed (n : Nat) : Nat := 0x8004C + 0x4000 * n
/-- LINE_0_TS_TX_FIXED (R288). -/
abbrev lineTsTxFixed (n : Nat) : Nat := 0x80050 + 0x4000 * n
/-- LINE_0_RX_OK (R288). -/
abbrev lineRxOk (n : Nat) : Nat := 0x80100 + 0x4000 * n
/-- LINE_0_RX_OCTETS_LO (R288). -/
abbrev lineRxOctetsLo (n : Nat) : Nat := 0x80104 + 0x4000 * n
/-- LINE_0_RX_OCTETS_HI (R288). -/
abbrev lineRxOctetsHi (n : Nat) : Nat := 0x80108 + 0x4000 * n
/-- LINE_0_RX_RUNT (R288). -/
abbrev lineRxRunt (n : Nat) : Nat := 0x8010C + 0x4000 * n
/-- LINE_0_RX_OVERSIZE (R288). -/
abbrev lineRxOversize (n : Nat) : Nat := 0x80110 + 0x4000 * n
/-- LINE_0_RX_FCS (R288). -/
abbrev lineRxFcs (n : Nat) : Nat := 0x80114 + 0x4000 * n
/-- LINE_0_RX_ALIGN (R288). -/
abbrev lineRxAlign (n : Nat) : Nat := 0x80118 + 0x4000 * n
/-- LINE_0_RX_SYMBOL (R288). -/
abbrev lineRxSymbol (n : Nat) : Nat := 0x8011C + 0x4000 * n
/-- LINE_0_RX_FIFO (R288). -/
abbrev lineRxFifo (n : Nat) : Nat := 0x80120 + 0x4000 * n
/-- LINE_0_RX_FILTERED (R288). -/
abbrev lineRxFiltered (n : Nat) : Nat := 0x80124 + 0x4000 * n
/-- LINE_0_RX_PAUSE (R288). -/
abbrev lineRxPause (n : Nat) : Nat := 0x80128 + 0x4000 * n
/-- LINE_0_RX_MACCTL (R288). -/
abbrev lineRxMacctl (n : Nat) : Nat := 0x8012C + 0x4000 * n
/-- LINE_0_TX_OK (R288). -/
abbrev lineTxOk (n : Nat) : Nat := 0x80130 + 0x4000 * n
/-- LINE_0_TX_OCTETS_LO (R288). -/
abbrev lineTxOctetsLo (n : Nat) : Nat := 0x80134 + 0x4000 * n
/-- LINE_0_TX_OCTETS_HI (R288). -/
abbrev lineTxOctetsHi (n : Nat) : Nat := 0x80138 + 0x4000 * n
/-- LINE_0_TX_PAUSE_DROP (R288). -/
abbrev lineTxPauseDrop (n : Nat) : Nat := 0x8013C + 0x4000 * n
/-- LINE_0_TX_DOWN (R288). -/
abbrev lineTxDown (n : Nat) : Nat := 0x80140 + 0x4000 * n
/-- LINE_0_FEC_CORR (R288). -/
abbrev lineFecCorr (n : Nat) : Nat := 0x80144 + 0x4000 * n
/-- LINE_0_FEC_UNCORR (R288). -/
abbrev lineFecUncorr (n : Nat) : Nat := 0x80148 + 0x4000 * n
/-- QUEUE_CTRL (R290). -/
abbrev queueCtrl : Nat := 0x140000
/-- QUEUE_STATUS (R290). -/
abbrev queueStatus : Nat := 0x140004
/-- POOL_BASE_LO (R290). -/
abbrev poolBaseLo : Nat := 0x140010
/-- POOL_BASE_HI (R290). -/
abbrev poolBaseHi : Nat := 0x140014
/-- POOL_SIZE (R290). -/
abbrev poolSize : Nat := 0x140018
/-- POOL_BUFSZ (R290). -/
abbrev poolBufsz : Nat := 0x14001C
/-- POOL_TAIL (R290). -/
abbrev poolTail : Nat := 0x140020
/-- POOL_HEAD (R290). -/
abbrev poolHead : Nat := 0x140024
/-- POOL_AVAIL (R290). -/
abbrev poolAvail : Nat := 0x140028
/-- POOL_LOW (R290). -/
abbrev poolLow : Nat := 0x14002C
/-- RXQ_0_CTRL (R290). -/
abbrev rxqCtrl (n : Nat) : Nat := 0x141000 + 0x100 * n
/-- RXQ_0_BASE_LO (R290). -/
abbrev rxqBaseLo (n : Nat) : Nat := 0x141004 + 0x100 * n
/-- RXQ_0_BASE_HI (R290). -/
abbrev rxqBaseHi (n : Nat) : Nat := 0x141008 + 0x100 * n
/-- RXQ_0_SIZE (R290). -/
abbrev rxqSize (n : Nat) : Nat := 0x14100C + 0x100 * n
/-- RXQ_0_HEAD (R290). -/
abbrev rxqHead (n : Nat) : Nat := 0x141010 + 0x100 * n
/-- RXQ_0_TAIL (R290). -/
abbrev rxqTail (n : Nat) : Nat := 0x141014 + 0x100 * n
/-- RXQ_0_NOBUF (R290). -/
abbrev rxqNobuf (n : Nat) : Nat := 0x141018 + 0x100 * n
/-- RXQ_0_CQFULL (R290). -/
abbrev rxqCqfull (n : Nat) : Nat := 0x14101C + 0x100 * n
/-- RXQ_0_SEQ (R290). -/
abbrev rxqSeq (n : Nat) : Nat := 0x141020 + 0x100 * n
/-- TXQ_0_CTRL (R290). -/
abbrev txqCtrl (n : Nat) : Nat := 0x142000 + 0x100 * n
/-- TXQ_0_BASE_LO (R290). -/
abbrev txqBaseLo (n : Nat) : Nat := 0x142004 + 0x100 * n
/-- TXQ_0_BASE_HI (R290). -/
abbrev txqBaseHi (n : Nat) : Nat := 0x142008 + 0x100 * n
/-- TXQ_0_SIZE (R290). -/
abbrev txqSize (n : Nat) : Nat := 0x14200C + 0x100 * n
/-- TXQ_0_TAIL (R290). -/
abbrev txqTail (n : Nat) : Nat := 0x142010 + 0x100 * n
/-- TXQ_0_HEAD (R290). -/
abbrev txqHead (n : Nat) : Nat := 0x142014 + 0x100 * n
/-- TXQ_0_ABORTED (R290). -/
abbrev txqAborted (n : Nat) : Nat := 0x142018 + 0x100 * n
/-- TXQ_0_BAD (R290). -/
abbrev txqBad (n : Nat) : Nat := 0x14201C + 0x100 * n
/-- PTP_CTRL (R319). -/
abbrev ptpCtrl : Nat := 0x90000
/-- PTP_STATUS (R319). -/
abbrev ptpStatus : Nat := 0x90004
/-- PTP_CLOCK_ID_LO (R319). -/
abbrev ptpClockIdLo : Nat := 0x90008
/-- PTP_CLOCK_ID_HI (R319). -/
abbrev ptpClockIdHi : Nat := 0x9000C
/-- PTP_DS (R319). -/
abbrev ptpDs : Nat := 0x90010
/-- PTP_OSLV (R319). -/
abbrev ptpOslv : Nat := 0x90014
/-- PTP_TSRC_0 (R319). -/
abbrev ptpTsrc0 : Nat := 0x90018
/-- PTP_TSRC_1 (R319). -/
abbrev ptpTsrc1 : Nat := 0x9001C
/-- PTP_TSRC_2 (R319). -/
abbrev ptpTsrc2 : Nat := 0x90020
/-- PTP_TSRC_3 (R319). -/
abbrev ptpTsrc3 : Nat := 0x90024
/-- PTP_TSRC_4 (R319). -/
abbrev ptpTsrc4 : Nat := 0x90028
/-- PTP_ORG (R319). -/
abbrev ptpOrg : Nat := 0x90030
/-- PTP_ORG_SUB (R319). -/
abbrev ptpOrgSub : Nat := 0x90034
/-- PTP_UC_POLICY (R319). -/
abbrev ptpUcPolicy : Nat := 0x90040
/-- PTP_UC_BUDGET (R319). -/
abbrev ptpUcBudget : Nat := 0x90044
/-- PTP_UC_STATUS (R319). -/
abbrev ptpUcStatus : Nat := 0x90048
/-- PTP_UC_RATE (R319). -/
abbrev ptpUcRate : Nat := 0x9004C
/-- PTP_UC_DENY (R319). -/
abbrev ptpUcDeny : Nat := 0x90050
/-- PTP_UC_SEL (R319). -/
abbrev ptpUcSel : Nat := 0x90054
/-- PTP_UC_DATA_0..9 (R319). -/
abbrev ptpUcData (n : Nat) : Nat := 0x90060 + 0x4 * n
/-- PTP_EVENTS (R319). -/
abbrev ptpEvents : Nat := 0x900A0
/-- PTP_EVENTS_EN (R319). -/
abbrev ptpEventsEn : Nat := 0x900A4
/-- PTP_TS_CTRL (R319). -/
abbrev ptpTsCtrl : Nat := 0x900B0
/-- PTP_TS_STATUS (R319). -/
abbrev ptpTsStatus : Nat := 0x900B4
/-- PTP_TS_0..3 (R319). -/
abbrev ptpTs (n : Nat) : Nat := 0x900C0 + 0x4 * n
/-- PTP_0_M_CFG (R320). -/
abbrev ptpMCfg (n : Nat) : Nat := 0x91000 + 0x200 * n
/-- PTP_0_M_INTV (R320). -/
abbrev ptpMIntv (n : Nat) : Nat := 0x91004 + 0x200 * n
/-- PTP_0_M_STATE (R320). -/
abbrev ptpMState (n : Nat) : Nat := 0x91008 + 0x200 * n
/-- PTP_0_IPV4 (R320). -/
abbrev ptpIpv4 (n : Nat) : Nat := 0x9100C + 0x200 * n
/-- PTP_0_IPV6_0..3 (R320). -/
abbrev ptpIpv6 (n k : Nat) : Nat := 0x91010 + 0x200 * n + 0x4 * k
/-- PTP_0_VLAN (R320). -/
abbrev ptpVlan (n : Nat) : Nat := 0x91020 + 0x200 * n
/-- PTP_0_AUTH (R320). -/
abbrev ptpAuth (n : Nat) : Nat := 0x91024 + 0x200 * n
/-- PTP_0_PDTHR (R320). -/
abbrev ptpPdthr (n : Nat) : Nat := 0x91028 + 0x200 * n
/-- PTP_0_LINK_DELAY (R320). -/
abbrev ptpLinkDelay (n : Nat) : Nat := 0x9102C + 0x200 * n
/-- PTP_0_S_CFG (R320). -/
abbrev ptpSCfg (n : Nat) : Nat := 0x91040 + 0x200 * n
/-- PTP_0_S_UC_IP (R320). -/
abbrev ptpSUcIp (n : Nat) : Nat := 0x91044 + 0x200 * n
/-- PTP_0_S_ASYM (R320). -/
abbrev ptpSAsym (n : Nat) : Nat := 0x91048 + 0x200 * n
/-- PTP_0_S_UNC_BASE (R320). -/
abbrev ptpSUncBase (n : Nat) : Nat := 0x9104C + 0x200 * n
/-- PTP_0_S_STATUS (R320). -/
abbrev ptpSStatus (n : Nat) : Nat := 0x91050 + 0x200 * n
/-- PTP_0_S_GM_LO (R320). -/
abbrev ptpSGmLo (n : Nat) : Nat := 0x91054 + 0x200 * n
/-- PTP_0_S_GM_HI (R320). -/
abbrev ptpSGmHi (n : Nat) : Nat := 0x91058 + 0x200 * n
/-- PTP_0_S_PARENT (R320). -/
abbrev ptpSParent (n : Nat) : Nat := 0x9105C + 0x200 * n
/-- PTP_0_S_DELAY (R320). -/
abbrev ptpSDelay (n : Nat) : Nat := 0x91060 + 0x200 * n
/-- PTP_0_RX_MSG (R320). -/
abbrev ptpRxMsg (n : Nat) : Nat := 0x91080 + 0x200 * n
/-- PTP_0_TX_MSG (R320). -/
abbrev ptpTxMsg (n : Nat) : Nat := 0x91084 + 0x200 * n
/-- PTP_0_NODOM (R320). -/
abbrev ptpNodom (n : Nat) : Nat := 0x91088 + 0x200 * n
/-- PTP_0_DROP (R320). -/
abbrev ptpDrop (n : Nat) : Nat := 0x9108C + 0x200 * n
/-- PTP_0_LATE (R320). -/
abbrev ptpLate (n : Nat) : Nat := 0x91090 + 0x200 * n
/-- PTP_0_AUTH_MISSING (R320). -/
abbrev ptpAuthMissing (n : Nat) : Nat := 0x91094 + 0x200 * n
/-- PTP_0_AUTH_NOKEY (R320). -/
abbrev ptpAuthNokey (n : Nat) : Nat := 0x91098 + 0x200 * n
/-- PTP_0_AUTH_BAD (R320). -/
abbrev ptpAuthBad (n : Nat) : Nat := 0x9109C + 0x200 * n
/-- PTP_0_S_GATED (R320). -/
abbrev ptpSGated (n : Nat) : Nat := 0x910A0 + 0x200 * n
/-- PTP_0_S_STEPPED (R320). -/
abbrev ptpSStepped (n : Nat) : Nat := 0x910A4 + 0x200 * n
/-- NTS_CTRL (R349). -/
abbrev ntsCtrl : Nat := 0xA0000
/-- NTS_STATUS (R349). -/
abbrev ntsStatus : Nat := 0xA0004
/-- NTS_CFG (R349). -/
abbrev ntsCfg : Nat := 0xA0008
/-- NTS_REFID (R349). -/
abbrev ntsRefid : Nat := 0xA000C
/-- NTS_BOUND_TYPE (R349). -/
abbrev ntsBoundType : Nat := 0xA0010
/-- NTS_RATE_CFG (R349). -/
abbrev ntsRateCfg : Nat := 0xA0014
/-- NTS_ROT_CFG (R349). -/
abbrev ntsRotCfg : Nat := 0xA0018
/-- NTS_ROT_LEFT (R349). -/
abbrev ntsRotLeft : Nat := 0xA001C
/-- NTS_ROT_CMD (R349). -/
abbrev ntsRotCmd : Nat := 0xA0020
/-- NTS_ROT_STATUS (R349). -/
abbrev ntsRotStatus : Nat := 0xA0024
/-- NTS_KEY_ID_0..3 (R349). -/
abbrev ntsKeyId (n : Nat) : Nat := 0xA0028 + 0x4 * n
/-- NTS_EVT_LEVEL (R349). -/
abbrev ntsEvtLevel : Nat := 0xA0038
/-- NTS_REQ_NTS (R349). -/
abbrev ntsReqNts : Nat := 0xA0100
/-- NTS_REQ_PLAIN (R349). -/
abbrev ntsReqPlain : Nat := 0xA0104
/-- NTS_RESP_NTS (R349). -/
abbrev ntsRespNts : Nat := 0xA0108
/-- NTS_RESP_PLAIN (R349). -/
abbrev ntsRespPlain : Nat := 0xA010C
/-- NTS_DROP_SILENT (R349). -/
abbrev ntsDropSilent : Nat := 0xA0110
/-- NTS_DROP_LEN (R349). -/
abbrev ntsDropLen : Nat := 0xA0114
/-- NTS_DROP_VER (R349). -/
abbrev ntsDropVer : Nat := 0xA0118
/-- NTS_DROP_MODE (R349). -/
abbrev ntsDropMode : Nat := 0xA011C
/-- NTS_DROP_FORMAT (R349). -/
abbrev ntsDropFormat : Nat := 0xA0120
/-- NTS_DROP_PLAIN_OFF (R349). -/
abbrev ntsDropPlainOff : Nat := 0xA0124
/-- NTS_DROP_RATE (R349). -/
abbrev ntsDropRate : Nat := 0xA0128
/-- NTS_DROP_OVERLOAD (R349). -/
abbrev ntsDropOverload : Nat := 0xA012C
/-- NTS_REJ_COOKIE (R349). -/
abbrev ntsRejCookie : Nat := 0xA0130
/-- NTS_REJ_AUTH (R349). -/
abbrev ntsRejAuth : Nat := 0xA0134
/-- NTS_NAK_SENT (R349). -/
abbrev ntsNakSent : Nat := 0xA0138
/-- NTS_LATE (R349). -/
abbrev ntsLate : Nat := 0xA013C
/-- NTS_MINT_KEY_0..15 (R349). -/
abbrev ntsMintKey (n : Nat) : Nat := 0xA0200 + 0x4 * n
/-- NTS_MINT_CTRL (R349). -/
abbrev ntsMintCtrl : Nat := 0xA0240
/-- NTS_MINT_STATUS (R349). -/
abbrev ntsMintStatus : Nat := 0xA0244
/-- NTS_0_IPV4 (R350). -/
abbrev ntsIpv4 (n : Nat) : Nat := 0xA1000 + 0x40 * n
/-- NTS_0_IPV6_0..3 (R350). -/
abbrev ntsIpv6 (n k : Nat) : Nat := 0xA1004 + 0x40 * n + 0x4 * k
/-- NTS_0_VLAN (R350). -/
abbrev ntsVlan (n : Nat) : Nat := 0xA1014 + 0x40 * n
/-- KEYS_STATUS (R352). -/
abbrev keysStatus : Nat := 0xB0000
/-- KEYS_ZEROIZE (R352). -/
abbrev keysZeroize : Nat := 0xB0004
/-- KEYS_BLOB_CTRL (R352). -/
abbrev keysBlobCtrl : Nat := 0xB0008
/-- KEYS_BLOB_STATUS (R352). -/
abbrev keysBlobStatus : Nat := 0xB000C
/-- KEYS_LOAD_0..7 (R352). -/
abbrev keysLoad (n : Nat) : Nat := 0xB0010 + 0x4 * n
/-- KEYS_LOAD_CTRL (R352). -/
abbrev keysLoadCtrl : Nat := 0xB0030
/-- KEYS_PTP_SKEW (R352). -/
abbrev keysPtpSkew : Nat := 0xB0040
/-- KEYS_PAIR_FAIL (R352). -/
abbrev keysPairFail : Nat := 0xB0044
/-- KEYS_CHECKS (R352). -/
abbrev keysChecks : Nat := 0xB0048
/-- KEYS_ID_PUB_0..7 (R352). -/
abbrev keysIdPub (n : Nat) : Nat := 0xB0080 + 0x4 * n
/-- KEYS_UID_LO (R352). -/
abbrev keysUidLo : Nat := 0xB00A0
/-- KEYS_UID_HI (R352). -/
abbrev keysUidHi : Nat := 0xB00A4
/-- KEYS_PTP_0_ID (R352). -/
abbrev keysPtpId (n : Nat) : Nat := 0xB1000 + 0x20 * n
/-- KEYS_PTP_0_CFG (R352). -/
abbrev keysPtpCfg (n : Nat) : Nat := 0xB1004 + 0x20 * n
/-- KEYS_PTP_0_FROM_LO (R352). -/
abbrev keysPtpFromLo (n : Nat) : Nat := 0xB1008 + 0x20 * n
/-- KEYS_PTP_0_FROM_HI (R352). -/
abbrev keysPtpFromHi (n : Nat) : Nat := 0xB100C + 0x20 * n
/-- KEYS_PTP_0_UNTIL_LO (R352). -/
abbrev keysPtpUntilLo (n : Nat) : Nat := 0xB1010 + 0x20 * n
/-- KEYS_PTP_0_UNTIL_HI (R352). -/
abbrev keysPtpUntilHi (n : Nat) : Nat := 0xB1014 + 0x20 * n
/-- RX_0_CTRL (R379). -/
abbrev rxCtrl (n : Nat) : Nat := 0xD0000 + 0x60 * n
/-- RX_0_FORMAT (R379). -/
abbrev rxFormat (n : Nat) : Nat := 0xD0004 + 0x60 * n
/-- RX_0_SLOT (R379). -/
abbrev rxSlot (n : Nat) : Nat := 0xD0008 + 0x60 * n
/-- RX_0_PLAYOUT (R379). -/
abbrev rxPlayout (n : Nat) : Nat := 0xD000C + 0x60 * n
/-- RX_0_P0_ADDR_0..3 (R379). -/
abbrev rxP0Addr (n k : Nat) : Nat := 0xD0010 + 0x60 * n + 0x4 * k
/-- RX_0_P1_ADDR_0..3 (R379). -/
abbrev rxP1Addr (n k : Nat) : Nat := 0xD0020 + 0x60 * n + 0x4 * k
/-- RX_0_P0_CFG (R379). -/
abbrev rxP0Cfg (n : Nat) : Nat := 0xD0030 + 0x60 * n
/-- RX_0_P1_CFG (R379). -/
abbrev rxP1Cfg (n : Nat) : Nat := 0xD0034 + 0x60 * n
/-- RX_0_CLAIM_CFG (R379). -/
abbrev rxClaimCfg (n : Nat) : Nat := 0xD0038 + 0x60 * n
/-- RX_0_STATUS (R379). -/
abbrev rxStatus (n : Nat) : Nat := 0xD003C + 0x60 * n
/-- RX_0_CLAIM_STATUS (R379). -/
abbrev rxClaimStatus (n : Nat) : Nat := 0xD0040 + 0x60 * n
/-- RX_0_PKT_0 (R379). -/
abbrev rxPkt (n : Nat) : Nat := 0xD0044 + 0x60 * n
/-- RX_0_PKT_1 (R379). -/
abbrev rxPkt1 (n : Nat) : Nat := 0xD0048 + 0x60 * n
/-- RX_0_HELD (R379). -/
abbrev rxHeld (n : Nat) : Nat := 0xD004C + 0x60 * n
/-- RX_0_DISCARD (R379). -/
abbrev rxDiscard (n : Nat) : Nat := 0xD0050 + 0x60 * n
/-- RX_0_DUP (R379). -/
abbrev rxDup (n : Nat) : Nat := 0xD0054 + 0x60 * n
/-- RX_0_RESUMES (R379). -/
abbrev rxResumes (n : Nat) : Nat := 0xD0058 + 0x60 * n
/-- RX_0_LAST_TS (R379). -/
abbrev rxLastTs (n : Nat) : Nat := 0xD005C + 0x60 * n
/-- TX_0_CTRL (R380). -/
abbrev txCtrl (n : Nat) : Nat := 0xD6000 + 0x60 * n
/-- TX_0_FORMAT (R380). -/
abbrev txFormat (n : Nat) : Nat := 0xD6004 + 0x60 * n
/-- TX_0_SLOT (R380). -/
abbrev txSlot (n : Nat) : Nat := 0xD6008 + 0x60 * n
/-- TX_0_TIMING (R380). -/
abbrev txTiming (n : Nat) : Nat := 0xD600C + 0x60 * n
/-- TX_0_P0_ADDR_0..3 (R380). -/
abbrev txP0Addr (n k : Nat) : Nat := 0xD6010 + 0x60 * n + 0x4 * k
/-- TX_0_P1_ADDR_0..3 (R380). -/
abbrev txP1Addr (n k : Nat) : Nat := 0xD6020 + 0x60 * n + 0x4 * k
/-- TX_0_P0_CFG (R380). -/
abbrev txP0Cfg (n : Nat) : Nat := 0xD6030 + 0x60 * n
/-- TX_0_P1_CFG (R380). -/
abbrev txP1Cfg (n : Nat) : Nat := 0xD6034 + 0x60 * n
/-- TX_0_SSRC (R380). -/
abbrev txSsrc (n : Nat) : Nat := 0xD6038 + 0x60 * n
/-- TX_0_CS_SRC (R380). -/
abbrev txCsSrc (n : Nat) : Nat := 0xD603C + 0x60 * n
/-- TX_0_STATUS (R380). -/
abbrev txStatus (n : Nat) : Nat := 0xD6040 + 0x60 * n
/-- TX_0_PKTS (R380). -/
abbrev txPkts (n : Nat) : Nat := 0xD6044 + 0x60 * n
/-- TX_0_SEQ (R380). -/
abbrev txSeq (n : Nat) : Nat := 0xD6048 + 0x60 * n
/-- TX_0_LAST_TS (R380). -/
abbrev txLastTs (n : Nat) : Nat := 0xD604C + 0x60 * n
/-- STREAM_CTRL (R383). -/
abbrev streamCtrl : Nat := 0xDC000
/-- STREAM_RX_EVT_0..7 (R383). -/
abbrev streamRxEvt (n : Nat) : Nat := 0xDC010 + 0x4 * n
/-- STREAM_TX_EVT_0..7 (R383). -/
abbrev streamTxEvt (n : Nat) : Nat := 0xDC030 + 0x4 * n
/-- STREAM_ASRC_EVT_0..3 (R383). -/
abbrev streamAsrcEvt (n : Nat) : Nat := 0xDC050 + 0x4 * n
/-- STREAM_PORT_n_IPV4 (R383). -/
abbrev streamPortIpv4 (n : Nat) : Nat := 0xDC080 + 0x20 * n
/-- STREAM_PORT_n_IPV6_0..3 (R383). -/
abbrev streamPortIpv6 (n k : Nat) : Nat := 0xDC084 + 0x20 * n + 0x4 * k
/-- ASRC_c_CFG (R383). -/
abbrev asrcCfg (n : Nat) : Nat := 0xDD000 + 0x8 * n
/-- ASRC_c_STATUS (R383). -/
abbrev asrcStatus (n : Nat) : Nat := 0xDD004 + 0x8 * n
/-- BRIDGE_i (R383). -/
abbrev bridge (n : Nat) : Nat := 0xDE000 + 0x4 * n
/-- SA_0_CFG (R384). -/
abbrev saCfg (n : Nat) : Nat := 0x180000 + 0x40 * n
/-- SA_0_SLOT (R384). -/
abbrev saSlot (n : Nat) : Nat := 0x180004 + 0x40 * n
/-- SA_0_STATUS (R384). -/
abbrev saStatus (n : Nat) : Nat := 0x180008 + 0x40 * n
/-- SA_0_SLIPS (R384). -/
abbrev saSlips (n : Nat) : Nat := 0x18000C + 0x40 * n
/-- SA_0_PARITY (R384). -/
abbrev saParity (n : Nat) : Nat := 0x180010 + 0x40 * n
/-- SA_0_LATE (R384). -/
abbrev saLate (n : Nat) : Nat := 0x180014 + 0x40 * n
/-- SA_0_CS_BAD (R384). -/
abbrev saCsBad (n : Nat) : Nat := 0x180018 + 0x40 * n
/-- SA_0_CS_0..5 (R384). -/
abbrev saCs (n k : Nat) : Nat := 0x180020 + 0x40 * n + 0x4 * k
/-- SERIAL_BANK_b_CFG (R384). -/
abbrev serialBankCfg (n : Nat) : Nat := 0x181000 + 0x4 * n
/-- SERIAL_EVT_LO (R384). -/
abbrev serialEvtLo : Nat := 0x181020
/-- SERIAL_EVT_HI (R384). -/
abbrev serialEvtHi : Nat := 0x181024
/-- TBL_SEL (R402). -/
abbrev tblSel : Nat := 0xE0000
/-- TBL_CMD (R402). -/
abbrev tblCmd : Nat := 0xE0004
/-- TBL_STATUS (R402). -/
abbrev tblStatus : Nat := 0xE0008
/-- TBL_DATA_0..3 (R402). -/
abbrev tblData (n : Nat) : Nat := 0xE0010 + 0x4 * n
/-- ROUTE_COMMIT (R402). -/
abbrev routeCommit : Nat := 0xE0020
/-- ROUTE_STATUS (R402). -/
abbrev routeStatus : Nat := 0xE0024
/-- ROUTE_CONFLICT (R402). -/
abbrev routeConflict : Nat := 0xE0028
/-- MIX_TERMS_A (R402). -/
abbrev mixTermsA : Nat := 0xE0030
/-- MIX_TERMS_B (R402). -/
abbrev mixTermsB : Nat := 0xE0034
/-- MIX_SAT (R402). -/
abbrev mixSat : Nat := 0xE0038
/-- METER_CFG (R402). -/
abbrev meterCfg : Nat := 0xE0040
/-- METER_CLIP (R402). -/
abbrev meterClip : Nat := 0xE0044
/-- STORE_CTRL (R404). -/
abbrev storeCtrl : Nat := 0xF0000
/-- STORE_SPLIT (R404). -/
abbrev storeSplit : Nat := 0xF0004
/-- STORE_STATUS (R404). -/
abbrev storeStatus : Nat := 0xF0008
/-- STORE_POOL (R404). -/
abbrev storePool : Nat := 0xF0010
/-- STORE_DRAM_TOTAL (R404). -/
abbrev storeDramTotal : Nat := 0xF0014
/-- STORE_DRAM_FREE (R404). -/
abbrev storeDramFree : Nat := 0xF0018
/-- PAGER_LOAD (R404). -/
abbrev pagerLoad : Nat := 0xF001C
/-- PAGER_STATUS (R404). -/
abbrev pagerStatus : Nat := 0xF0020
/-- PAGER_LOW (R404). -/
abbrev pagerLow : Nat := 0xF0024
/-- PAGER_MAXWAIT (R404). -/
abbrev pagerMaxwait : Nat := 0xF0028
/-- FACET_0_CTRL (R436). -/
abbrev facetCtrl (n : Nat) : Nat := 0x100000 + 0x400 * n
/-- FACET_0_STATUS (R436). -/
abbrev facetStatus (n : Nat) : Nat := 0x100004 + 0x400 * n
/-- FACET_0_RATE (R436). -/
abbrev facetRate (n : Nat) : Nat := 0x100008 + 0x400 * n
/-- FACET_0_MARGIN (R436). -/
abbrev facetMargin (n : Nat) : Nat := 0x10000C + 0x400 * n
/-- FACET_0_MARGIN_MIN (R436). -/
abbrev facetMarginMin (n : Nat) : Nat := 0x100010 + 0x400 * n
/-- FACET_0_CAPACITY (R436). -/
abbrev facetCapacity (n : Nat) : Nat := 0x100014 + 0x400 * n
/-- FACET_0_TASK_SEL (R436). -/
abbrev facetTaskSel (n : Nat) : Nat := 0x100018 + 0x400 * n
/-- FACET_0_TASK_DATA (R436). -/
abbrev facetTaskData (n : Nat) : Nat := 0x10001C + 0x400 * n
/-- FACET_0_MISSES (R436). -/
abbrev facetMisses (n : Nat) : Nat := 0x100020 + 0x400 * n
/-- FACET_0_MAIL_IN (R436). -/
abbrev facetMailIn (n : Nat) : Nat := 0x100024 + 0x400 * n
/-- FACET_0_MAIL_OUT (R436). -/
abbrev facetMailOut (n : Nat) : Nat := 0x100028 + 0x400 * n
/-- FACET_0_MAIL_STATUS (R436). -/
abbrev facetMailStatus (n : Nat) : Nat := 0x10002C + 0x400 * n
/-- SCHED_CTRL (R438). -/
abbrev schedCtrl : Nat := 0x178000
/-- SCHED_CFG (R438). -/
abbrev schedCfg : Nat := 0x178004
/-- SCHED_STATUS (R438). -/
abbrev schedStatus : Nat := 0x178008
/-- SCHED_LEND_SP (R438). -/
abbrev schedLendSp : Nat := 0x17800C
/-- SCHED_MIG_LAST (R438). -/
abbrev schedMigLast : Nat := 0x178010
/-- SCHED_MIG_TIME_LO (R438). -/
abbrev schedMigTimeLo : Nat := 0x178014
/-- SCHED_MIG_TIME_HI (R438). -/
abbrev schedMigTimeHi : Nat := 0x178018
/-- SCHED_MIG_COUNT (R438). -/
abbrev schedMigCount : Nat := 0x17801C
/-- SCHED_ST (R438). -/
abbrev schedSt : Nat := 0x178020
/-- SCHED_MARGIN_EVT_0..7 (R438). -/
abbrev schedMarginEvt (n : Nat) : Nat := 0x178040 + 0x4 * n
/-- SCHED_MAIL_EVT_0..7 (R438). -/
abbrev schedMailEvt (n : Nat) : Nat := 0x178060 + 0x4 * n
/-- PAIR_CTRL (R499). -/
abbrev pairCtrl : Nat := 0x150000
/-- PAIR_CMD (R499). -/
abbrev pairCmd : Nat := 0x150004
/-- PAIR_STATUS (R499). -/
abbrev pairStatus : Nat := 0x150008
/-- PAIR_CLAIM (R499). -/
abbrev pairClaim : Nat := 0x15000C
/-- PAIR_ARB (R499). -/
abbrev pairArb : Nat := 0x150010
/-- PAIR_HEALTH (R499). -/
abbrev pairHealth : Nat := 0x150014
/-- PAIR_LATENCY (R499). -/
abbrev pairLatency : Nat := 0x150018
/-- PAIR_ASYM (R499). -/
abbrev pairAsym : Nat := 0x15001C
/-- PAIR_UNC_BASE (R499). -/
abbrev pairUncBase : Nat := 0x150020
/-- PAIR_OFFSET (R499). -/
abbrev pairOffset : Nat := 0x150024
/-- PAIR_MISMATCHES (R499). -/
abbrev pairMismatches : Nat := 0x150028
/-- PAIR_DIGEST_MISS (R499). -/
abbrev pairDigestMiss : Nat := 0x15002C
/-- PAIR_MIRROR_MISS (R499). -/
abbrev pairMirrorMiss : Nat := 0x150030
/-- PAIR_CRC_ERR (R499). -/
abbrev pairCrcErr : Nat := 0x150034
/-- PAIR_LINK_LOSSES (R499). -/
abbrev pairLinkLosses : Nat := 0x150038
/-- PAIR_RESYNCS (R499). -/
abbrev pairResyncs : Nat := 0x15003C
/-- PAIR_LAST_MISMATCH (R499). -/
abbrev pairLastMismatch : Nat := 0x150040
/-- PAIR_XFER (R499). -/
abbrev pairXfer : Nat := 0x150044
/-- PAIR_LAST_JOIN_US (R499). -/
abbrev pairLastJoinUs : Nat := 0x150048
/-- PAIR_PARTNER_DIGEST_0..7 (R499). -/
abbrev pairPartnerDigest (n : Nat) : Nat := 0x150050 + 0x4 * n
/-- CHAIN_CTRL (R516). -/
abbrev chainCtrl : Nat := 0x160000
/-- CHAIN_STATUS (R516). -/
abbrev chainStatus : Nat := 0x160004
/-- CHAIN_ORIGIN (R516). -/
abbrev chainOrigin : Nat := 0x160008
/-- CHAIN_NODES (R516). -/
abbrev chainNodes : Nat := 0x16000C
/-- CHAIN_UP_DELAY (R516). -/
abbrev chainUpDelay : Nat := 0x160010
/-- CHAIN_DN_DELAY (R516). -/
abbrev chainDnDelay : Nat := 0x160014
/-- CHAIN_UP_ASYM (R516). -/
abbrev chainUpAsym : Nat := 0x160018
/-- CHAIN_DN_ASYM (R516). -/
abbrev chainDnAsym : Nat := 0x16001C
/-- CHAIN_UNC_BASE (R516). -/
abbrev chainUncBase : Nat := 0x160020
/-- CHAIN_CRC_ERR (R516). -/
abbrev chainCrcErr : Nat := 0x160024
/-- CHAIN_DROPS (R516). -/
abbrev chainDrops : Nat := 0x160028
/-- CHAIN_LOSSES (R516). -/
abbrev chainLosses : Nat := 0x16002C
/-- PARTNER_CTRL (R516). -/
abbrev partnerCtrl : Nat := 0x160040
/-- PARTNER_STATUS (R516). -/
abbrev partnerStatus : Nat := 0x160044
/-- PARTNER_FULL (R516). -/
abbrev partnerFull : Nat := 0x160048
/-- PARTNER_SEL (R516). -/
abbrev partnerSel : Nat := 0x16004C
/-- PARTNER_DATA_0..5 (R516). -/
abbrev partnerData (n : Nat) : Nat := 0x160050 + 0x4 * n
/-- FAULT_STATUS_LO (R535). -/
abbrev faultStatusLo : Nat := 0x20000
/-- FAULT_STATUS_HI (R535). -/
abbrev faultStatusHi : Nat := 0x20004
/-- FAULT_LIVE_LO (R535). -/
abbrev faultLiveLo : Nat := 0x20008
/-- FAULT_LIVE_HI (R535). -/
abbrev faultLiveHi : Nat := 0x2000C
/-- FAULT_FORCE_LO (R535). -/
abbrev faultForceLo : Nat := 0x20010
/-- FAULT_FORCE_HI (R535). -/
abbrev faultForceHi : Nat := 0x20014
/-- FAULT_FORCE_ARM (R535). -/
abbrev faultForceArm : Nat := 0x20018
/-- FAULT_SOFT (R535). -/
abbrev faultSoft : Nat := 0x2001C
/-- FAULT_FIRST (R535). -/
abbrev faultFirst : Nat := 0x20020
/-- FAULT_FIRST_TIME_LO (R535). -/
abbrev faultFirstTimeLo : Nat := 0x20024
/-- FAULT_FIRST_TIME_HI (R535). -/
abbrev faultFirstTimeHi : Nat := 0x20028
/-- FAULT_GRAVE (R535). -/
abbrev faultGrave : Nat := 0x20030
/-- FAULT_GRAVE_TIME_LO (R535). -/
abbrev faultGraveTimeLo : Nat := 0x20034
/-- FAULT_GRAVE_TIME_HI (R535). -/
abbrev faultGraveTimeHi : Nat := 0x20038
/-- FAULT_EPIN (R535). -/
abbrev faultEpin : Nat := 0x20040
/-- FAULT_NMI (R535). -/
abbrev faultNmi : Nat := 0x20044
/-- FAULT_CFG_0..47 (R535). -/
abbrev faultCfg (n : Nat) : Nat := 0x20100 + 0x4 * n
/-- FAULT_DETAIL_0..47 (R535). -/
abbrev faultDetail (n : Nat) : Nat := 0x20200 + 0x4 * n
/-- INTC_CTRL (R557). -/
abbrev intcCtrl : Nat := 0x30000
/-- INTC_SW (R557). -/
abbrev intcSw : Nat := 0x30004
/-- INTC_PEND_LO (R557). -/
abbrev intcPendLo : Nat := 0x30008
/-- INTC_PEND_HI (R557). -/
abbrev intcPendHi : Nat := 0x3000C
/-- INTC_INSVC_LO (R557). -/
abbrev intcInsvcLo : Nat := 0x30010
/-- INTC_INSVC_HI (R557). -/
abbrev intcInsvcHi : Nat := 0x30014
/-- EVT_0 (R557). -/
abbrev evt0 : Nat := 0x30020
/-- EVT_1 (R557). -/
abbrev evt1 : Nat := 0x30024
/-- EVT_CTRL (R557). -/
abbrev evtCtrl : Nat := 0x30028
/-- EVT_STATUS (R557). -/
abbrev evtStatus : Nat := 0x3002C
/-- PPS_0_CAP_0 (R557). -/
abbrev ppsCap (n : Nat) : Nat := 0x30100 + 0x20 * n
/-- PPS_0_CAP_1 (R557). -/
abbrev ppsCap1 (n : Nat) : Nat := 0x30104 + 0x20 * n
/-- PPS_0_CAP_2 (R557). -/
abbrev ppsCap2 (n : Nat) : Nat := 0x30108 + 0x20 * n
/-- PPS_0_CTRL (R557). -/
abbrev ppsCtrl (n : Nat) : Nat := 0x3010C + 0x20 * n
/-- PPS_0_STATUS (R557). -/
abbrev ppsStatus (n : Nat) : Nat := 0x30110 + 0x20 * n
/-- INTC_TGT_0_CFG (R557). -/
abbrev intcTgtCfg (n : Nat) : Nat := 0x30200 + 0x20 * n
/-- INTC_TGT_0_CLAIM (R557). -/
abbrev intcTgtClaim (n : Nat) : Nat := 0x30204 + 0x20 * n
/-- INTC_TGT_0_COMPLETE (R557). -/
abbrev intcTgtComplete (n : Nat) : Nat := 0x30208 + 0x20 * n
/-- INTC_TGT_0_STATUS (R557). -/
abbrev intcTgtStatus (n : Nat) : Nat := 0x3020C + 0x20 * n
/-- INTC_SRC_0_CFG (R557). -/
abbrev intcSrcCfg (n : Nat) : Nat := 0x31000 + 0x4 * n
/-- PG_0_LATENCY (R575). -/
abbrev pgLatency (n : Nat) : Nat := 0x1000 + 0x10 * n
/-- PG_0_STATUS (R575). -/
abbrev pgStatus (n : Nat) : Nat := 0x1004 + 0x10 * n
/-- PG_0_WAKES (R575). -/
abbrev pgWakes (n : Nat) : Nat := 0x1008 + 0x10 * n
/-- PG_EVT (R575). -/
abbrev pgEvt : Nat := 0x1200
/-- AGE_CTRL (R576). -/
abbrev ageCtrl : Nat := 0x170000
/-- VID_CTRL (R576). -/
abbrev vidCtrl : Nat := 0x170004
/-- VID_STATUS (R576). -/
abbrev vidStatus : Nat := 0x170008
/-- VMON (R576). -/
abbrev vmon : Nat := 0x17000C
/-- AGE_HOURS (R576). -/
abbrev ageHours : Nat := 0x170010
/-- AGE_HEALTH (R576). -/
abbrev ageHealth : Nat := 0x170014
/-- AGE_TJ (R576). -/
abbrev ageTj : Nat := 0x170018
/-- THERM_CFG (R576). -/
abbrev thermCfg : Nat := 0x17001C
/-- THERM_STATUS (R576). -/
abbrev thermStatus : Nat := 0x170020
/-- AGE_FIT_A (R576). -/
abbrev ageFitA : Nat := 0x170024
/-- AGE_FIT_N (R576). -/
abbrev ageFitN : Nat := 0x170028
/-- AGE_SENT_0..19 (R576). -/
abbrev ageSent (n : Nat) : Nat := 0x170040 + 0x4 * n
/-- AGE_EOL_0..15 (R576). -/
abbrev ageEol (n : Nat) : Nat := 0x1700C0 + 0x4 * n
/-- GLOBAL_ID (R593). -/
abbrev globalId : Nat := 0x0
/-- GLOBAL_RESET (R593). -/
abbrev globalReset : Nat := 0x4
/-- GLOBAL_RESET_CAUSE (R593). -/
abbrev globalResetCause : Nat := 0x8
/-- HOST_STATUS (R593). -/
abbrev hostStatus : Nat := 0xC
/-- HOST_WDOG_CTRL (R593). -/
abbrev hostWdogCtrl : Nat := 0x10
/-- HOST_WDOG_KICK (R593). -/
abbrev hostWdogKick : Nat := 0x14
/-- HOST_WDOG_STATUS (R593). -/
abbrev hostWdogStatus : Nat := 0x18
/-- DB_SET (R593). -/
abbrev dbSet : Nat := 0x20
/-- DB_STATUS (R593). -/
abbrev dbStatus : Nat := 0x24
/-- DB_EN (R593). -/
abbrev dbEn : Nat := 0x28
/-- DB_MSG_0..3 (R593). -/
abbrev dbMsg (n : Nat) : Nat := 0x30 + 0x4 * n
/-- HOST_SPI_CTRL (R593). -/
abbrev hostSpiCtrl : Nat := 0x40
/-- DBG_CTRL (R595). -/
abbrev dbgCtrl : Nat := 0x1A0000
/-- DBG_VIOL_COUNT (R595). -/
abbrev dbgViolCount : Nat := 0x1A0004
/-- DBG_VIOL_ADDR (R595). -/
abbrev dbgViolAddr : Nat := 0x1A0008
/-- DBG_VIOL_INFO (R595). -/
abbrev dbgViolInfo : Nat := 0x1A000C
/-- DRAM_CTRL (R605). -/
abbrev dramCtrl : Nat := 0x190000
/-- DRAM_STATUS (R605). -/
abbrev dramStatus : Nat := 0x190004
/-- DRAM_CFG (R605). -/
abbrev dramCfg : Nat := 0x190008
/-- DRAM_SIZE (R605). -/
abbrev dramSize : Nat := 0x19000C
/-- DRAM_TRAIN_COUNT (R605). -/
abbrev dramTrainCount : Nat := 0x190010
/-- DRAM_TIMING_0..7 (R605). -/
abbrev dramTiming (n : Nat) : Nat := 0x190020 + 0x4 * n
/-- DRAM_MR_0..6 (R605). -/
abbrev dramMr (n : Nat) : Nat := 0x190040 + 0x4 * n
/-- DRAM_MRS_CMD (R605). -/
abbrev dramMrsCmd : Nat := 0x19005C
/-- DRAM_REFRESH (R605). -/
abbrev dramRefresh : Nat := 0x190060
/-- DRAM_ZQ_CTRL (R605). -/
abbrev dramZqCtrl : Nat := 0x190064
/-- DRAM_PHY_LANE_0..4 (R605). -/
abbrev dramPhyLane (n : Nat) : Nat := 0x190070 + 0x4 * n
/-- DRAM_PHY_CA (R605). -/
abbrev dramPhyCa : Nat := 0x190084
/-- DRAM_TRAIN_CTRL (R605). -/
abbrev dramTrainCtrl : Nat := 0x190090
/-- DRAM_TRAIN_STATUS (R605). -/
abbrev dramTrainStatus : Nat := 0x190094
/-- DRAM_TRAIN_CA (R605). -/
abbrev dramTrainCa : Nat := 0x190098
/-- DRAM_TRAIN_WL_0..4 (R605). -/
abbrev dramTrainWl (n : Nat) : Nat := 0x1900A0 + 0x4 * n
/-- DRAM_TRAIN_RGATE_0..4 (R605). -/
abbrev dramTrainRgate (n : Nat) : Nat := 0x1900C0 + 0x4 * n
/-- DRAM_TRAIN_RDLY_0..4 (R605). -/
abbrev dramTrainRdly (n : Nat) : Nat := 0x1900E0 + 0x4 * n
/-- DRAM_TRAIN_WDLY_0..4 (R605). -/
abbrev dramTrainWdly (n : Nat) : Nat := 0x190100 + 0x4 * n
/-- DRAM_TRAIN_VREF_0..4 (R605). -/
abbrev dramTrainVref (n : Nat) : Nat := 0x190120 + 0x4 * n
/-- DRAM_DESKEW_RD_0..4 (R605). -/
abbrev dramDeskewRd (n : Nat) : Nat := 0x190140 + 0x4 * n
/-- DRAM_DESKEW_WR_0..4 (R605). -/
abbrev dramDeskewWr (n : Nat) : Nat := 0x190160 + 0x4 * n
/-- DRAM_ECC_CTRL (R605). -/
abbrev dramEccCtrl : Nat := 0x190180
/-- DRAM_ECC_STATUS (R605). -/
abbrev dramEccStatus : Nat := 0x190184
/-- DRAM_ECC_CE_COUNT (R605). -/
abbrev dramEccCeCount : Nat := 0x190188
/-- DRAM_ECC_UE_COUNT (R605). -/
abbrev dramEccUeCount : Nat := 0x19018C
/-- DRAM_ECC_ADDR_LO (R605). -/
abbrev dramEccAddrLo : Nat := 0x190190
/-- DRAM_ECC_ADDR_HI (R605). -/
abbrev dramEccAddrHi : Nat := 0x190194
/-- DRAM_ECC_SYNDROME (R605). -/
abbrev dramEccSyndrome : Nat := 0x190198
/-- DRAM_ECC_INJECT (R605). -/
abbrev dramEccInject : Nat := 0x19019C
/-- DRAM_SCRUB_CTRL (R605). -/
abbrev dramScrubCtrl : Nat := 0x1901A0
/-- DRAM_SCRUB_STATUS (R605). -/
abbrev dramScrubStatus : Nat := 0x1901A4
/-- DRAM_ALERT (R605). -/
abbrev dramAlert : Nat := 0x1901B0
/-- DRAM_LOAD (R605). -/
abbrev dramLoad : Nat := 0x1901B4
/-- DRAM_MAXLAT (R605). -/
abbrev dramMaxlat : Nat := 0x1901B8
/-- DRAM_TEMP (R605). -/
abbrev dramTemp : Nat := 0x1901BC
/-- DRAM_CHAR_ID_0..2 (R605). -/
abbrev dramCharId (n : Nat) : Nat := 0x1901C0 + 0x4 * n

end Reg

namespace Fld

/-- STRUCT_CTRL.ABORT (R58). -/
abbrev structCtrl_ABORT : Bits := ⟨1, 1⟩
/-- STRUCT_CTRL.LOAD (R58). -/
abbrev structCtrl_LOAD : Bits := ⟨0, 1⟩
/-- STRUCT_STATUS.OWNER_OPEN (R58). -/
abbrev structStatus_OWNER_OPEN : Bits := ⟨19, 1⟩
/-- STRUCT_STATUS.ALT_USED (R58). -/
abbrev structStatus_ALT_USED : Bits := ⟨18, 1⟩
/-- STRUCT_STATUS.PARTIAL (R58). -/
abbrev structStatus_PARTIAL : Bits := ⟨17, 1⟩
/-- STRUCT_STATUS.BUSY (R58). -/
abbrev structStatus_BUSY : Bits := ⟨16, 1⟩
/-- STRUCT_STATUS.ERROR (R58). -/
abbrev structStatus_ERROR : Bits := ⟨8, 4⟩
/-- STRUCT_STATUS.STATE (R58). -/
abbrev structStatus_STATE : Bits := ⟨0, 4⟩
/-- STRUCT_QSPI_CFG.ADDR4 (R58). -/
abbrev structQspiCfg_ADDR4 : Bits := ⟨12, 1⟩
/-- STRUCT_QSPI_CFG.DUMMY (R58). -/
abbrev structQspiCfg_DUMMY : Bits := ⟨8, 4⟩
/-- STRUCT_QSPI_CFG.CMD (R58). -/
abbrev structQspiCfg_CMD : Bits := ⟨0, 8⟩
/-- STRUCT_ASBUILT_SEL.PARAM (R58). -/
abbrev structAsbuiltSel_PARAM : Bits := ⟨16, 16⟩
/-- STRUCT_ASBUILT_SEL.WORD (R58). -/
abbrev structAsbuiltSel_WORD : Bits := ⟨12, 4⟩
/-- STRUCT_ASBUILT_SEL.INSTANCE (R58). -/
abbrev structAsbuiltSel_INSTANCE : Bits := ⟨0, 8⟩
/-- REF_0_CTRL.ACCEPT (R102). -/
abbrev refCtrl_ACCEPT : Bits := ⟨8, 1⟩
/-- REF_0_CTRL.RANK (R102). -/
abbrev refCtrl_RANK : Bits := ⟨4, 4⟩
/-- REF_0_CTRL.EDGE (R102). -/
abbrev refCtrl_EDGE : Bits := ⟨1, 1⟩
/-- REF_0_CTRL.ENABLE (R102). -/
abbrev refCtrl_ENABLE : Bits := ⟨0, 1⟩
/-- REF_0_STATE.KIND (R102). -/
abbrev refState_KIND : Bits := ⟨12, 2⟩
/-- REF_0_STATE.BLOCKED (R102). -/
abbrev refState_BLOCKED : Bits := ⟨11, 1⟩
/-- REF_0_STATE.DRIFT_WARN (R102). -/
abbrev refState_DRIFT_WARN : Bits := ⟨10, 1⟩
/-- REF_0_STATE.TOD_OK (R102). -/
abbrev refState_TOD_OK : Bits := ⟨9, 1⟩
/-- REF_0_STATE.ACTIVITY (R102). -/
abbrev refState_ACTIVITY : Bits := ⟨8, 1⟩
/-- REF_0_STATE.STATE (R102). -/
abbrev refState_STATE : Bits := ⟨0, 3⟩
/-- REF_0_HISTORY.EVER_DRIFT_HARD (R102). -/
abbrev refHistory_EVER_DRIFT_HARD : Bits := ⟨4, 1⟩
/-- REF_0_HISTORY.EVER_DRIFT_WARN (R102). -/
abbrev refHistory_EVER_DRIFT_WARN : Bits := ⟨3, 1⟩
/-- REF_0_HISTORY.EVER_INCONSISTENT (R102). -/
abbrev refHistory_EVER_INCONSISTENT : Bits := ⟨2, 1⟩
/-- REF_0_HISTORY.EVER_SELECTED (R102). -/
abbrev refHistory_EVER_SELECTED : Bits := ⟨1, 1⟩
/-- REF_0_HISTORY.EVER_LOST (R102). -/
abbrev refHistory_EVER_LOST : Bits := ⟨0, 1⟩
/-- REF_0_TOD_CFG.LEVEL (R102). -/
abbrev refTodCfg_LEVEL : Bits := ⟨16, 8⟩
/-- REF_0_TOD_CFG.TIMEOUT (R102). -/
abbrev refTodCfg_TIMEOUT : Bits := ⟨8, 4⟩
/-- REF_0_TOD_CFG.BAUD (R102). -/
abbrev refTodCfg_BAUD : Bits := ⟨0, 3⟩
/-- REF_0_TOD_DATA.OVERRUN (R102). -/
abbrev refTodData_OVERRUN : Bits := ⟨9, 1⟩
/-- REF_0_TOD_DATA.UNDERRUN (R102). -/
abbrev refTodData_UNDERRUN : Bits := ⟨8, 1⟩
/-- REF_0_TOD_DATA.DATA (R102). -/
abbrev refTodData_DATA : Bits := ⟨0, 8⟩
/-- REF_0_OFS_STATUS.ACCEPTED (R102). -/
abbrev refOfsStatus_ACCEPTED : Bits := ⟨16, 16⟩
/-- REF_0_OFS_STATUS.STALE (R102). -/
abbrev refOfsStatus_STALE : Bits := ⟨8, 8⟩
/-- REF_0_OFS_STATUS.FUTURE (R102). -/
abbrev refOfsStatus_FUTURE : Bits := ⟨0, 8⟩
/-- SEL_CTRL.MANUAL_ID (R108). -/
abbrev selCtrl_MANUAL_ID : Bits := ⟨8, 5⟩
/-- SEL_CTRL.REVERTIVE (R108). -/
abbrev selCtrl_REVERTIVE : Bits := ⟨5, 1⟩
/-- SEL_CTRL.MODE (R108). -/
abbrev selCtrl_MODE : Bits := ⟨0, 2⟩
/-- SEL_STATUS.SELECTED_ID (R108). -/
abbrev selStatus_SELECTED_ID : Bits := ⟨24, 5⟩
/-- SEL_STATUS.DISAGREE (R108). -/
abbrev selStatus_DISAGREE : Bits := ⟨17, 1⟩
/-- SEL_STATUS.PULLING (R108). -/
abbrev selStatus_PULLING : Bits := ⟨16, 1⟩
/-- SEL_STATUS.SWITCHES (R108). -/
abbrev selStatus_SWITCHES : Bits := ⟨0, 16⟩
/-- SEL_LAST.FROM (R108). -/
abbrev selLast_FROM : Bits := ⟨24, 5⟩
/-- SEL_LAST.TO (R108). -/
abbrev selLast_TO : Bits := ⟨16, 5⟩
/-- SEL_LAST.REASON (R108). -/
abbrev selLast_REASON : Bits := ⟨0, 4⟩
/-- HOLD_CTRL.ENTRY_AVG (R140). -/
abbrev holdCtrl_ENTRY_AVG : Bits := ⟨16, 12⟩
/-- HOLD_CTRL.ENTRY_GUARD (R140). -/
abbrev holdCtrl_ENTRY_GUARD : Bits := ⟨8, 4⟩
/-- HOLD_CTRL.TEMP_EN (R140). -/
abbrev holdCtrl_TEMP_EN : Bits := ⟨1, 1⟩
/-- HOLD_CTRL.LEARN (R140). -/
abbrev holdCtrl_LEARN : Bits := ⟨0, 1⟩
/-- HOLD_STATUS.CLASS (R140). -/
abbrev holdStatus_CLASS : Bits := ⟨16, 8⟩
/-- HOLD_STATUS.AGE_FIT (R140). -/
abbrev holdStatus_AGE_FIT : Bits := ⟨11, 1⟩
/-- HOLD_STATUS.LEARNED_B (R140). -/
abbrev holdStatus_LEARNED_B : Bits := ⟨10, 1⟩
/-- HOLD_STATUS.LEARNED_A (R140). -/
abbrev holdStatus_LEARNED_A : Bits := ⟨9, 1⟩
/-- HOLD_STATUS.EVER_LOCKED (R140). -/
abbrev holdStatus_EVER_LOCKED : Bits := ⟨8, 1⟩
/-- HOLD_STATUS.STATE (R140). -/
abbrev holdStatus_STATE : Bits := ⟨0, 3⟩
/-- HOLD_LOCK_CFG.FTOL (R140). -/
abbrev holdLockCfg_FTOL : Bits := ⟨8, 16⟩
/-- HOLD_LOCK_CFG.SECS (R140). -/
abbrev holdLockCfg_SECS : Bits := ⟨0, 8⟩
/-- HOLD_TEMP_CFG.POINTER (R140). -/
abbrev holdTempCfg_POINTER : Bits := ⟨16, 8⟩
/-- HOLD_TEMP_CFG.ADDR (R140). -/
abbrev holdTempCfg_ADDR : Bits := ⟨8, 7⟩
/-- HOLD_TEMP_CFG.FAST (R140). -/
abbrev holdTempCfg_FAST : Bits := ⟨1, 1⟩
/-- HOLD_TEMP_CFG.EN (R140). -/
abbrev holdTempCfg_EN : Bits := ⟨0, 1⟩
/-- HOLD_SNAP_STATUS.REFUSED (R140). -/
abbrev holdSnapStatus_REFUSED : Bits := ⟨19, 1⟩
/-- HOLD_SNAP_STATUS.BUSY (R140). -/
abbrev holdSnapStatus_BUSY : Bits := ⟨18, 1⟩
/-- HOLD_SNAP_STATUS.RESULT (R140). -/
abbrev holdSnapStatus_RESULT : Bits := ⟨12, 4⟩
/-- HOLD_CLASS_MAP_0.OUT_OF_SPEC (R140). -/
abbrev holdClassMap0_OUT_OF_SPEC : Bits := ⟨24, 8⟩
/-- HOLD_CLASS_MAP_0.DEGRADED (R140). -/
abbrev holdClassMap0_DEGRADED : Bits := ⟨16, 8⟩
/-- HOLD_CLASS_MAP_0.IN_SPEC (R140). -/
abbrev holdClassMap0_IN_SPEC : Bits := ⟨8, 8⟩
/-- HOLD_CLASS_MAP_0.LOCKED (R140). -/
abbrev holdClassMap0_LOCKED : Bits := ⟨0, 8⟩
/-- HOLD_CLASS_MAP_1.OUT_OF_SPEC (R140). -/
abbrev holdClassMap1_OUT_OF_SPEC : Bits := ⟨24, 8⟩
/-- HOLD_CLASS_MAP_1.DEGRADED (R140). -/
abbrev holdClassMap1_DEGRADED : Bits := ⟨16, 8⟩
/-- HOLD_CLASS_MAP_1.IN_SPEC (R140). -/
abbrev holdClassMap1_IN_SPEC : Bits := ⟨8, 8⟩
/-- HOLD_CLASS_MAP_1.LOCKED (R140). -/
abbrev holdClassMap1_LOCKED : Bits := ⟨0, 8⟩
/-- LEDGER_STATUS.SEQ (R140). -/
abbrev ledgerStatus_SEQ : Bits := ⟨16, 16⟩
/-- LEDGER_STATUS.SATURATED (R140). -/
abbrev ledgerStatus_SATURATED : Bits := ⟨4, 1⟩
/-- LEDGER_STATUS.UNTRACEABLE (R140). -/
abbrev ledgerStatus_UNTRACEABLE : Bits := ⟨3, 1⟩
/-- LEDGER_STATUS.OVER_LIMIT (R140). -/
abbrev ledgerStatus_OVER_LIMIT : Bits := ⟨2, 1⟩
/-- LEDGER_TRACE.ANCHOR_ID (R140). -/
abbrev ledgerTrace_ANCHOR_ID : Bits := ⟨24, 5⟩
/-- LEDGER_TRACE.SELECTED (R140). -/
abbrev ledgerTrace_SELECTED : Bits := ⟨16, 5⟩
/-- LEDGER_TRACE.FREQ_ONLY (R140). -/
abbrev ledgerTrace_FREQ_ONLY : Bits := ⟨2, 1⟩
/-- LEDGER_TRACE.MODEL_LEARNED (R140). -/
abbrev ledgerTrace_MODEL_LEARNED : Bits := ⟨1, 1⟩
/-- LEDGER_TRACE.OSC (R140). -/
abbrev ledgerTrace_OSC : Bits := ⟨0, 1⟩
/-- SYN_G_CTRL.PULL (R171). -/
abbrev synCtrl_PULL : Bits := ⟨8, 3⟩
/-- SYN_G_CTRL.RELOCK (R171). -/
abbrev synCtrl_RELOCK : Bits := ⟨2, 1⟩
/-- SYN_G_CTRL.SURVEY (R171). -/
abbrev synCtrl_SURVEY : Bits := ⟨1, 1⟩
/-- SYN_G_CTRL.TABLE_READY (R171). -/
abbrev synCtrl_TABLE_READY : Bits := ⟨0, 1⟩
/-- SYN_G_STATUS.BAND (R171). -/
abbrev synStatus_BAND : Bits := ⟨18, 6⟩
/-- SYN_G_STATUS.BYPASS (R171). -/
abbrev synStatus_BYPASS : Bits := ⟨15, 1⟩
/-- SYN_G_STATUS.GATED (R171). -/
abbrev synStatus_GATED : Bits := ⟨14, 1⟩
/-- SYN_G_STATUS.SURVEY_FAIL (R171). -/
abbrev synStatus_SURVEY_FAIL : Bits := ⟨13, 1⟩
/-- SYN_G_STATUS.STATE (R171). -/
abbrev synStatus_STATE : Bits := ⟨0, 3⟩
/-- SYN_G_LOOP.UNLOCK_TOL (R171). -/
abbrev synLoop_UNLOCK_TOL : Bits := ⟨16, 8⟩
/-- SYN_G_LOOP.LOCK_TOL (R171). -/
abbrev synLoop_LOCK_TOL : Bits := ⟨8, 8⟩
/-- SYN_G_LOOP.BW (R171). -/
abbrev synLoop_BW : Bits := ⟨0, 2⟩
/-- SYN_G_BAND_0..63.VALID (R171). -/
abbrev synBand_VALID : Bits := ⟨31, 1⟩
/-- SYN_G_BAND_0..63.CENTRE_KHZ (R171). -/
abbrev synBand_CENTRE_KHZ : Bits := ⟨0, 24⟩
/-- OUT_0_CTRL.BYPDIV (R173). -/
abbrev outCtrl_BYPDIV : Bits := ⟨12, 10⟩
/-- OUT_0_CTRL.SRC (R173). -/
abbrev outCtrl_SRC : Bits := ⟨8, 2⟩
/-- OUT_0_CTRL.TB (R173). -/
abbrev outCtrl_TB : Bits := ⟨4, 3⟩
/-- OUT_0_CTRL.PERIOD (R173). -/
abbrev outCtrl_PERIOD : Bits := ⟨1, 3⟩
/-- OUT_0_CTRL.ENABLE (R173). -/
abbrev outCtrl_ENABLE : Bits := ⟨0, 1⟩
/-- OUT_0_PAD.DRIVE (R173). -/
abbrev outPad_DRIVE : Bits := ⟨4, 2⟩
/-- OUT_0_PAD.INVERT (R173). -/
abbrev outPad_INVERT : Bits := ⟨3, 1⟩
/-- OUT_0_PAD.MODE (R173). -/
abbrev outPad_MODE : Bits := ⟨0, 3⟩
/-- OUT_0_ALIGN.SLEW (R173). -/
abbrev outAlign_SLEW : Bits := ⟨16, 16⟩
/-- OUT_0_ALIGN.INPUT (R173). -/
abbrev outAlign_INPUT : Bits := ⟨8, 4⟩
/-- OUT_0_ALIGN.MODE (R173). -/
abbrev outAlign_MODE : Bits := ⟨0, 1⟩
/-- OUT_0_STATUS.CFG_ERR (R173). -/
abbrev outStatus_CFG_ERR : Bits := ⟨8, 1⟩
/-- OUT_0_STATUS.FREQ_MISMATCH (R173). -/
abbrev outStatus_FREQ_MISMATCH : Bits := ⟨7, 1⟩
/-- OUT_0_STATUS.NO_INPUT (R173). -/
abbrev outStatus_NO_INPUT : Bits := ⟨6, 1⟩
/-- OUT_0_STATUS.COARSE (R173). -/
abbrev outStatus_COARSE : Bits := ⟨5, 1⟩
/-- OUT_0_STATUS.GATED (R173). -/
abbrev outStatus_GATED : Bits := ⟨4, 1⟩
/-- OUT_0_STATUS.BYPASS (R173). -/
abbrev outStatus_BYPASS : Bits := ⟨3, 1⟩
/-- OUT_0_STATUS.ALIGNED (R173). -/
abbrev outStatus_ALIGNED : Bits := ⟨2, 1⟩
/-- OUT_0_STATUS.MON_FAIL (R173). -/
abbrev outStatus_MON_FAIL : Bits := ⟨1, 1⟩
/-- OUT_0_STATUS.ACTIVE (R173). -/
abbrev outStatus_ACTIVE : Bits := ⟨0, 1⟩
/-- LOUPE_0_CFG.SRC (R196). -/
abbrev loupeCfg_SRC : Bits := ⟨24, 5⟩
/-- LOUPE_0_CFG.TB (R196). -/
abbrev loupeCfg_TB : Bits := ⟨20, 3⟩
/-- LOUPE_0_CFG.SLOPE (R196). -/
abbrev loupeCfg_SLOPE : Bits := ⟨18, 2⟩
/-- LOUPE_0_CFG.GUEST (R196). -/
abbrev loupeCfg_GUEST : Bits := ⟨17, 1⟩
/-- LOUPE_0_CFG.FIFO (R196). -/
abbrev loupeCfg_FIFO : Bits := ⟨16, 1⟩
/-- LOUPE_0_CFG.PAIR (R196). -/
abbrev loupeCfg_PAIR : Bits := ⟨12, 4⟩
/-- LOUPE_0_CFG.KIND (R196). -/
abbrev loupeCfg_KIND : Bits := ⟨8, 2⟩
/-- LOUPE_0_CFG.MODE (R196). -/
abbrev loupeCfg_MODE : Bits := ⟨0, 3⟩
/-- LOUPE_0_COND.HYST (R196). -/
abbrev loupeCond_HYST : Bits := ⟨17, 2⟩
/-- LOUPE_0_COND.DIFF (R196). -/
abbrev loupeCond_DIFF : Bits := ⟨16, 1⟩
/-- LOUPE_0_COND.THRESH (R196). -/
abbrev loupeCond_THRESH : Bits := ⟨0, 8⟩
/-- LOUPE_0_STATUS.LATE (R196). -/
abbrev loupeStatus_LATE : Bits := ⟨7, 1⟩
/-- LOUPE_0_STATUS.END (R196). -/
abbrev loupeStatus_END : Bits := ⟨4, 3⟩
/-- LOUPE_0_STATUS.STATE (R196). -/
abbrev loupeStatus_STATE : Bits := ⟨0, 3⟩
/-- TB_0_CTRL.SRC (R226). -/
abbrev tbCtrl_SRC : Bits := ⟨8, 4⟩
/-- TB_0_CTRL.STEP_EN (R226). -/
abbrev tbCtrl_STEP_EN : Bits := ⟨4, 1⟩
/-- TB_0_STATUS.STEP_PEND (R226). -/
abbrev tbStatus_STEP_PEND : Bits := ⟨9, 1⟩
/-- TB_0_STATUS.STEPPED (R226). -/
abbrev tbStatus_STEPPED : Bits := ⟨8, 1⟩
/-- TB_0_STATUS.DISARMED (R226). -/
abbrev tbStatus_DISARMED : Bits := ⟨7, 1⟩
/-- TB_0_STATUS.STATE (R226). -/
abbrev tbStatus_STATE : Bits := ⟨0, 2⟩
/-- TB_0_CMP_0_STATUS.SKIPPED (R226). -/
abbrev tbCmpStatus_SKIPPED : Bits := ⟨8, 8⟩
/-- TB_0_CMP_0_STATUS.STEPPED (R226). -/
abbrev tbCmpStatus_STEPPED : Bits := ⟨2, 1⟩
/-- TB_0_CMP_0_STATUS.LATE (R226). -/
abbrev tbCmpStatus_LATE : Bits := ⟨1, 1⟩
/-- TB_0_CMP_0_STATUS.ARMED (R226). -/
abbrev tbCmpStatus_ARMED : Bits := ⟨0, 1⟩
/-- LEAP_STATUS.REJECT (R227). -/
abbrev leapStatus_REJECT : Bits := ⟨16, 1⟩
/-- LEAP_STATUS.COUNT (R227). -/
abbrev leapStatus_COUNT : Bits := ⟨8, 4⟩
/-- LEAP_STATUS.PENDING (R227). -/
abbrev leapStatus_PENDING : Bits := ⟨0, 2⟩
/-- LEAP_0..7_LO.SEC_LO (R227). -/
abbrev leapLo_SEC_LO : Bits := ⟨0, 32⟩
/-- LEAP_0..7_HI.DELTA (R227). -/
abbrev leapHi_DELTA : Bits := ⟨30, 2⟩
/-- LEAP_0..7_HI.SEC_HI (R227). -/
abbrev leapHi_SEC_HI : Bits := ⟨0, 16⟩
/-- TBEV_0..3_CFG.WIDTH (R227). -/
abbrev tbevCfg_WIDTH : Bits := ⟨16, 16⟩
/-- TBEV_0..3_CFG.TB (R227). -/
abbrev tbevCfg_TB : Bits := ⟨4, 3⟩
/-- TBEV_0..3_CFG.CMP (R227). -/
abbrev tbevCfg_CMP : Bits := ⟨2, 2⟩
/-- TBEV_0..3_CFG.TOGGLE (R227). -/
abbrev tbevCfg_TOGGLE : Bits := ⟨1, 1⟩
/-- TBEV_0..3_CFG.ENABLE (R227). -/
abbrev tbevCfg_ENABLE : Bits := ⟨0, 1⟩
/-- GNSS_IF_0..3_CFG.LEVEL_MAX (R255). -/
abbrev gnssIfCfg_LEVEL_MAX : Bits := ⟨24, 8⟩
/-- GNSS_IF_0..3_CFG.LEVEL_MIN (R255). -/
abbrev gnssIfCfg_LEVEL_MIN : Bits := ⟨16, 8⟩
/-- GNSS_IF_0..3_CFG.PIPE (R255). -/
abbrev gnssIfCfg_PIPE : Bits := ⟨4, 3⟩
/-- GNSS_IF_0..3_CFG.BAND (R255). -/
abbrev gnssIfCfg_BAND : Bits := ⟨3, 1⟩
/-- GNSS_IF_0..3_CFG.FORMAT (R255). -/
abbrev gnssIfCfg_FORMAT : Bits := ⟨2, 1⟩
/-- GNSS_IF_0..3_CFG.SWAP_IQ (R255). -/
abbrev gnssIfCfg_SWAP_IQ : Bits := ⟨1, 1⟩
/-- GNSS_IF_0..3_CFG.EN (R255). -/
abbrev gnssIfCfg_EN : Bits := ⟨0, 1⟩
/-- GNSS_IF_0..3_STATUS.MAG_FRAC (R255). -/
abbrev gnssIfStatus_MAG_FRAC : Bits := ⟨24, 8⟩
/-- GNSS_IF_0..3_STATUS.LEVEL_BAD (R255). -/
abbrev gnssIfStatus_LEVEL_BAD : Bits := ⟨2, 1⟩
/-- GNSS_IF_0..3_STATUS.STUCK (R255). -/
abbrev gnssIfStatus_STUCK : Bits := ⟨1, 1⟩
/-- GNSS_IF_0..3_STATUS.EVER_FAIL (R255). -/
abbrev gnssIfStatus_EVER_FAIL : Bits := ⟨0, 1⟩
/-- GNSS_ACQ_CTRL.DECIM (R255). -/
abbrev gnssAcqCtrl_DECIM : Bits := ⟨16, 3⟩
/-- GNSS_ACQ_CTRL.IF (R255). -/
abbrev gnssAcqCtrl_IF : Bits := ⟨12, 2⟩
/-- GNSS_ACQ_CTRL.ABORT (R255). -/
abbrev gnssAcqCtrl_ABORT : Bits := ⟨1, 1⟩
/-- GNSS_ACQ_CTRL.START (R255). -/
abbrev gnssAcqCtrl_START : Bits := ⟨0, 1⟩
/-- GNSS_ACQ_STATUS.SAMPLES (R255). -/
abbrev gnssAcqStatus_SAMPLES : Bits := ⟨12, 20⟩
/-- GNSS_ACQ_STATUS.END (R255). -/
abbrev gnssAcqStatus_END : Bits := ⟨4, 2⟩
/-- GNSS_ACQ_STATUS.STATE (R255). -/
abbrev gnssAcqStatus_STATE : Bits := ⟨0, 3⟩
/-- JOB_0_CFG.SIG (R256). -/
abbrev jobCfg_SIG : Bits := ⟨28, 4⟩
/-- JOB_0_CFG.PRN (R256). -/
abbrev jobCfg_PRN : Bits := ⟨20, 8⟩
/-- JOB_0_CFG.COH (R256). -/
abbrev jobCfg_COH : Bits := ⟨15, 5⟩
/-- JOB_0_CFG.NONCOH (R256). -/
abbrev jobCfg_NONCOH : Bits := ⟨6, 9⟩
/-- JOB_0_CFG.ABORT (R256). -/
abbrev jobCfg_ABORT : Bits := ⟨1, 1⟩
/-- JOB_0_CFG.GO (R256). -/
abbrev jobCfg_GO : Bits := ⟨0, 1⟩
/-- JOB_0_STATUS.LANE (R256). -/
abbrev jobStatus_LANE : Bits := ⟨24, 8⟩
/-- JOB_0_STATUS.RESTARTS (R256). -/
abbrev jobStatus_RESTARTS : Bits := ⟨16, 4⟩
/-- JOB_0_STATUS.ERROR (R256). -/
abbrev jobStatus_ERROR : Bits := ⟨8, 4⟩
/-- JOB_0_STATUS.STATE (R256). -/
abbrev jobStatus_STATE : Bits := ⟨0, 3⟩
/-- CH_0_STATUS.NAV_STATE (R257). -/
abbrev chStatus_NAV_STATE : Bits := ⟨8, 3⟩
/-- CH_0_STATUS.CLOCK_LOST (R257). -/
abbrev chStatus_CLOCK_LOST : Bits := ⟨6, 1⟩
/-- CH_0_STATUS.UPD_PEND (R257). -/
abbrev chStatus_UPD_PEND : Bits := ⟨5, 1⟩
/-- CH_0_STATUS.STATE (R257). -/
abbrev chStatus_STATE : Bits := ⟨0, 2⟩
/-- LINE_0_CTRL.DEFAULT_Q (R288). -/
abbrev lineCtrl_DEFAULT_Q : Bits := ⟨12, 2⟩
/-- LINE_0_CTRL.PERSONALITY (R288). -/
abbrev lineCtrl_PERSONALITY : Bits := ⟨8, 3⟩
/-- LINE_0_CTRL.CNT_CLR (R288). -/
abbrev lineCtrl_CNT_CLR : Bits := ⟨2, 1⟩
/-- LINE_0_CTRL.BLK_RST (R288). -/
abbrev lineCtrl_BLK_RST : Bits := ⟨1, 1⟩
/-- LINE_0_CTRL.ENABLE (R288). -/
abbrev lineCtrl_ENABLE : Bits := ⟨0, 1⟩
/-- LINE_0_STATUS.EVER_DOWN (R288). -/
abbrev lineStatus_EVER_DOWN : Bits := ⟨16, 1⟩
/-- LINE_0_STATUS.PAUSED (R288). -/
abbrev lineStatus_PAUSED : Bits := ⟨8, 1⟩
/-- LINE_0_STATUS.MODE_BAD (R288). -/
abbrev lineStatus_MODE_BAD : Bits := ⟨7, 1⟩
/-- LINE_0_STATUS.AN_DONE (R288). -/
abbrev lineStatus_AN_DONE : Bits := ⟨6, 1⟩
/-- LINE_0_STATUS.HI_BER (R288). -/
abbrev lineStatus_HI_BER : Bits := ⟨5, 1⟩
/-- LINE_0_STATUS.LOCK (R288). -/
abbrev lineStatus_LOCK : Bits := ⟨4, 1⟩
/-- LINE_0_STATUS.LINK_STATE (R288). -/
abbrev lineStatus_LINK_STATE : Bits := ⟨0, 3⟩
/-- LINE_0_AN.LP_SPEED (R288). -/
abbrev lineAn_LP_SPEED : Bits := ⟨12, 2⟩
/-- LINE_0_AN.LP_PAUSE (R288). -/
abbrev lineAn_LP_PAUSE : Bits := ⟨10, 2⟩
/-- LINE_0_AN.LP_FD (R288). -/
abbrev lineAn_LP_FD : Bits := ⟨9, 1⟩
/-- LINE_0_AN.ADV_PAUSE (R288). -/
abbrev lineAn_ADV_PAUSE : Bits := ⟨1, 2⟩
/-- LINE_0_AN.AN_EN (R288). -/
abbrev lineAn_AN_EN : Bits := ⟨0, 1⟩
/-- LINE_0_FILTER.EXACT_COUNT (R288). -/
abbrev lineFilter_EXACT_COUNT : Bits := ⟨8, 7⟩
/-- LINE_0_FILTER.PROMISC (R288). -/
abbrev lineFilter_PROMISC : Bits := ⟨2, 1⟩
/-- LINE_0_FILTER.ALLMULTI (R288). -/
abbrev lineFilter_ALLMULTI : Bits := ⟨1, 1⟩
/-- LINE_0_FILTER.BCAST (R288). -/
abbrev lineFilter_BCAST : Bits := ⟨0, 1⟩
/-- LINE_0_PAUSE.REMAIN (R288). -/
abbrev linePause_REMAIN : Bits := ⟨16, 16⟩
/-- LINE_0_PAUSE.OBEY (R288). -/
abbrev linePause_OBEY : Bits := ⟨0, 1⟩
/-- PTP_0_M_CFG.DOMAIN (R320). -/
abbrev ptpMCfg_DOMAIN : Bits := ⟨24, 8⟩
/-- PTP_0_M_CFG.PROFILE (R320). -/
abbrev ptpMCfg_PROFILE : Bits := ⟨16, 3⟩
/-- PTP_0_M_CFG.TRANSPORT (R320). -/
abbrev ptpMCfg_TRANSPORT : Bits := ⟨12, 2⟩
/-- PTP_0_M_CFG.BOUND_TLV (R320). -/
abbrev ptpMCfg_BOUND_TLV : Bits := ⟨10, 1⟩
/-- PTP_0_M_CFG.UC (R320). -/
abbrev ptpMCfg_UC : Bits := ⟨9, 1⟩
/-- PTP_0_M_CFG.MCAST (R320). -/
abbrev ptpMCfg_MCAST : Bits := ⟨8, 1⟩
/-- PTP_0_M_CFG.ROLE (R320). -/
abbrev ptpMCfg_ROLE : Bits := ⟨4, 2⟩
/-- PTP_0_M_CFG.TWO_STEP (R320). -/
abbrev ptpMCfg_TWO_STEP : Bits := ⟨1, 1⟩
/-- PTP_0_M_CFG.ENABLE (R320). -/
abbrev ptpMCfg_ENABLE : Bits := ⟨0, 1⟩
/-- PTP_0_S_CFG.DOMAIN (R320). -/
abbrev ptpSCfg_DOMAIN : Bits := ⟨24, 8⟩
/-- PTP_0_S_CFG.TB (R320). -/
abbrev ptpSCfg_TB : Bits := ⟨20, 3⟩
/-- PTP_0_S_CFG.DLY_WIN (R320). -/
abbrev ptpSCfg_DLY_WIN : Bits := ⟨16, 4⟩
/-- PTP_0_S_CFG.DLY_GATE (R320). -/
abbrev ptpSCfg_DLY_GATE : Bits := ⟨8, 8⟩
/-- PTP_0_S_CFG.ANY_TRACE (R320). -/
abbrev ptpSCfg_ANY_TRACE : Bits := ⟨3, 1⟩
/-- PTP_0_S_CFG.UC (R320). -/
abbrev ptpSCfg_UC : Bits := ⟨2, 1⟩
/-- PTP_0_S_CFG.ENABLE (R320). -/
abbrev ptpSCfg_ENABLE : Bits := ⟨0, 1⟩
/-- NTS_CTRL.RATE_KOD (R349). -/
abbrev ntsCtrl_RATE_KOD : Bits := ⟨3, 1⟩
/-- NTS_CTRL.NAK (R349). -/
abbrev ntsCtrl_NAK : Bits := ⟨2, 1⟩
/-- NTS_CTRL.PLAIN (R349). -/
abbrev ntsCtrl_PLAIN : Bits := ⟨1, 1⟩
/-- NTS_CTRL.EN (R349). -/
abbrev ntsCtrl_EN : Bits := ⟨0, 1⟩
/-- NTS_STATUS.LI (R349). -/
abbrev ntsStatus_LI : Bits := ⟨24, 2⟩
/-- NTS_STATUS.STRATUM (R349). -/
abbrev ntsStatus_STRATUM : Bits := ⟨16, 8⟩
/-- NTS_STATUS.AEAD_FAIL (R349). -/
abbrev ntsStatus_AEAD_FAIL : Bits := ⟨3, 1⟩
/-- NTS_STATUS.SILENT (R349). -/
abbrev ntsStatus_SILENT : Bits := ⟨2, 1⟩
/-- NTS_STATUS.NO_KEY (R349). -/
abbrev ntsStatus_NO_KEY : Bits := ⟨1, 1⟩
/-- NTS_STATUS.RUNNING (R349). -/
abbrev ntsStatus_RUNNING : Bits := ⟨0, 1⟩
/-- NTS_CFG.HOPS (R349). -/
abbrev ntsCfg_HOPS : Bits := ⟨24, 8⟩
/-- NTS_CFG.PRECISION (R349). -/
abbrev ntsCfg_PRECISION : Bits := ⟨16, 8⟩
/-- NTS_CFG.DEGR_STRATUM (R349). -/
abbrev ntsCfg_DEGR_STRATUM : Bits := ⟨12, 4⟩
/-- NTS_CFG.TX_DELAY (R349). -/
abbrev ntsCfg_TX_DELAY : Bits := ⟨0, 12⟩
/-- KEYS_STATUS.LOCKED (R352). -/
abbrev keysStatus_LOCKED : Bits := ⟨3, 1⟩
/-- KEYS_STATUS.ZEROIZED (R352). -/
abbrev keysStatus_ZEROIZED : Bits := ⟨2, 1⟩
/-- KEYS_STATUS.PAIR_KEY (R352). -/
abbrev keysStatus_PAIR_KEY : Bits := ⟨1, 1⟩
/-- KEYS_STATUS.ID_OK (R352). -/
abbrev keysStatus_ID_OK : Bits := ⟨0, 1⟩
/-- KEYS_BLOB_CTRL.CONTENTS (R352). -/
abbrev keysBlobCtrl_CONTENTS : Bits := ⟨8, 3⟩
/-- KEYS_BLOB_CTRL.RESTORE (R352). -/
abbrev keysBlobCtrl_RESTORE : Bits := ⟨1, 1⟩
/-- KEYS_BLOB_CTRL.EXPORT (R352). -/
abbrev keysBlobCtrl_EXPORT : Bits := ⟨0, 1⟩
/-- KEYS_PTP_0_CFG.SPP (R352). -/
abbrev keysPtpCfg_SPP : Bits := ⟨8, 8⟩
/-- KEYS_PTP_0_CFG.LOADED (R352). -/
abbrev keysPtpCfg_LOADED : Bits := ⟨7, 1⟩
/-- KEYS_PTP_0_CFG.NEXT (R352). -/
abbrev keysPtpCfg_NEXT : Bits := ⟨3, 4⟩
/-- KEYS_PTP_0_CFG.TX_EN (R352). -/
abbrev keysPtpCfg_TX_EN : Bits := ⟨1, 1⟩
/-- KEYS_PTP_0_CFG.RX_EN (R352). -/
abbrev keysPtpCfg_RX_EN : Bits := ⟨0, 1⟩
/-- RX_0_CTRL.CLAIM_HOLD (R379). -/
abbrev rxCtrl_CLAIM_HOLD : Bits := ⟨24, 8⟩
/-- RX_0_CTRL.HOLD_MAX (R379). -/
abbrev rxCtrl_HOLD_MAX : Bits := ⟨16, 8⟩
/-- RX_0_CTRL.PATHS (R379). -/
abbrev rxCtrl_PATHS : Bits := ⟨2, 2⟩
/-- RX_0_CTRL.FILL (R379). -/
abbrev rxCtrl_FILL : Bits := ⟨1, 1⟩
/-- RX_0_CTRL.ENABLE (R379). -/
abbrev rxCtrl_ENABLE : Bits := ⟨0, 1⟩
/-- RX_0_FORMAT.PROFILE (R379). -/
abbrev rxFormat_PROFILE : Bits := ⟨30, 2⟩
/-- RX_0_FORMAT.ENC (R379). -/
abbrev rxFormat_ENC : Bits := ⟨28, 2⟩
/-- RX_0_FORMAT.PT (R379). -/
abbrev rxFormat_PT : Bits := ⟨16, 7⟩
/-- RX_0_FORMAT.CHANNELS (R379). -/
abbrev rxFormat_CHANNELS : Bits := ⟨8, 7⟩
/-- RX_0_SLOT.DOMAIN (R379). -/
abbrev rxSlot_DOMAIN : Bits := ⟨30, 2⟩
/-- RX_0_SLOT.TB (R379). -/
abbrev rxSlot_TB : Bits := ⟨27, 3⟩
/-- RX_0_SLOT.XRATE (R379). -/
abbrev rxSlot_XRATE : Bits := ⟨24, 3⟩
/-- RX_0_SLOT.BASE (R379). -/
abbrev rxSlot_BASE : Bits := ⟨0, 13⟩
/-- RX_0_PLAYOUT.MODE (R379). -/
abbrev rxPlayout_MODE : Bits := ⟨31, 1⟩
/-- RX_0_PLAYOUT.OFFSET (R379). -/
abbrev rxPlayout_OFFSET : Bits := ⟨16, 12⟩
/-- RX_0_PLAYOUT.BUF (R379). -/
abbrev rxPlayout_BUF : Bits := ⟨0, 4⟩
/-- RX_0_P0_CFG.PORT (R379). -/
abbrev rxP0Cfg_PORT : Bits := ⟨30, 2⟩
/-- RX_0_P0_CFG.KIND (R379). -/
abbrev rxP0Cfg_KIND : Bits := ⟨28, 2⟩
/-- RX_0_P0_CFG.VID (R379). -/
abbrev rxP0Cfg_VID : Bits := ⟨16, 12⟩
/-- RX_0_P0_CFG.UDP_PORT (R379). -/
abbrev rxP0Cfg_UDP_PORT : Bits := ⟨0, 16⟩
/-- RX_0_P1_CFG.PORT (R379). -/
abbrev rxP1Cfg_PORT : Bits := ⟨30, 2⟩
/-- RX_0_P1_CFG.KIND (R379). -/
abbrev rxP1Cfg_KIND : Bits := ⟨28, 2⟩
/-- RX_0_P1_CFG.VID (R379). -/
abbrev rxP1Cfg_VID : Bits := ⟨16, 12⟩
/-- RX_0_P1_CFG.UDP_PORT (R379). -/
abbrev rxP1Cfg_UDP_PORT : Bits := ⟨0, 16⟩
/-- RX_0_STATUS.CFG_ERR (R379). -/
abbrev rxStatus_CFG_ERR : Bits := ⟨15, 1⟩
/-- RX_0_STATUS.NOMEM (R379). -/
abbrev rxStatus_NOMEM : Bits := ⟨14, 1⟩
/-- RX_0_STATUS.CONFLICT (R379). -/
abbrev rxStatus_CONFLICT : Bits := ⟨12, 1⟩
/-- RX_0_STATUS.LIVE_PATHS (R379). -/
abbrev rxStatus_LIVE_PATHS : Bits := ⟨10, 2⟩
/-- RX_0_STATUS.LAST_DISCARD (R379). -/
abbrev rxStatus_LAST_DISCARD : Bits := ⟨4, 4⟩
/-- RX_0_STATUS.STATE (R379). -/
abbrev rxStatus_STATE : Bits := ⟨0, 2⟩
/-- TX_0_CTRL.POLICY (R380). -/
abbrev txCtrl_POLICY : Bits := ⟨4, 2⟩
/-- TX_0_CTRL.PATHS (R380). -/
abbrev txCtrl_PATHS : Bits := ⟨2, 2⟩
/-- TX_0_CTRL.CLAIM_EXT (R380). -/
abbrev txCtrl_CLAIM_EXT : Bits := ⟨1, 1⟩
/-- TX_0_CTRL.ENABLE (R380). -/
abbrev txCtrl_ENABLE : Bits := ⟨0, 1⟩
/-- TX_0_FORMAT.PROFILE (R380). -/
abbrev txFormat_PROFILE : Bits := ⟨30, 2⟩
/-- TX_0_FORMAT.ENC (R380). -/
abbrev txFormat_ENC : Bits := ⟨28, 2⟩
/-- TX_0_FORMAT.PT (R380). -/
abbrev txFormat_PT : Bits := ⟨16, 7⟩
/-- TX_0_FORMAT.CHANNELS (R380). -/
abbrev txFormat_CHANNELS : Bits := ⟨8, 7⟩
/-- TX_0_FORMAT.SAMPLES (R380). -/
abbrev txFormat_SAMPLES : Bits := ⟨0, 8⟩
/-- TX_0_TIMING.TTL (R380). -/
abbrev txTiming_TTL : Bits := ⟨24, 8⟩
/-- TX_0_TIMING.DSCP (R380). -/
abbrev txTiming_DSCP : Bits := ⟨18, 6⟩
/-- TX_0_TIMING.PCP (R380). -/
abbrev txTiming_PCP : Bits := ⟨15, 3⟩
/-- TX_0_TIMING.TB (R380). -/
abbrev txTiming_TB : Bits := ⟨12, 3⟩
/-- TX_0_TIMING.AAF_LAT (R380). -/
abbrev txTiming_AAF_LAT : Bits := ⟨0, 12⟩
/-- TX_0_P0_CFG.PORT (R380). -/
abbrev txP0Cfg_PORT : Bits := ⟨30, 2⟩
/-- TX_0_P0_CFG.KIND (R380). -/
abbrev txP0Cfg_KIND : Bits := ⟨28, 2⟩
/-- TX_0_P0_CFG.VID (R380). -/
abbrev txP0Cfg_VID : Bits := ⟨16, 12⟩
/-- TX_0_P0_CFG.UDP_PORT (R380). -/
abbrev txP0Cfg_UDP_PORT : Bits := ⟨0, 16⟩
/-- TX_0_P1_CFG.PORT (R380). -/
abbrev txP1Cfg_PORT : Bits := ⟨30, 2⟩
/-- TX_0_P1_CFG.KIND (R380). -/
abbrev txP1Cfg_KIND : Bits := ⟨28, 2⟩
/-- TX_0_P1_CFG.VID (R380). -/
abbrev txP1Cfg_VID : Bits := ⟨16, 12⟩
/-- TX_0_P1_CFG.UDP_PORT (R380). -/
abbrev txP1Cfg_UDP_PORT : Bits := ⟨0, 16⟩
/-- SA_0_CFG.HOLD_MAX (R384). -/
abbrev saCfg_HOLD_MAX : Bits := ⟨24, 8⟩
/-- SA_0_CFG.CS_STREAM (R384). -/
abbrev saCfg_CS_STREAM : Bits := ⟨16, 8⟩
/-- SA_0_CFG.CS_SRC (R384). -/
abbrev saCfg_CS_SRC : Bits := ⟨10, 1⟩
/-- SA_0_CFG.V_MUTE (R384). -/
abbrev saCfg_V_MUTE : Bits := ⟨9, 1⟩
/-- SA_0_CFG.CH56 (R384). -/
abbrev saCfg_CH56 : Bits := ⟨8, 1⟩
/-- SA_0_CFG.DOMAIN (R384). -/
abbrev saCfg_DOMAIN : Bits := ⟨6, 2⟩
/-- SA_0_CFG.PERS (R384). -/
abbrev saCfg_PERS : Bits := ⟨3, 3⟩
/-- SA_0_CFG.ENABLE (R384). -/
abbrev saCfg_ENABLE : Bits := ⟨0, 1⟩
/-- FACET_0_CTRL.OOS (R436). -/
abbrev facetCtrl_OOS : Bits := ⟨8, 1⟩
/-- FACET_0_CTRL.BLK_RST (R436). -/
abbrev facetCtrl_BLK_RST : Bits := ⟨0, 1⟩
/-- FACET_0_STATUS.TASKS (R436). -/
abbrev facetStatus_TASKS : Bits := ⟨24, 5⟩
/-- FACET_0_STATUS.MARGIN_PCT (R436). -/
abbrev facetStatus_MARGIN_PCT : Bits := ⟨16, 8⟩
/-- FACET_0_STATUS.DESC_ERR (R436). -/
abbrev facetStatus_DESC_ERR : Bits := ⟨12, 1⟩
/-- FACET_0_STATUS.LENT (R436). -/
abbrev facetStatus_LENT : Bits := ⟨11, 1⟩
/-- FACET_0_STATUS.MIGRATING (R436). -/
abbrev facetStatus_MIGRATING : Bits := ⟨10, 1⟩
/-- FACET_0_STATUS.OVER_PLAN (R436). -/
abbrev facetStatus_OVER_PLAN : Bits := ⟨9, 1⟩
/-- FACET_0_STATUS.MODE (R436). -/
abbrev facetStatus_MODE : Bits := ⟨8, 1⟩
/-- FACET_0_STATUS.ROLE (R436). -/
abbrev facetStatus_ROLE : Bits := ⟨4, 2⟩
/-- FACET_0_STATUS.STATE (R436). -/
abbrev facetStatus_STATE : Bits := ⟨0, 3⟩
/-- FACET_0_TASK_SEL.MOVE (R436). -/
abbrev facetTaskSel_MOVE : Bits := ⟨31, 1⟩
/-- FACET_0_TASK_SEL.SWAP (R436). -/
abbrev facetTaskSel_SWAP : Bits := ⟨30, 1⟩
/-- FACET_0_TASK_SEL.WHERE (R436). -/
abbrev facetTaskSel_WHERE : Bits := ⟨16, 8⟩
/-- FACET_0_TASK_SEL.TARGET (R436). -/
abbrev facetTaskSel_TARGET : Bits := ⟨8, 8⟩
/-- FACET_0_TASK_SEL.TASK (R436). -/
abbrev facetTaskSel_TASK : Bits := ⟨0, 4⟩
/-- FACET_0_TASK_DATA.USED_MAX (R436). -/
abbrev facetTaskData_USED_MAX : Bits := ⟨17, 15⟩
/-- FACET_0_TASK_DATA.USED (R436). -/
abbrev facetTaskData_USED : Bits := ⟨2, 15⟩
/-- FACET_0_TASK_DATA.BANK (R436). -/
abbrev facetTaskData_BANK : Bits := ⟨1, 1⟩
/-- FACET_0_TASK_DATA.SWAP_PEND (R436). -/
abbrev facetTaskData_SWAP_PEND : Bits := ⟨0, 1⟩
/-- FACET_0_MAIL_STATUS.LEVEL (R436). -/
abbrev facetMailStatus_LEVEL : Bits := ⟨24, 8⟩
/-- FACET_0_MAIL_STATUS.OUT_FILL (R436). -/
abbrev facetMailStatus_OUT_FILL : Bits := ⟨17, 7⟩
/-- FACET_0_MAIL_STATUS.IN_FILL (R436). -/
abbrev facetMailStatus_IN_FILL : Bits := ⟨10, 7⟩
/-- FACET_0_MAIL_STATUS.OUT_UNDERRUN (R436). -/
abbrev facetMailStatus_OUT_UNDERRUN : Bits := ⟨3, 1⟩
/-- FACET_0_MAIL_STATUS.OUT_OVERRUN (R436). -/
abbrev facetMailStatus_OUT_OVERRUN : Bits := ⟨2, 1⟩
/-- FACET_0_MAIL_STATUS.IN_OVERRUN (R436). -/
abbrev facetMailStatus_IN_OVERRUN : Bits := ⟨1, 1⟩
/-- PAIR_CTRL.HEALTH_HOLD (R499). -/
abbrev pairCtrl_HEALTH_HOLD : Bits := ⟨16, 8⟩
/-- PAIR_CTRL.HYST (R499). -/
abbrev pairCtrl_HYST : Bits := ⟨8, 8⟩
/-- PAIR_CTRL.MIRROR_WR (R499). -/
abbrev pairCtrl_MIRROR_WR : Bits := ⟨1, 1⟩
/-- PAIR_CTRL.LINK_EN (R499). -/
abbrev pairCtrl_LINK_EN : Bits := ⟨0, 1⟩
/-- PAIR_STATUS.STEP_BAD (R499). -/
abbrev pairStatus_STEP_BAD : Bits := ⟨15, 1⟩
/-- PAIR_STATUS.SAME_UNIT (R499). -/
abbrev pairStatus_SAME_UNIT : Bits := ⟨14, 1⟩
/-- PAIR_STATUS.LATENCY_BAD (R499). -/
abbrev pairStatus_LATENCY_BAD : Bits := ⟨13, 1⟩
/-- PAIR_STATUS.UNSTABLE (R499). -/
abbrev pairStatus_UNSTABLE : Bits := ⟨12, 1⟩
/-- PAIR_STATUS.DIVERGED (R499). -/
abbrev pairStatus_DIVERGED : Bits := ⟨11, 1⟩
/-- PAIR_STATUS.CLAIMIO_BAD (R499). -/
abbrev pairStatus_CLAIMIO_BAD : Bits := ⟨10, 1⟩
/-- PAIR_STATUS.HOLDING (R499). -/
abbrev pairStatus_HOLDING : Bits := ⟨9, 1⟩
/-- PAIR_STATUS.LINK_UP (R499). -/
abbrev pairStatus_LINK_UP : Bits := ⟨8, 1⟩
/-- PAIR_STATUS.STATE (R499). -/
abbrev pairStatus_STATE : Bits := ⟨0, 3⟩
/-- CHAIN_STATUS.TRACE (R516). -/
abbrev chainStatus_TRACE : Bits := ⟨9, 1⟩
/-- CHAIN_STATUS.OVERLONG (R516). -/
abbrev chainStatus_OVERLONG : Bits := ⟨8, 1⟩
/-- CHAIN_STATUS.SIDE (R516). -/
abbrev chainStatus_SIDE : Bits := ⟨7, 1⟩
/-- CHAIN_STATUS.HB (R516). -/
abbrev chainStatus_HB : Bits := ⟨6, 1⟩
/-- CHAIN_STATUS.DN_UP (R516). -/
abbrev chainStatus_DN_UP : Bits := ⟨5, 1⟩
/-- CHAIN_STATUS.UP_UP (R516). -/
abbrev chainStatus_UP_UP : Bits := ⟨4, 1⟩
/-- CHAIN_STATUS.STATE (R516). -/
abbrev chainStatus_STATE : Bits := ⟨0, 3⟩
/-- FAULT_FIRST.VALID (R535). -/
abbrev faultFirst_VALID : Bits := ⟨31, 1⟩
/-- FAULT_FIRST.RELEASE (R535). -/
abbrev faultFirst_RELEASE : Bits := ⟨30, 1⟩
/-- FAULT_FIRST.MULTI (R535). -/
abbrev faultFirst_MULTI : Bits := ⟨16, 6⟩
/-- FAULT_FIRST.CLASS (R535). -/
abbrev faultFirst_CLASS : Bits := ⟨8, 2⟩
/-- FAULT_FIRST.SOURCE (R535). -/
abbrev faultFirst_SOURCE : Bits := ⟨0, 6⟩
/-- FAULT_EPIN.HOLD (R535). -/
abbrev faultEpin_HOLD : Bits := ⟨24, 1⟩
/-- FAULT_EPIN.MIN_WIDTH (R535). -/
abbrev faultEpin_MIN_WIDTH : Bits := ⟨0, 20⟩
/-- FAULT_CFG_0..47.CLASS (R535). -/
abbrev faultCfg_CLASS : Bits := ⟨8, 2⟩
/-- FAULT_CFG_0..47.EPIN (R535). -/
abbrev faultCfg_EPIN : Bits := ⟨4, 1⟩
/-- FAULT_CFG_0..47.CRST (R535). -/
abbrev faultCfg_CRST : Bits := ⟨3, 1⟩
/-- FAULT_CFG_0..47.BRST (R535). -/
abbrev faultCfg_BRST : Bits := ⟨2, 1⟩
/-- FAULT_CFG_0..47.NMI (R535). -/
abbrev faultCfg_NMI : Bits := ⟨1, 1⟩
/-- FAULT_CFG_0..47.INT (R535). -/
abbrev faultCfg_INT : Bits := ⟨0, 1⟩
/-- FAULT_DETAIL_0..47.COUNT (R535). -/
abbrev faultDetail_COUNT : Bits := ⟨24, 8⟩
/-- FAULT_DETAIL_0..47.DETAIL (R535). -/
abbrev faultDetail_DETAIL : Bits := ⟨0, 16⟩
/-- INTC_CTRL.TARGETS (R557). -/
abbrev intcCtrl_TARGETS : Bits := ⟨8, 2⟩
/-- INTC_CTRL.MODE (R557). -/
abbrev intcCtrl_MODE : Bits := ⟨4, 1⟩
/-- INTC_CTRL.EN (R557). -/
abbrev intcCtrl_EN : Bits := ⟨0, 1⟩
/-- INTC_TGT_0_CFG.EN (R557). -/
abbrev intcTgtCfg_EN : Bits := ⟨15, 1⟩
/-- INTC_TGT_0_CFG.THRESH (R557). -/
abbrev intcTgtCfg_THRESH : Bits := ⟨12, 3⟩
/-- INTC_TGT_0_CFG.DELIVERY (R557). -/
abbrev intcTgtCfg_DELIVERY : Bits := ⟨8, 1⟩
/-- INTC_TGT_0_CFG.VECTOR (R557). -/
abbrev intcTgtCfg_VECTOR : Bits := ⟨0, 3⟩
/-- INTC_TGT_0_STATUS.BAD_COMPLETE (R557). -/
abbrev intcTgtStatus_BAD_COMPLETE : Bits := ⟨24, 8⟩
/-- INTC_TGT_0_STATUS.DEPTH (R557). -/
abbrev intcTgtStatus_DEPTH : Bits := ⟨16, 5⟩
/-- INTC_TGT_0_STATUS.STATE (R557). -/
abbrev intcTgtStatus_STATE : Bits := ⟨8, 2⟩
/-- INTC_TGT_0_STATUS.TOP_VALID (R557). -/
abbrev intcTgtStatus_TOP_VALID : Bits := ⟨6, 1⟩
/-- INTC_TGT_0_STATUS.TOP (R557). -/
abbrev intcTgtStatus_TOP : Bits := ⟨0, 6⟩
/-- INTC_SRC_0_CFG.EN (R557). -/
abbrev intcSrcCfg_EN : Bits := ⟨15, 1⟩
/-- INTC_SRC_0_CFG.SENSE (R557). -/
abbrev intcSrcCfg_SENSE : Bits := ⟨12, 1⟩
/-- INTC_SRC_0_CFG.TARGET (R557). -/
abbrev intcSrcCfg_TARGET : Bits := ⟨8, 2⟩
/-- INTC_SRC_0_CFG.GROUP (R557). -/
abbrev intcSrcCfg_GROUP : Bits := ⟨4, 3⟩
/-- INTC_SRC_0_CFG.SUB (R557). -/
abbrev intcSrcCfg_SUB : Bits := ⟨0, 2⟩
/-- GLOBAL_ID.PART (R593). -/
abbrev globalId_PART : Bits := ⟨16, 16⟩
/-- GLOBAL_ID.STEP_MAJOR (R593). -/
abbrev globalId_STEP_MAJOR : Bits := ⟨4, 4⟩
/-- GLOBAL_ID.STEP_MINOR (R593). -/
abbrev globalId_STEP_MINOR : Bits := ⟨0, 4⟩
/-- GLOBAL_RESET_CAUSE.FAULT (R593). -/
abbrev globalResetCause_FAULT : Bits := ⟨2, 1⟩
/-- GLOBAL_RESET_CAUSE.HOST (R593). -/
abbrev globalResetCause_HOST : Bits := ⟨1, 1⟩
/-- GLOBAL_RESET_CAUSE.POR (R593). -/
abbrev globalResetCause_POR : Bits := ⟨0, 1⟩
/-- HOST_STATUS.GEN (R593). -/
abbrev hostStatus_GEN : Bits := ⟨16, 4⟩
/-- HOST_STATUS.WIDTH (R593). -/
abbrev hostStatus_WIDTH : Bits := ⟨8, 3⟩
/-- HOST_STATUS.LINK_UP (R593). -/
abbrev hostStatus_LINK_UP : Bits := ⟨0, 1⟩
/-- HOST_WDOG_CTRL.TIMEOUT (R593). -/
abbrev hostWdogCtrl_TIMEOUT : Bits := ⟨16, 16⟩
/-- HOST_WDOG_CTRL.SPI_KICK (R593). -/
abbrev hostWdogCtrl_SPI_KICK : Bits := ⟨1, 1⟩
/-- HOST_WDOG_CTRL.EN (R593). -/
abbrev hostWdogCtrl_EN : Bits := ⟨0, 1⟩
/-- HOST_WDOG_STATUS.EXPIRIES (R593). -/
abbrev hostWdogStatus_EXPIRIES : Bits := ⟨24, 8⟩
/-- HOST_WDOG_STATUS.LEFT (R593). -/
abbrev hostWdogStatus_LEFT : Bits := ⟨0, 16⟩
/-- DRAM_CTRL.AUTO_RETRAIN (R605). -/
abbrev dramCtrl_AUTO_RETRAIN : Bits := ⟨8, 1⟩
/-- DRAM_CTRL.EN (R605). -/
abbrev dramCtrl_EN : Bits := ⟨0, 1⟩
/-- DRAM_STATUS.FAIL_STEP (R605). -/
abbrev dramStatus_FAIL_STEP : Bits := ⟨16, 8⟩
/-- DRAM_STATUS.FAIL_LANE (R605). -/
abbrev dramStatus_FAIL_LANE : Bits := ⟨10, 3⟩
/-- DRAM_STATUS.TRAINED (R605). -/
abbrev dramStatus_TRAINED : Bits := ⟨8, 1⟩
/-- DRAM_STATUS.STATE (R605). -/
abbrev dramStatus_STATE : Bits := ⟨0, 3⟩
/-- DRAM_CFG.RATE (R605). -/
abbrev dramCfg_RATE : Bits := ⟨20, 4⟩
/-- DRAM_CFG.DENSITY (R605). -/
abbrev dramCfg_DENSITY : Bits := ⟨16, 2⟩
/-- DRAM_CFG.PAR_EN (R605). -/
abbrev dramCfg_PAR_EN : Bits := ⟨1, 1⟩
/-- DRAM_CFG.CRC_EN (R605). -/
abbrev dramCfg_CRC_EN : Bits := ⟨0, 1⟩

end Fld

/-- One row of the register tables: where the register (or array of registers) lies, its reset value, and the masks of
its bits by access code (R11): `rw` read/write, of these `rws` RW/S; `w1c`; `act` W1S and WO; `ro` RO and RO/L.
Bits in no mask are reserved (R13).  `pair` is 1 for the _LO and 2 for the _HI half of a 64-bit pair (R10). -/
structure RegDef where
  addr : Nat
  s1 : Nat
  c1 : Nat
  s2 : Nat
  c2 : Nat
  reset : Nat
  rw : Nat
  rws : Nat
  w1c : Nat
  act : Nat
  ro : Nat
  pair : Nat
deriving DecidableEq, Repr

/-- Whether offset `a` is an instance of the row. -/
def RegDef.covers (r : RegDef) (a : Nat) : Bool :=
  r.addr ≤ a &&
    (let d := a - r.addr
     let i := d / r.s1
     let e := d % r.s1
     let j := e / r.s2
     i < r.c1 && j < r.c2 && e % r.s2 == 0)

/-- The registers of the page at 0x0. -/
def regPage0 : List RegDef := [
  ⟨0x1000, 0x10, 0x19, 0, 1, 0, 0xFFFFFF, 0xFFFFFF, 0, 0, 0, 0⟩,
  ⟨0x1004, 0x10, 0x19, 0, 1, 0, 0, 0, 0, 0, 0x3313, 0⟩,
  ⟨0x1008, 0x10, 0x19, 0, 1, 0, 0, 0, 0, 0, 0xFFFFFFFF, 0⟩,
  ⟨0x1200, 0, 1, 0, 1, 0, 0, 0, 0x1FFFFFF, 0, 0, 0⟩,
  ⟨0, 0, 1, 0, 1, 0x925600A2, 0, 0, 0, 0, 0xFFFF00FF, 0⟩,
  ⟨4, 0, 1, 0, 1, 0, 0, 0, 0, 0xFFFFFFFF, 0, 0⟩,
  ⟨8, 0, 1, 0, 1, 1, 0, 0, 0, 0, 7, 0⟩,
  ⟨0xC, 0, 1, 0, 1, 0, 0, 0, 0, 0, 0xF0701, 0⟩,
  ⟨0x10, 0, 1, 0, 1, 0x3E80000, 0xFFFF0003, 0xFFFF0003, 0, 0, 0, 0⟩,
  ⟨0x14, 0, 1, 0, 1, 0, 0, 0, 0, 0xFFFFFFFF, 0, 0⟩,
  ⟨0x18, 0, 1, 0, 1, 0, 0, 0, 0, 0, 0xFF00FFFF, 0⟩,
  ⟨0x20, 0, 1, 0, 1, 0, 0, 0, 0, 0xFFFFFFFF, 0, 0⟩,
  ⟨0x24, 0, 1, 0, 1, 0, 0, 0, 0xFFFFFFFF, 0, 0, 0⟩,
  ⟨0x28, 0, 1, 0, 1, 0, 0xFFFFFFFF, 0xFFFFFFFF, 0, 0, 0, 0⟩,
  ⟨0x30, 4, 4, 0, 1, 0, 0xFFFFFFFF, 0, 0, 0, 0, 0⟩,
  ⟨0x40, 0, 1, 0, 1, 0, 1, 1, 0, 0, 0, 0⟩]

/-- The registers of the page at 0x10000. -/
def regPage1 : List RegDef := [
  ⟨0x10000, 0, 1, 0, 1, 0, 0, 0, 0, 3, 0, 0⟩,
  ⟨0x10004, 0, 1, 0, 1, 0, 0, 0, 0, 0, 0xF0F0F, 0⟩,
  ⟨0x10008, 0, 1, 0, 1, 0, 3, 0, 0, 0, 0, 0⟩,
  ⟨0x1000C, 0, 1, 0, 1, 0, 0xFFFFFFFF, 0, 0, 0, 0, 0⟩,
  ⟨0x10010, 0, 1, 0, 1, 0, 0xFFFFFFFF, 0, 0, 0, 0, 0⟩,
  ⟨0x10014, 0, 1, 0, 1, 0x1000000, 0xFFFFFFFF, 0, 0, 0, 0, 0⟩,
  ⟨0x10018, 0, 1, 0, 1, 0x18EC, 0x1FFF, 0, 0, 0, 0, 0⟩,
  ⟨0x1001C, 0, 1, 0, 1, 0, 0, 0, 0, 0, 0xFFFFF, 0⟩,
  ⟨0x10020, 0, 1, 0, 1, 0, 0, 0, 0, 0, 0xFFFFFFFF, 0⟩,
  ⟨0x10024, 0, 1, 0, 1, 0, 0, 0, 0, 0, 0xFFFFFFFF, 0⟩,
  ⟨0x10028, 0, 1, 0, 1, 0, 0, 0, 0, 0, 0x7F, 0⟩,
  ⟨0x1002C, 0, 1, 0, 1, 0, 0, 0, 0, 0xFFFFFFFF, 0, 0⟩,
  ⟨0x10030, 0, 1, 0, 1, 0, 0, 0, 0, 0, 0xF3, 0⟩,
  ⟨0x10034, 0, 1, 0, 1, 0, 0, 0, 0, 0xFFFFFFFF, 0, 0⟩,
  ⟨0x10038, 0, 1, 0, 1, 0, 0, 0, 0, 0, 0x1F, 0⟩,
  ⟨0x1003C, 0, 1, 0, 1, 0x7C00000, 0, 0, 0, 0, 0x7C0FFFF, 0⟩,
  ⟨0x10040, 4, 8, 0, 1, 0, 0, 0, 0, 0, 0xFFFFFFFF, 0⟩,
  ⟨0x10060, 4, 4, 0, 1, 0, 0, 0, 0, 0, 0xFFFFFFFF, 0⟩,
  ⟨0x10080, 0, 1, 0, 1, 0, 0xFFFFF0FF, 0, 0, 0, 0, 0⟩,
  ⟨0x10084, 0, 1, 0, 1, 0, 0, 0, 0, 0, 0xFFFFFFFF, 0⟩]

/-- The registers of the page at 0x20000. -/
def regPage2 : List RegDef := [
  ⟨0x20000, 0, 1, 0, 1, 0, 0, 0, 0xFFFFFFFF, 0, 0, 0⟩,
  ⟨0x20004, 0, 1, 0, 1, 0, 0, 0, 0xFFFF, 0, 0, 0⟩,
  ⟨0x20008, 0, 1, 0, 1, 0, 0, 0, 0, 0, 0xFFFFFFFF, 0⟩,
  ⟨0x2000C, 0, 1, 0, 1, 0, 0, 0, 0, 0, 0xFFFF, 0⟩,
  ⟨0x20010, 0, 1, 0, 1, 0, 0, 0, 0, 0xFFFFFFFF, 0, 0⟩,
  ⟨0x20014, 0, 1, 0, 1, 0, 0, 0, 0, 0xFFFF, 0, 0⟩,
  ⟨0x20018, 0, 1, 0, 1, 0, 0, 0, 0, 0xFFFFFFFF, 0, 0⟩,
  ⟨0x2001C, 0, 1, 0, 1, 0, 0, 0, 0, 0xFFFF, 0, 0⟩,
  ⟨0x20020, 0, 1, 0, 1, 0, 0, 0, 0, 0x40000000, 0x803F033F, 0⟩,
  ⟨0x20024, 0, 1, 0, 1, 0, 0, 0, 0, 0, 0xFFFFFFFF, 1⟩,
  ⟨0x20028, 0, 1, 0, 1, 0, 0, 0, 0, 0, 0xFFFFFFFF, 2⟩,
  ⟨0x20030, 0, 1, 0, 1, 0, 0, 0, 0, 0, 0x803F033F, 0⟩,
  ⟨0x20034, 0, 1, 0, 1, 0, 0, 0, 0, 0, 0xFFFFFFFF, 1⟩,
  ⟨0x20038, 0, 1, 0, 1, 0, 0, 0, 0, 0, 0xFFFFFFFF, 2⟩,
  ⟨0x20040, 0, 1, 0, 1, 0x64, 0x10FFFFF, 0xFFFFF, 0, 0, 0, 0⟩,
  ⟨0x20044, 0, 1, 0, 1, 0, 0, 0, 0, 1, 2, 0⟩,
  ⟨0x20100, 4, 0x30, 0, 1, 0, 0x31F, 0x31F, 0, 0, 0, 0⟩,
  ⟨0x20200, 4, 0x30, 0, 1, 0, 0, 0, 0, 0, 0xFF00FFFF, 0⟩]

/-- The registers of the page at 0x30000. -/
def regPage3 : List RegDef := [
  ⟨0x30000, 0, 1, 0, 1, 0, 1, 1, 0, 0, 0x310, 0⟩,
  ⟨0x30004, 0, 1, 0, 1, 0, 0, 0, 0, 1, 0, 0⟩,
  ⟨0x30008, 0, 1, 0, 1, 0, 0, 0, 0xFFFFFFFF, 0, 0, 0⟩,
  ⟨0x3000C, 0, 1, 0, 1, 0, 0, 0, 0xFFFFFFFF, 0, 0, 0⟩,
  ⟨0x30010, 0, 1, 0, 1, 0, 0, 0, 0, 0, 0xFFFFFFFF, 0⟩,
  ⟨0x30014, 0, 1, 0, 1, 0, 0, 0, 0, 0, 0xFFFFFFFF, 0⟩,
  ⟨0x30020, 0, 1, 0, 1, 0, 0, 0, 0, 0, 0xFFFFFFFF, 0⟩,
  ⟨0x30024, 0, 1, 0, 1, 0, 0, 0, 0, 0, 0xFFFFFFFF, 0⟩,
  ⟨0x30028, 0, 1, 0, 1, 0, 0x7FF, 0x7FF, 0, 0, 0, 0⟩,
  ⟨0x3002C, 0, 1, 0, 1, 0, 0, 0, 0, 0, 0xFFFF07FF, 0⟩,
  ⟨0x30100, 0x20, 4, 0, 1, 0, 0, 0, 0, 0, 0xFFFFFFFF, 0⟩,
  ⟨0x30104, 0x20, 4, 0, 1, 0, 0, 0, 0, 0, 0xFFFFFFFF, 0⟩,
  ⟨0x30108, 0x20, 4, 0, 1, 0, 0, 0, 0, 0, 0xFFFFFFFF, 0⟩,
  ⟨0x3010C, 0x20, 4, 0, 1, 0, 0xFF, 0xFF, 0, 0, 0, 0⟩,
  ⟨0x30110, 0x20, 4, 0, 1, 0, 0, 0, 0, 0, 0xFFFF007F, 0⟩,
  ⟨0x30200, 0x20, 4, 0, 1, 0x7000, 0xF107, 0xF107, 0, 0, 0, 0⟩,
  ⟨0x30204, 0x20, 4, 0, 1, 0, 0, 0, 0, 0, 0xFFFFFFFF, 0⟩,
  ⟨0x30208, 0x20, 4, 0, 1, 0, 0, 0, 0, 0x3F, 0, 0⟩,
  ⟨0x3020C, 0x20, 4, 0, 1, 0, 0, 0, 0, 0, 0xFF1F037F, 0⟩,
  ⟨0x31000, 4, 0x40, 0, 1, 0, 0x9373, 0x9373, 0, 0, 0, 0⟩]

/-- The registers of the page at 0x40000. -/
def regPage4 : List RegDef := [
  ⟨0x40000, 0x100, 0x14, 0, 1, 0xF0, 0xF3, 0, 0, 0x100, 0, 0⟩,
  ⟨0x40004, 0x100, 0x14, 0, 1, 5, 0, 0, 0, 0, 0x3F07, 0⟩,
  ⟨0x40008, 0x100, 0x14, 0, 1, 0, 0, 0, 0x1F, 0, 0, 0⟩,
  ⟨0x4000C, 0x100, 0x14, 0, 1, 0x3C, 0xFFFF, 0, 0, 0, 0, 0⟩,
  ⟨0x40010, 0x100, 0x14, 0, 1, 0, 0, 0, 0, 0, 0xFFFF, 0⟩,
  ⟨0x40014, 0x100, 0x14, 0, 1, 0x3F, 0xFFF, 0, 0, 0, 0, 0⟩,
  ⟨0x40018, 0x100, 0x14, 0, 1, 0x4E20, 0xFFFFFFFF, 0, 0, 0, 0, 0⟩,
  ⟨0x4001C, 0x100, 0x14, 0, 1, 0x30D40, 0xFFFFFFFF, 0, 0, 0, 0, 0⟩,
  ⟨0x40020, 0x100, 0x14, 0, 1, 0x3E8, 0xFFFFFF, 0, 0, 0, 0, 0⟩,
  ⟨0x40024, 0x100, 0x14, 0, 1, 0x989680, 0xFFFFFFFF, 0, 0, 0, 0, 0⟩,
  ⟨0x40028, 0x100, 0x14, 0, 1, 0, 0, 0, 0, 0, 0xFFFFFFFF, 0⟩,
  ⟨0x4002C, 0x100, 0x14, 0, 1, 0, 0, 0, 0, 0, 0xFFFFFFFF, 0⟩,
  ⟨0x40030, 0x100, 0x14, 0, 1, 0, 0, 0, 0, 0, 0xFFFFFFFF, 1⟩,
  ⟨0x40034, 0x100, 0x14, 0, 1, 0, 0, 0, 0, 0, 0xFFFFFFFF, 2⟩,
  ⟨0x40038, 0x100, 0x14, 0, 1, 0, 0xFFFFFFFF, 0, 0, 0, 0, 1⟩,
  ⟨0x4003C, 0x100, 0x14, 0, 1, 0, 0xFFFFFFFF, 0, 0, 0, 0, 2⟩,
  ⟨0x40040, 0x100, 0x14, 0, 1, 0xFA0, 0xFFFFFFFF, 0, 0, 0, 0, 0⟩,
  ⟨0x40044, 0x100, 0x14, 0, 1, 0, 0xFFFFFFFF, 0, 0, 0, 0, 0⟩,
  ⟨0x40048, 0x100, 0x14, 0, 1, 0, 0xFFFFFFFF, 0, 0, 0, 0, 1⟩,
  ⟨0x4004C, 0x100, 0x14, 0, 1, 0, 0xFFFF, 0, 0, 0, 0, 2⟩,
  ⟨0x40050, 0x100, 0x14, 0, 1, 0x404, 0xFF0F07, 0, 0, 0, 0, 0⟩,
  ⟨0x40054, 0x100, 0x14, 0, 1, 0, 0, 0, 0, 0, 0x3FF, 0⟩,
  ⟨0x40058, 0x100, 0x14, 0, 1, 0, 0xFFFFFFFF, 0, 0, 0, 0, 1⟩,
  ⟨0x4005C, 0x100, 0x14, 0, 1, 0, 0xFFFFFFFF, 0, 0, 0, 0, 2⟩,
  ⟨0x40060, 0x100, 0x14, 0, 1, 0, 0xFFFFFFFF, 0, 0, 0, 0, 1⟩,
  ⟨0x40064, 0x100, 0x14, 0, 1, 0, 0xFFFFFFFF, 0, 0, 0, 0, 2⟩,
  ⟨0x40068, 0x100, 0x14, 0, 1, 0, 0xFFFFFFFF, 0, 0, 0, 0, 0⟩,
  ⟨0x4006C, 0x100, 0x14, 0, 1, 0, 0, 0, 0, 0xFFFFFFFF, 0, 0⟩,
  ⟨0x40070, 0x100, 0x14, 0, 1, 0, 0, 0, 0, 0, 0xFFFFFFFF, 0⟩,
  ⟨0x40074, 0x100, 0x14, 0, 1, 3, 0xFF, 0, 0, 0, 0, 0⟩,
  ⟨0x42000, 0, 1, 0, 1, 0x20, 0x1F23, 0, 0, 0, 0, 0⟩,
  ⟨0x42004, 0, 1, 0, 1, 0x1F000000, 0, 0, 0, 0, 0x1F03FFFF, 0⟩,
  ⟨0x42008, 0, 1, 0, 1, 0x14, 0xFFFFFFFF, 0, 0, 0, 0, 0⟩,
  ⟨0x4200C, 0, 1, 0, 1, 0x1F1F0000, 0, 0, 0, 0, 0x1F1F000F, 0⟩,
  ⟨0x42010, 0, 1, 0, 1, 0, 0, 0, 0, 0, 0xFFFFFFFF, 1⟩,
  ⟨0x42014, 0, 1, 0, 1, 0, 0, 0, 0, 0, 0xFFFFFFFF, 2⟩,
  ⟨0x42018, 0, 1, 0, 1, 0, 0, 0, 0, 0, 0xFFFFFFFF, 1⟩,
  ⟨0x4201C, 0, 1, 0, 1, 0, 0, 0, 0, 0, 0xFFFFFFFF, 2⟩,
  ⟨0x42020, 0, 1, 0, 1, 0, 0, 0, 0, 0, 0xFFFFF, 0⟩,
  ⟨0x42040, 4, 0x10, 0, 1, 0xC350, 0xFFFFFFFF, 0, 0, 0, 0, 0⟩] ++ [
  ⟨0x42100, 0, 1, 0, 1, 0, 3, 0, 0, 0, 0, 0⟩,
  ⟨0x42104, 0, 1, 0, 1, 0, 0, 0, 0, 0, 0xF, 0⟩,
  ⟨0x42108, 0, 1, 0, 1, 0xF4240, 0xFFFFFFFF, 0, 0, 0, 0, 0⟩,
  ⟨0x4210C, 0, 1, 0, 1, 0, 0, 0, 0, 0, 0xFFFFFFFF, 0⟩,
  ⟨0x43000, 0, 1, 0, 1, 0xFFF0203, 0xFFF0F03, 0, 0, 0, 0, 0⟩,
  ⟨0x43004, 0, 1, 0, 1, 0xF80000, 0, 0, 0, 0, 0xFF0F07, 0⟩,
  ⟨0x43008, 0, 1, 0, 1, 0x3E810, 0xFFFFFF, 0, 0, 0, 0, 0⟩,
  ⟨0x4300C, 0, 1, 0, 1, 0xF4240, 0xFFFFFFFF, 0, 0, 0, 0, 0⟩,
  ⟨0x43010, 0, 1, 0, 1, 0x2710, 0xFFFFFFFF, 0, 0, 0, 0, 0⟩,
  ⟨0x43014, 0, 1, 0, 1, 0xF4240, 0xFFFFFFFF, 0, 0, 0, 0, 0⟩,
  ⟨0x43018, 0, 1, 0, 1, 0xF4240, 0, 0, 0, 0, 0xFFFFFFFF, 0⟩,
  ⟨0x4301C, 0, 1, 0, 1, 0, 0, 0, 0, 0, 0xFFFFFFFF, 0⟩,
  ⟨0x43020, 0, 1, 0, 1, 0x2710, 0, 0, 0, 0, 0xFFFFFFFF, 0⟩,
  ⟨0x43024, 0, 1, 0, 1, 0, 0, 0, 0, 0, 0xFFFFFFFF, 0⟩,
  ⟨0x43028, 0, 1, 0, 1, 0, 0, 0, 0, 0, 0xFFFFFFFF, 0⟩,
  ⟨0x4302C, 0, 1, 0, 1, 0, 0, 0, 0, 0, 0xFFFFFFFF, 0⟩,
  ⟨0x43030, 0, 1, 0, 1, 0, 0, 0, 0, 0, 0xFFFFFFFF, 0⟩,
  ⟨0x43034, 0, 1, 0, 1, 0, 0, 0, 0, 0, 0xFFFFFFFF, 0⟩,
  ⟨0x43038, 0, 1, 0, 1, 0, 0, 0, 0, 0, 0x1FFFF, 0⟩,
  ⟨0x4303C, 0, 1, 0, 1, 0x4800, 0xFF7F03, 0, 0, 0, 0, 0⟩,
  ⟨0x43040, 4, 8, 0, 1, 0x3E8, 0xFFFFFFFF, 0, 0, 0, 0, 0⟩,
  ⟨0x43060, 0, 1, 0, 1, 0, 0, 0, 0, 3, 0, 0⟩,
  ⟨0x43064, 0, 1, 0, 1, 0, 0, 0, 0, 0, 0xCF000, 0⟩,
  ⟨0x43068, 0, 1, 0, 1, 0xBB340706, 0xFFFFFFFF, 0, 0, 0, 0, 0⟩,
  ⟨0x4306C, 0, 1, 0, 1, 0xF8, 0xFF, 0, 0, 0, 0, 0⟩,
  ⟨0x43070, 0, 1, 0, 1, 0xFF00F, 0xFFFFF, 0, 0, 0, 0, 0⟩,
  ⟨0x43074, 0, 1, 0, 1, 0xFA0, 0xFFFFFFFF, 0, 0, 0, 0, 0⟩,
  ⟨0x43100, 0, 1, 0, 1, 0xFFFFFFFF, 0, 0, 0, 0, 0xFFFFFFFF, 0⟩,
  ⟨0x43104, 0, 1, 0, 1, 0, 0, 0, 0, 0, 0xFFFFFFFF, 0⟩,
  ⟨0x43108, 0, 1, 0, 1, 0, 0, 0, 0, 0, 0xFFFFFFFF, 0⟩,
  ⟨0x4310C, 0, 1, 0, 1, 0, 0, 0, 0, 0, 0xFFFFFFFF, 0⟩,
  ⟨0x43110, 0, 1, 0, 1, 0, 0, 0, 0, 0, 0xFFFFFFFF, 0⟩,
  ⟨0x43114, 0, 1, 0, 1, 0, 0, 0, 0, 0, 0xFFFFFFFF, 0⟩,
  ⟨0x43118, 0, 1, 0, 1, 0, 0, 0, 0, 0, 0xFFFFFFFF, 0⟩,
  ⟨0x4311C, 0, 1, 0, 1, 0, 0, 0, 0, 0, 0xFFFFFFFF, 0⟩,
  ⟨0x43120, 0, 1, 0, 1, 0xFFFFFFFF, 0, 0, 0, 0, 0xFFFFFFFF, 0⟩,
  ⟨0x43124, 0, 1, 0, 1, 0xFFFFFFFF, 0, 0, 0, 0, 0xFFFFFFFF, 0⟩,
  ⟨0x43128, 0, 1, 0, 1, 0x14, 0, 0, 0, 0, 0xFFFF001C, 0⟩,
  ⟨0x4312C, 0, 1, 0, 1, 0x1F1F0000, 0, 0, 0, 0, 0x1F1F0007, 0⟩,
  ⟨0x43130, 0, 1, 0, 1, 0, 0, 0, 0, 0, 0xFFFFFFFF, 1⟩] ++ [
  ⟨0x43134, 0, 1, 0, 1, 0, 0, 0, 0, 0, 0xFFFFFFFF, 2⟩,
  ⟨0x43138, 0, 1, 0, 1, 0xFFFFFFFF, 0xFFFFFFFF, 0, 0, 0, 0, 0⟩,
  ⟨0x4313C, 0, 1, 0, 1, 0, 0, 0, 0, 0, 0x1FFFF, 0⟩,
  ⟨0x43140, 0, 1, 0, 1, 0, 0, 0, 0, 0, 0xFFFFFFFF, 1⟩,
  ⟨0x43144, 0, 1, 0, 1, 0, 0, 0, 0, 0, 0xFFFFFFFF, 2⟩,
  ⟨0x43148, 0, 1, 0, 1, 0, 0, 0, 0, 0, 0xFFFFFFFF, 1⟩,
  ⟨0x4314C, 0, 1, 0, 1, 0, 0, 0, 0, 0, 0xFFFFFFFF, 2⟩,
  ⟨0x43150, 4, 0x14, 0, 1, 0, 0, 0, 0, 0, 0xFFFFFFFF, 0⟩]

/-- The registers of the page at 0x50000. -/
def regPage5 : List RegDef := [
  ⟨0x50000, 0x1000, 3, 0, 1, 0, 0x700, 0, 0, 7, 0, 0⟩,
  ⟨0x50004, 0x1000, 3, 0, 1, 0x8001, 0, 0, 0, 0, 0xFCE007, 0⟩,
  ⟨0x50008, 0x1000, 3, 0, 1, 0x141401, 0xFFFF03, 0, 0, 0, 0, 0⟩,
  ⟨0x5000C, 0x1000, 3, 0, 1, 0, 0, 0, 0, 0, 0xFFFFFFFF, 0⟩,
  ⟨0x50010, 0x1000, 3, 0, 1, 0, 0, 0, 0, 0, 0xFFFFFFFF, 0⟩,
  ⟨0x50014, 0x1000, 3, 0, 1, 0, 0, 0, 0, 0, 0xFFFFFFFF, 0⟩,
  ⟨0x50018, 0x1000, 3, 0, 1, 0, 0, 0, 0, 0, 0xFFFFFFFF, 0⟩,
  ⟨0x5001C, 0x1000, 3, 0, 1, 0, 0, 0, 0, 0, 0xFFFFFFFF, 0⟩,
  ⟨0x50100, 0x1000, 3, 4, 0x40, 0, 0x80FFFFFF, 0, 0, 0, 0, 0⟩,
  ⟨0x53000, 0x40, 0xC, 0, 1, 0, 0x3FF37F, 0, 0, 0, 0, 0⟩,
  ⟨0x53004, 0x40, 0xC, 0, 1, 0x3E8, 0xFFFFFFFF, 0, 0, 0, 0, 0⟩,
  ⟨0x53008, 0x40, 0xC, 0, 1, 0, 0xFFFFFFFF, 0, 0, 0, 0, 0⟩,
  ⟨0x5300C, 0x40, 0xC, 0, 1, 0x10, 0x3F, 0, 0, 0, 0, 0⟩,
  ⟨0x53010, 0x40, 0xC, 0, 1, 0x186A0, 0x7FFFF, 0, 0, 0, 0, 0⟩,
  ⟨0x53014, 0x40, 0xC, 0, 1, 0, 0xFFFF0F01, 0, 0, 0, 0, 0⟩,
  ⟨0x53018, 0x40, 0xC, 0, 1, 0, 0, 0, 2, 0, 0x1FD, 0⟩,
  ⟨0x5301C, 0x40, 0xC, 0, 1, 0, 0, 0, 0, 0, 0x7FF, 0⟩]

/-- The registers of the page at 0x60000. -/
def regPage6 : List RegDef := [
  ⟨0x60000, 0x100, 0xC, 0, 1, 1, 0x1F7FF307, 0x1F7FF307, 0, 0, 0, 0⟩,
  ⟨0x60004, 0x100, 4, 0, 1, 0xCE, 0x600FF, 0x600FF, 0, 0, 0x10000, 0⟩,
  ⟨0x60404, 0x100, 8, 0, 1, 0x100CE, 0x700FF, 0x700FF, 0, 0, 0, 0⟩,
  ⟨0x60008, 0x100, 0xC, 0, 1, 0, 0xFFFFFFFF, 0xFFFFFFFF, 0, 0, 0, 1⟩,
  ⟨0x6000C, 0x100, 0xC, 0, 1, 0, 0xFFFFFFFF, 0xFFFFFFFF, 0, 0, 0, 2⟩,
  ⟨0x60010, 0x100, 0xC, 0, 1, 0, 0xFFFFFFFF, 0, 0, 0, 0, 1⟩,
  ⟨0x60014, 0x100, 0xC, 0, 1, 0, 0xFFFFFFFF, 0, 0, 0, 0, 2⟩,
  ⟨0x60018, 0x100, 0xC, 0, 1, 0, 0xFFFFFFFF, 0, 0, 0, 0, 0⟩,
  ⟨0x6001C, 0x100, 0xC, 0, 1, 0, 0xFFFF, 0, 0, 0, 0, 0⟩,
  ⟨0x60020, 0x100, 0xC, 0, 1, 0, 0, 0, 0, 3, 0, 0⟩,
  ⟨0x60024, 0x100, 0xC, 0, 1, 0, 0, 0, 0, 0, 0xF7, 0⟩,
  ⟨0x60028, 0x100, 0xC, 0, 1, 0, 0, 0, 0, 0, 0xFFFFFFFF, 0⟩,
  ⟨0x6002C, 0x100, 0xC, 0, 1, 0, 0, 0, 0, 0, 0xFFFFFFFF, 1⟩,
  ⟨0x60030, 0x100, 0xC, 0, 1, 0, 0, 0, 0, 0, 0xFFFFFFFF, 2⟩,
  ⟨0x60034, 0x100, 0xC, 0, 1, 0, 0, 0, 0, 0, 0xFFFFFFFF, 0⟩,
  ⟨0x60038, 0x100, 0xC, 0, 1, 0, 0, 0, 0, 0, 0xFFFFFFFF, 0⟩,
  ⟨0x6003C, 0x100, 0xC, 0, 1, 0, 0, 0, 0, 0, 0xFFFFFFFF, 0⟩,
  ⟨0x60040, 0x100, 0xC, 0, 1, 0, 0, 0, 0, 0, 0xFFFFFFFF, 0⟩,
  ⟨0x60044, 0x100, 0xC, 0, 1, 0, 0, 0, 0, 0, 0xFFFFFFFF, 0⟩,
  ⟨0x60048, 0x100, 0xC, 0, 1, 0, 0, 0, 0, 0, 0xFFFFFFFF, 0⟩,
  ⟨0x6004C, 0x100, 0xC, 0, 1, 0xFFFFFFFF, 0, 0, 0, 0, 0xFFFFFFFF, 0⟩,
  ⟨0x60050, 0x100, 0xC, 0, 1, 0, 0, 0, 0, 0, 0xFFFFFFFF, 0⟩,
  ⟨0x60054, 0x100, 0xC, 0, 1, 0, 0xFFFF, 0xFFFF, 0, 0, 0, 0⟩,
  ⟨0x61000, 0, 1, 0, 1, 0x1000, 0x3FFF, 0x3FFF, 0, 0, 0, 0⟩,
  ⟨0x61004, 0, 1, 0, 1, 0, 0, 0, 0, 0, 0x8FFF3FFF, 0⟩,
  ⟨0x61008, 0, 1, 0, 1, 0, 0, 0, 0xFFF, 0, 0, 0⟩,
  ⟨0x6100C, 0, 1, 0, 1, 0, 0, 0, 0, 0, 0xFFFFFFFF, 0⟩,
  ⟨0x61010, 4, 4, 0, 1, 0, 0, 0, 0, 0, 0xFFFFFFFF, 0⟩,
  ⟨0x61040, 4, 0xC, 0, 1, 0x80000000, 0, 0, 0, 0, 0xFFFFFFFF, 0⟩]

/-- The registers of the page at 0x70000. -/
def regPage7 : List RegDef := [
  ⟨0x70000, 0x200, 8, 0, 1, 0, 0xF10, 0xF10, 0, 0, 0, 0⟩,
  ⟨0x70004, 0x200, 8, 0, 1, 0, 0, 0, 0x180, 0, 0x203, 0⟩,
  ⟨0x70008, 0x200, 8, 0, 1, 0, 0, 0, 0, 3, 0, 0⟩,
  ⟨0x7000C, 0x200, 8, 0, 1, 0x2000, 0xFFFF, 0xFFFF, 0, 0, 0, 0⟩,
  ⟨0x70010, 0x200, 8, 0, 1, 0x1000, 0xFFFF, 0xFFFF, 0, 0, 0, 0⟩,
  ⟨0x70014, 0x200, 8, 0, 1, 0x3E8, 0x1FFFF, 0x1FFFF, 0, 0, 0, 0⟩,
  ⟨0x70018, 0x200, 8, 0, 1, 0, 0xFFFFFFFF, 0xFFFFFFFF, 0, 0, 0, 0⟩,
  ⟨0x7001C, 0x200, 8, 0, 1, 0, 0, 0, 0, 0, 0xFFFFFFFF, 0⟩,
  ⟨0x70020, 0x200, 8, 0, 1, 0, 0xFFFFFFFF, 0, 0, 0, 0, 1⟩,
  ⟨0x70024, 0x200, 8, 0, 1, 0, 0xFFFFFFFF, 0, 0, 0, 0, 2⟩,
  ⟨0x70028, 0x200, 8, 0, 1, 0, 0xFFFFFFFF, 0, 0, 0, 0, 1⟩,
  ⟨0x7002C, 0x200, 8, 0, 1, 0, 0xFFFF, 0, 0, 0, 0, 2⟩,
  ⟨0x70030, 0x200, 8, 0, 1, 0, 0x3FFFFFFF, 0, 0, 0, 0, 0⟩,
  ⟨0x70034, 0x200, 8, 0, 1, 0x3E8, 0xFFFFFFFF, 0xFFFFFFFF, 0, 0, 0, 0⟩,
  ⟨0x70038, 0x200, 8, 0, 1, 0, 0, 0, 0, 0, 0xFFFFFFFF, 1⟩,
  ⟨0x7003C, 0x200, 8, 0, 1, 0, 0, 0, 0, 0, 0xFFFFFFFF, 2⟩,
  ⟨0x70040, 0x200, 8, 0, 1, 0, 0, 0, 0, 0, 0xFFFFFFFF, 1⟩,
  ⟨0x70044, 0x200, 8, 0, 1, 0, 0, 0, 0, 0, 0xFFFF, 2⟩,
  ⟨0x70048, 0x200, 8, 0, 1, 0, 0, 0, 0, 0, 0xFFFFFFFF, 0⟩,
  ⟨0x7004C, 0x200, 8, 0, 1, 0, 0, 0, 0, 0, 0xFFFF, 0⟩,
  ⟨0x70050, 0x200, 8, 0, 1, 0, 0, 0, 0, 0, 0xFFFFFFFF, 1⟩,
  ⟨0x70054, 0x200, 8, 0, 1, 0, 0, 0, 0, 0, 0xFFFFFFFF, 2⟩,
  ⟨0x70058, 0x200, 8, 0, 1, 0, 0xFFFFFFFF, 0, 0, 0, 0, 1⟩,
  ⟨0x7005C, 0x200, 8, 0, 1, 0, 0xFFFFFFFF, 0, 0, 0, 0, 2⟩,
  ⟨0x70060, 0x200, 8, 0, 1, 0, 0xFFFFFFFF, 0, 0, 0, 0, 1⟩,
  ⟨0x70064, 0x200, 8, 0, 1, 0, 0xFFFFFFFF, 0, 0, 0, 0, 2⟩,
  ⟨0x70068, 0x200, 8, 0, 1, 0, 0, 0, 0, 0xFFFFFFFF, 0, 0⟩,
  ⟨0x7006C, 0x200, 8, 0, 1, 3, 0xFF, 0xFF, 0, 0, 0, 0⟩,
  ⟨0x70070, 0x200, 8, 0, 1, 0, 0, 0, 0, 0, 0xFFFFFFFF, 1⟩,
  ⟨0x70074, 0x200, 8, 0, 1, 0, 0, 0, 0, 0, 0xFFFFFFFF, 2⟩,
  ⟨0x70078, 0x200, 8, 0, 1, 0, 0, 0, 0xF, 0, 0, 0⟩,
  ⟨0x7007C, 0x200, 8, 0, 1, 0, 0xF, 0xF, 0, 0, 0, 0⟩,
  ⟨0x70100, 0x200, 8, 0x20, 4, 0, 3, 0, 0, 0, 0, 0⟩,
  ⟨0x70104, 0x200, 8, 0x20, 4, 0, 0xFFFFFFFF, 0, 0, 0, 0, 0⟩,
  ⟨0x70108, 0x200, 8, 0x20, 4, 0, 0xFFFFFFFF, 0, 0, 0, 0, 1⟩,
  ⟨0x7010C, 0x200, 8, 0x20, 4, 0, 0xFFFFFFFF, 0, 0, 0, 0, 2⟩,
  ⟨0x70110, 0x200, 8, 0x20, 4, 0, 0, 0, 0, 0, 0xFF07, 0⟩,
  ⟨0x71000, 0, 1, 0, 1, 0, 0, 0, 0, 1, 0, 0⟩,
  ⟨0x71004, 0, 1, 0, 1, 0, 0x8000FFFF, 0x8000FFFF, 0, 0, 0, 0⟩,
  ⟨0x71008, 0, 1, 0, 1, 0, 0, 0, 0, 0, 0x10F03, 0⟩] ++ [
  ⟨0x7100C, 0, 1, 0, 1, 0, 0, 0, 0, 0xFFFFFFFF, 0, 0⟩,
  ⟨0x71010, 8, 8, 0, 1, 0, 0xFFFFFFFF, 0, 0, 0, 0, 1⟩,
  ⟨0x71014, 8, 8, 0, 1, 0, 0xC000FFFF, 0, 0, 0, 0, 2⟩,
  ⟨0x71060, 4, 4, 0, 1, 0xA0000, 0xFFFF007F, 0xFFFF007F, 0, 0, 0, 0⟩,
  ⟨0x71070, 0, 1, 0, 1, 0, 0, 0, 0, 0, 0xFFFFFFFF, 0⟩]

/-- The registers of the page at 0x80000. -/
def regPage8 : List RegDef := [
  ⟨0x80000, 0x4000, 4, 0, 1, 1, 0x3001, 0x3001, 0, 6, 0x700, 0⟩,
  ⟨0x80004, 0x4000, 4, 0, 1, 0, 0, 0, 0x10000, 0, 0x1F7, 0⟩,
  ⟨0x80008, 0x4000, 4, 0, 1, 0x5F2, 0x3FFF, 0x3FFF, 0, 0, 0, 0⟩,
  ⟨0x8000C, 0x4000, 4, 0, 1, 3, 7, 7, 0, 0, 0x3E00, 0⟩,
  ⟨0x80010, 0x4000, 4, 0, 1, 0, 0xFFFFFFFF, 0xFFFFFFFF, 0, 0, 0, 1⟩,
  ⟨0x80014, 0x4000, 4, 0, 1, 0, 0xFFFF, 0xFFFF, 0, 0, 0, 2⟩,
  ⟨0x80018, 0x4000, 4, 0, 1, 1, 7, 7, 0, 0, 0x7F00, 0⟩,
  ⟨0x8001C, 0x4000, 4, 0, 1, 1, 1, 1, 0, 0, 0xFFFF0000, 0⟩,
  ⟨0x80020, 0x4000, 4, 4, 8, 0, 0xFFFFFFFF, 0xFFFFFFFF, 0, 0, 0, 0⟩,
  ⟨0x80040, 0x4000, 4, 0, 1, 0, 7, 7, 0, 0, 0, 0⟩,
  ⟨0x80044, 0x4000, 4, 0, 1, 0, 0xFFFFFFFF, 0xFFFFFFFF, 0, 0, 0, 0⟩,
  ⟨0x80048, 0x4000, 4, 0, 1, 0, 0xFFFFFFFF, 0xFFFFFFFF, 0, 0, 0, 0⟩,
  ⟨0x8004C, 0x4000, 4, 0, 1, 0, 0, 0, 0, 0, 0xFFFFFFFF, 0⟩,
  ⟨0x80050, 0x4000, 4, 0, 1, 0, 0, 0, 0, 0, 0xFFFFFFFF, 0⟩,
  ⟨0x80100, 0x4000, 4, 0, 1, 0, 0, 0, 0, 0, 0xFFFFFFFF, 0⟩,
  ⟨0x80104, 0x4000, 4, 0, 1, 0, 0, 0, 0, 0, 0xFFFFFFFF, 1⟩,
  ⟨0x80108, 0x4000, 4, 0, 1, 0, 0, 0, 0, 0, 0xFFFFFFFF, 2⟩,
  ⟨0x8010C, 0x4000, 4, 0, 1, 0, 0, 0, 0, 0, 0xFFFFFFFF, 0⟩,
  ⟨0x80110, 0x4000, 4, 0, 1, 0, 0, 0, 0, 0, 0xFFFFFFFF, 0⟩,
  ⟨0x80114, 0x4000, 4, 0, 1, 0, 0, 0, 0, 0, 0xFFFFFFFF, 0⟩,
  ⟨0x80118, 0x4000, 4, 0, 1, 0, 0, 0, 0, 0, 0xFFFFFFFF, 0⟩,
  ⟨0x8011C, 0x4000, 4, 0, 1, 0, 0, 0, 0, 0, 0xFFFFFFFF, 0⟩,
  ⟨0x80120, 0x4000, 4, 0, 1, 0, 0, 0, 0, 0, 0xFFFFFFFF, 0⟩,
  ⟨0x80124, 0x4000, 4, 0, 1, 0, 0, 0, 0, 0, 0xFFFFFFFF, 0⟩,
  ⟨0x80128, 0x4000, 4, 0, 1, 0, 0, 0, 0, 0, 0xFFFFFFFF, 0⟩,
  ⟨0x8012C, 0x4000, 4, 0, 1, 0, 0, 0, 0, 0, 0xFFFFFFFF, 0⟩,
  ⟨0x80130, 0x4000, 4, 0, 1, 0, 0, 0, 0, 0, 0xFFFFFFFF, 0⟩,
  ⟨0x80134, 0x4000, 4, 0, 1, 0, 0, 0, 0, 0, 0xFFFFFFFF, 1⟩,
  ⟨0x80138, 0x4000, 4, 0, 1, 0, 0, 0, 0, 0, 0xFFFFFFFF, 2⟩,
  ⟨0x8013C, 0x4000, 4, 0, 1, 0, 0, 0, 0, 0, 0xFFFFFFFF, 0⟩,
  ⟨0x80140, 0x4000, 4, 0, 1, 0, 0, 0, 0, 0, 0xFFFFFFFF, 0⟩,
  ⟨0x80144, 0x4000, 4, 0, 1, 0, 0, 0, 0, 0, 0xFFFFFFFF, 0⟩,
  ⟨0x80148, 0x4000, 4, 0, 1, 0, 0, 0, 0, 0, 0xFFFFFFFF, 0⟩]

/-- The registers of the page at 0x90000. -/
def regPage9 : List RegDef := [
  ⟨0x90000, 0, 1, 0, 1, 0, 0x30003, 0x30003, 0, 0, 0, 0⟩,
  ⟨0x90004, 0, 1, 0, 1, 0xFEF802, 0, 0, 0, 0, 0xFFFF07, 0⟩,
  ⟨0x90008, 0, 1, 0, 1, 0, 0xFFFFFFFF, 0xFFFFFFFF, 0, 0, 0, 1⟩,
  ⟨0x9000C, 0, 1, 0, 1, 0, 0xFFFFFFFF, 0xFFFFFFFF, 0, 0, 0, 2⟩,
  ⟨0x90010, 0, 1, 0, 1, 0x8080FE, 0xFFFFFF, 0xFFFFFF, 0, 0, 0, 0⟩,
  ⟨0x90014, 0, 1, 0, 1, 0xFFFF, 0xFFFF, 0xFFFF, 0, 0, 0, 0⟩,
  ⟨0x90018, 0, 1, 0, 1, 0x20202020, 0xFFFFFFFF, 0xFFFFFFFF, 0, 0, 0, 0⟩,
  ⟨0x9001C, 0, 1, 0, 1, 0xA0A0A0A0, 0xFFFFFFFF, 0xFFFFFFFF, 0, 0, 0, 0⟩,
  ⟨0x90020, 0, 1, 0, 1, 0xA0A0A0A0, 0xFFFFFFFF, 0xFFFFFFFF, 0, 0, 0, 0⟩,
  ⟨0x90024, 0, 1, 0, 1, 0x40404040, 0xFFFFFFFF, 0xFFFFFFFF, 0, 0, 0, 0⟩,
  ⟨0x90028, 0, 1, 0, 1, 0x90909020, 0xFFFFFFFF, 0xFFFFFFFF, 0, 0, 0, 0⟩,
  ⟨0x90030, 0, 1, 0, 1, 0, 0xFFFFFF00, 0xFFFFFF00, 0, 0, 0, 0⟩,
  ⟨0x90034, 0, 1, 0, 1, 1, 0xFFFFFF, 0xFFFFFF, 0, 0, 0, 0⟩,
  ⟨0x90040, 0, 1, 0, 1, 0x12C0D99, 0xFFFF0FFF, 0xFFFF0FFF, 0, 0, 0, 0⟩,
  ⟨0x90044, 0, 1, 0, 1, 0x80000, 0xFFFFF, 0xFFFFF, 0, 0, 0, 0⟩,
  ⟨0x90048, 0, 1, 0, 1, 0, 0, 0, 0, 0, 0x1FFF, 0⟩,
  ⟨0x9004C, 0, 1, 0, 1, 0, 0, 0, 0, 0, 0xFFFFF, 0⟩,
  ⟨0x90050, 0, 1, 0, 1, 0, 0, 0, 0, 0, 0xFFFFFFFF, 0⟩,
  ⟨0x90054, 0, 1, 0, 1, 0, 0xFFF, 0, 0, 0, 0, 0⟩,
  ⟨0x90060, 4, 0xA, 0, 1, 0, 0, 0, 0, 0, 0xFFFFFFFF, 0⟩,
  ⟨0x900A0, 0, 1, 0, 1, 0, 0, 0, 0xFFF03, 0, 0, 0⟩,
  ⟨0x900A4, 0, 1, 0, 1, 0, 0xFFF03, 0xFFF03, 0, 0, 0, 0⟩,
  ⟨0x900B0, 0, 1, 0, 1, 0x800, 0xFFFF, 0xFFFF, 0, 0, 0, 0⟩,
  ⟨0x900B4, 0, 1, 0, 1, 0, 0, 0, 0, 0, 0x1FFF, 0⟩,
  ⟨0x900C0, 4, 4, 0, 1, 0, 0, 0, 0, 0, 0xFFFFFFFF, 0⟩,
  ⟨0x91000, 0x200, 4, 0, 1, 0x100, 0xFF073733, 0xFF073733, 0, 0, 0, 0⟩,
  ⟨0x91004, 0x200, 4, 0, 1, 0x1000003, 0xFFFFFF0F, 0xFFFFFF0F, 0, 0, 0, 0⟩,
  ⟨0x91008, 0x200, 4, 0, 1, 0, 0, 0, 0, 0, 0x107, 0⟩,
  ⟨0x9100C, 0x200, 4, 0, 1, 0, 0xFFFFFFFF, 0xFFFFFFFF, 0, 0, 0, 0⟩,
  ⟨0x91010, 0x200, 4, 4, 4, 0, 0xFFFFFFFF, 0xFFFFFFFF, 0, 0, 0, 0⟩,
  ⟨0x91020, 0x200, 4, 0, 1, 0, 0x1EFFF, 0x1EFFF, 0, 0, 0, 0⟩,
  ⟨0x91024, 0x200, 4, 0, 1, 0, 0xFF0F0006, 0xFF0F0006, 0, 0, 0, 0⟩,
  ⟨0x91028, 0x200, 4, 0, 1, 0x320, 0xFFFF, 0xFFFF, 0, 0, 0, 0⟩,
  ⟨0x9102C, 0x200, 4, 0, 1, 0, 0, 0, 0, 0, 0xFFFFFFFF, 0⟩,
  ⟨0x91040, 0x200, 4, 0, 1, 0x70000, 0xFF7FFF0D, 0xFF7FFF0D, 0, 0, 0, 0⟩,
  ⟨0x91044, 0x200, 4, 0, 1, 0, 0xFFFFFFFF, 0xFFFFFFFF, 0, 0, 0, 0⟩,
  ⟨0x91048, 0x200, 4, 0, 1, 0, 0xFFFFFFFF, 0xFFFFFFFF, 0, 0, 0, 0⟩,
  ⟨0x9104C, 0x200, 4, 0, 1, 0, 0xFFFFFFFF, 0xFFFFFFFF, 0, 0, 0, 0⟩,
  ⟨0x91050, 0x200, 4, 0, 1, 0, 0, 0, 0, 0, 0xFFFF0113, 0⟩,
  ⟨0x91054, 0x200, 4, 0, 1, 0, 0, 0, 0, 0, 0xFFFFFFFF, 1⟩] ++ [
  ⟨0x91058, 0x200, 4, 0, 1, 0, 0, 0, 0, 0, 0xFFFFFFFF, 2⟩,
  ⟨0x9105C, 0x200, 4, 0, 1, 0, 0, 0, 0, 0, 0xFFFFFFFF, 0⟩,
  ⟨0x91060, 0x200, 4, 0, 1, 0, 0, 0, 0, 0, 0xFFFFFFFF, 0⟩,
  ⟨0x91080, 0x200, 4, 0, 1, 0, 0, 0, 0, 0, 0xFFFFFFFF, 0⟩,
  ⟨0x91084, 0x200, 4, 0, 1, 0, 0, 0, 0, 0, 0xFFFFFFFF, 0⟩,
  ⟨0x91088, 0x200, 4, 0, 1, 0, 0, 0, 0, 0, 0xFFFFFFFF, 0⟩,
  ⟨0x9108C, 0x200, 4, 0, 1, 0, 0, 0, 0, 0, 0xFFFFFFFF, 0⟩,
  ⟨0x91090, 0x200, 4, 0, 1, 0, 0, 0, 0, 0, 0xFFFFFFFF, 0⟩,
  ⟨0x91094, 0x200, 4, 0, 1, 0, 0, 0, 0, 0, 0xFFFFFFFF, 0⟩,
  ⟨0x91098, 0x200, 4, 0, 1, 0, 0, 0, 0, 0, 0xFFFFFFFF, 0⟩,
  ⟨0x9109C, 0x200, 4, 0, 1, 0, 0, 0, 0, 0, 0xFFFFFFFF, 0⟩,
  ⟨0x910A0, 0x200, 4, 0, 1, 0, 0, 0, 0, 0, 0xFFFFFFFF, 0⟩,
  ⟨0x910A4, 0x200, 4, 0, 1, 0, 0, 0, 0, 0, 0xFFFFFFFF, 0⟩]

/-- The registers of the page at 0xA0000. -/
def regPageA : List RegDef := [
  ⟨0xA0000, 0, 1, 0, 1, 4, 0xF, 0xF, 0, 0, 0, 0⟩,
  ⟨0xA0004, 0, 1, 0, 1, 0x3100002, 0, 0, 0, 0, 0x3FF000F, 0⟩,
  ⟨0xA0008, 0, 1, 0, 1, 0x40E90019, 0xFFFFFFFF, 0xFFFFFFFF, 0, 0, 0, 0⟩,
  ⟨0xA000C, 0, 1, 0, 1, 0x54414900, 0xFFFFFFFF, 0xFFFFFFFF, 0, 0, 0, 0⟩,
  ⟨0xA0010, 0, 1, 0, 1, 0, 0xFFFF, 0xFFFF, 0, 0, 0, 0⟩,
  ⟨0xA0014, 0, 1, 0, 1, 0x200010, 0xFFFFFFFF, 0xFFFFFFFF, 0, 0, 0, 0⟩,
  ⟨0xA0018, 0, 1, 0, 1, 0x2015180, 0x3FFFFFF, 0x3FFFFFF, 0, 0, 0, 0⟩,
  ⟨0xA001C, 0, 1, 0, 1, 0x15180, 0, 0, 0, 0, 0xFFFFFFFF, 0⟩,
  ⟨0xA0020, 0, 1, 0, 1, 0, 0, 0, 0, 0xFFFFFFFF, 0, 0⟩,
  ⟨0xA0024, 0, 1, 0, 1, 0, 0, 0, 0, 0, 0x1F, 0⟩,
  ⟨0xA0028, 4, 4, 0, 1, 0, 0, 0, 0, 0, 0xFFFFFFFF, 0⟩,
  ⟨0xA0038, 0, 1, 0, 1, 0, 0xFFFFFFFF, 0xFFFFFFFF, 0, 0, 0, 0⟩,
  ⟨0xA0100, 0, 1, 0, 1, 0, 0, 0, 0, 0, 0xFFFFFFFF, 0⟩,
  ⟨0xA0104, 0, 1, 0, 1, 0, 0, 0, 0, 0, 0xFFFFFFFF, 0⟩,
  ⟨0xA0108, 0, 1, 0, 1, 0, 0, 0, 0, 0, 0xFFFFFFFF, 0⟩,
  ⟨0xA010C, 0, 1, 0, 1, 0, 0, 0, 0, 0, 0xFFFFFFFF, 0⟩,
  ⟨0xA0110, 0, 1, 0, 1, 0, 0, 0, 0, 0, 0xFFFFFFFF, 0⟩,
  ⟨0xA0114, 0, 1, 0, 1, 0, 0, 0, 0, 0, 0xFFFFFFFF, 0⟩,
  ⟨0xA0118, 0, 1, 0, 1, 0, 0, 0, 0, 0, 0xFFFFFFFF, 0⟩,
  ⟨0xA011C, 0, 1, 0, 1, 0, 0, 0, 0, 0, 0xFFFFFFFF, 0⟩,
  ⟨0xA0120, 0, 1, 0, 1, 0, 0, 0, 0, 0, 0xFFFFFFFF, 0⟩,
  ⟨0xA0124, 0, 1, 0, 1, 0, 0, 0, 0, 0, 0xFFFFFFFF, 0⟩,
  ⟨0xA0128, 0, 1, 0, 1, 0, 0, 0, 0, 0, 0xFFFFFFFF, 0⟩,
  ⟨0xA012C, 0, 1, 0, 1, 0, 0, 0, 0, 0, 0xFFFFFFFF, 0⟩,
  ⟨0xA0130, 0, 1, 0, 1, 0, 0, 0, 0, 0, 0xFFFFFFFF, 0⟩,
  ⟨0xA0134, 0, 1, 0, 1, 0, 0, 0, 0, 0, 0xFFFFFFFF, 0⟩,
  ⟨0xA0138, 0, 1, 0, 1, 0, 0, 0, 0, 0, 0xFFFFFFFF, 0⟩,
  ⟨0xA013C, 0, 1, 0, 1, 0, 0, 0, 0, 0, 0xFFFFFFFF, 0⟩,
  ⟨0xA0200, 4, 0x10, 0, 1, 0, 0, 0, 0, 0xFFFFFFFF, 0, 0⟩,
  ⟨0xA0240, 0, 1, 0, 1, 0, 0, 0, 0, 0xF, 0, 0⟩,
  ⟨0xA0244, 0, 1, 0, 1, 0, 0, 0, 0, 0, 0xFF, 0⟩,
  ⟨0xA1000, 0x40, 4, 0, 1, 0, 0xFFFFFFFF, 0xFFFFFFFF, 0, 0, 0, 0⟩,
  ⟨0xA1004, 0x40, 4, 4, 4, 0, 0xFFFFFFFF, 0xFFFFFFFF, 0, 0, 0, 0⟩,
  ⟨0xA1014, 0x40, 4, 0, 1, 0, 0x10FFF, 0x10FFF, 0, 0, 0, 0⟩]

/-- The registers of the page at 0xB0000. -/
def regPageB : List RegDef := [
  ⟨0xB0000, 0, 1, 0, 1, 1, 0, 0, 0, 0, 0xF, 0⟩,
  ⟨0xB0004, 0, 1, 0, 1, 0, 0, 0, 0, 0xFFFFFFFF, 0, 0⟩,
  ⟨0xB0008, 0, 1, 0, 1, 0x700, 0x700, 0x700, 0, 3, 0, 0⟩,
  ⟨0xB000C, 0, 1, 0, 1, 0, 0, 0, 0, 0, 0xCF000, 0⟩,
  ⟨0xB0010, 4, 8, 0, 1, 0, 0, 0, 0, 0xFFFFFFFF, 0, 0⟩,
  ⟨0xB0030, 0, 1, 0, 1, 0, 0, 0, 0, 0x1F03, 0, 0⟩,
  ⟨0xB0040, 0, 1, 0, 1, 0xA, 0xFFFF, 0xFFFF, 0, 0, 0, 0⟩,
  ⟨0xB0044, 0, 1, 0, 1, 0, 0, 0, 0, 0, 0xFFFFFFFF, 0⟩,
  ⟨0xB0048, 0, 1, 0, 1, 0, 0, 0, 0, 0, 0xFFFFFFFF, 0⟩,
  ⟨0xB0080, 4, 8, 0, 1, 0, 0, 0, 0, 0, 0xFFFFFFFF, 0⟩,
  ⟨0xB00A0, 0, 1, 0, 1, 0, 0, 0, 0, 0, 0xFFFFFFFF, 1⟩,
  ⟨0xB00A4, 0, 1, 0, 1, 0, 0, 0, 0, 0, 0xFFFFFFFF, 2⟩,
  ⟨0xB1000, 0x20, 0x10, 0, 1, 0, 0xFFFFFFFF, 0xFFFFFFFF, 0, 0, 0, 0⟩,
  ⟨0xB1004, 0x20, 0x10, 0, 1, 0, 0xFF7B, 0xFF7B, 0, 0, 0x80, 0⟩,
  ⟨0xB1008, 0x20, 0x10, 0, 1, 0, 0xFFFFFFFF, 0xFFFFFFFF, 0, 0, 0, 1⟩,
  ⟨0xB100C, 0x20, 0x10, 0, 1, 0, 0xFFFF, 0xFFFF, 0, 0, 0, 2⟩,
  ⟨0xB1010, 0x20, 0x10, 0, 1, 0, 0xFFFFFFFF, 0xFFFFFFFF, 0, 0, 0, 1⟩,
  ⟨0xB1014, 0x20, 0x10, 0, 1, 0, 0xFFFF, 0xFFFF, 0, 0, 0, 2⟩]

/-- The registers of the page at 0xC0000. -/
def regPageC : List RegDef := [
  ⟨0xC0000, 0, 1, 0, 1, 0, 0xF, 0, 0, 0, 0, 0⟩,
  ⟨0xC0004, 0, 1, 0, 1, 0, 0, 0, 2, 0, 5, 0⟩,
  ⟨0xC0008, 0, 1, 0, 1, 0, 0, 0, 0, 0, 0xFFFFFFFF, 0⟩,
  ⟨0xC000C, 0, 1, 0, 1, 0x50002, 0xFFFF0007, 0, 0, 0, 0, 0⟩,
  ⟨0xC0010, 0, 1, 0, 1, 0, 0, 0, 0, 0, 0xF, 0⟩,
  ⟨0xC0020, 4, 4, 0, 1, 0x320F0000, 0xFFFF007F, 0, 0, 0, 0, 0⟩,
  ⟨0xC0030, 4, 4, 0, 1, 0, 0, 0, 1, 0, 0xFF000006, 0⟩,
  ⟨0xC0040, 8, 4, 0, 1, 0, 0xFFFFFFFF, 0, 0, 0, 0, 1⟩,
  ⟨0xC0044, 8, 4, 0, 1, 0, 0xFFFFFFFF, 0, 0, 0, 0, 2⟩,
  ⟨0xC0060, 0, 1, 0, 1, 0x400, 0x7FF, 0, 0, 0, 0, 0⟩,
  ⟨0xC0064, 0, 1, 0, 1, 0, 0, 0, 0, 0, 0xFFFF0FFF, 0⟩,
  ⟨0xC0068, 0, 1, 0, 1, 0x40, 0xFF, 0, 0, 0, 0, 0⟩,
  ⟨0xC006C, 0, 1, 0, 1, 0, 0, 0, 0, 0, 0xFFFF01FF, 0⟩,
  ⟨0xC0080, 4, 0xA, 0, 1, 0, 0, 0, 0, 0, 0xFFFFFFFF, 0⟩,
  ⟨0xC00C0, 4, 0x10, 0, 1, 0, 0, 0, 0, 0, 0xFFFFFFFF, 0⟩,
  ⟨0xC0100, 0, 1, 0, 1, 0, 0x73000, 0, 0, 3, 0, 0⟩,
  ⟨0xC0104, 0, 1, 0, 1, 0, 0xFFFFFFFF, 0, 0, 0, 0, 0⟩,
  ⟨0xC0108, 0, 1, 0, 1, 0, 0xFFFFFFFF, 0, 0, 0, 0, 1⟩,
  ⟨0xC010C, 0, 1, 0, 1, 0, 0xFFFFFFFF, 0, 0, 0, 0, 2⟩,
  ⟨0xC0110, 0, 1, 0, 1, 0, 0, 0, 0, 0, 0xFFFFFFFF, 1⟩,
  ⟨0xC0114, 0, 1, 0, 1, 0, 0, 0, 0, 0, 0xFFFFFFFF, 2⟩,
  ⟨0xC0118, 0, 1, 0, 1, 0, 0, 0, 0, 0, 0xFFFFF037, 0⟩,
  ⟨0xC011C, 0, 1, 0, 1, 0, 0x7FF, 0, 0, 0, 0, 0⟩,
  ⟨0xC0800, 0x20, 0x10, 0, 1, 0x8040, 0xFFFFFFC0, 0, 0, 3, 0, 0⟩,
  ⟨0xC0804, 0x20, 0x10, 0, 1, 0, 0xFFFFFFFF, 0, 0, 0, 0, 0⟩,
  ⟨0xC0808, 0x20, 0x10, 0, 1, 0xFA0001, 0xFFFF03FF, 0, 0, 0, 0, 0⟩,
  ⟨0xC080C, 0x20, 0x10, 0, 1, 0xFF000000, 0, 0, 0, 0, 0xFF0F0F07, 0⟩,
  ⟨0xC0810, 0x20, 0x10, 0, 1, 0, 0, 0, 0, 0, 0xFFFFFFFF, 0⟩,
  ⟨0xC0814, 0x20, 0x10, 0, 1, 0, 0, 0, 0, 0, 0xFFFFFFFF, 0⟩,
  ⟨0xC0818, 0x20, 0x10, 0, 1, 0, 0, 0, 0, 0, 0xFFFF, 0⟩,
  ⟨0xC1000, 0x40, 0x60, 0, 1, 0, 0, 0, 0, 7, 0, 0⟩,
  ⟨0xC1004, 0x40, 0x60, 0, 1, 0, 0xFFF30000, 0, 0, 0, 0, 0⟩,
  ⟨0xC1008, 0x40, 0x60, 0, 1, 0, 0xFFFFFFFF, 0, 0, 0, 0, 0⟩,
  ⟨0xC100C, 0x40, 0x60, 0, 1, 0, 0xFFFFFFFF, 0, 0, 0, 0, 0⟩,
  ⟨0xC1010, 0x40, 0x60, 0, 1, 0, 0x3FFFFF, 0, 0, 0, 0, 0⟩,
  ⟨0xC1014, 0x40, 0x60, 0, 1, 0, 0xFFFFFFFF, 0, 0, 0, 0, 1⟩,
  ⟨0xC1018, 0x40, 0x60, 0, 1, 0, 0xFFFFFFFF, 0, 0, 0, 0, 2⟩,
  ⟨0xC101C, 0x40, 0x60, 0, 1, 0x80008, 0xF0F0F, 0, 0, 0, 0, 0⟩,
  ⟨0xC1020, 0x40, 0x60, 0, 1, 1, 0x1F1F, 0, 0, 0, 0, 0⟩,
  ⟨0xC1024, 0x40, 0x60, 0, 1, 0, 0x1F0001, 0, 0, 0, 0, 0⟩] ++ [
  ⟨0xC1028, 0x40, 0x60, 0, 1, 0, 0, 0, 0, 0, 0x763, 0⟩,
  ⟨0xC102C, 0x40, 0x60, 0, 1, 0, 0, 0, 0, 0, 0xFFFFFFFF, 0⟩]

/-- The registers of the page at 0xD0000. -/
def regPageD : List RegDef := [
  ⟨0xD0000, 0x60, 0x100, 0, 1, 0x4080006, 0xFFFF000F, 0xFFFF000F, 0, 0, 0, 0⟩,
  ⟨0xD0004, 0x60, 0x100, 0, 1, 0x600800, 0xF07F7F00, 0xF07F7F00, 0, 0, 0, 0⟩,
  ⟨0xD0008, 0x60, 0x100, 0, 1, 0, 0xFF001FFF, 0xFF001FFF, 0, 0, 0, 0⟩,
  ⟨0xD000C, 0x60, 0x100, 0, 1, 6, 0x8FFF000F, 0x8FFF000F, 0, 0, 0, 0⟩,
  ⟨0xD0010, 0x60, 0x100, 4, 4, 0, 0xFFFFFFFF, 0xFFFFFFFF, 0, 0, 0, 0⟩,
  ⟨0xD0020, 0x60, 0x100, 4, 4, 0, 0xFFFFFFFF, 0xFFFFFFFF, 0, 0, 0, 0⟩,
  ⟨0xD0030, 0x60, 0x100, 0, 1, 0x138C, 0xFFFFFFFF, 0xFFFFFFFF, 0, 0, 0, 0⟩,
  ⟨0xD0034, 0x60, 0x100, 0, 1, 0x4000138C, 0xFFFFFFFF, 0xFFFFFFFF, 0, 0, 0, 0⟩,
  ⟨0xD0038, 0x60, 0x100, 0, 1, 1, 0xFFFF, 0xFFFF, 0, 0, 0, 0⟩,
  ⟨0xD003C, 0x60, 0x100, 0, 1, 0, 0, 0, 0, 0, 0xDCF3, 0⟩,
  ⟨0xD0040, 0x60, 0x100, 0, 1, 0, 0, 0, 0, 0, 0xFFFFFFFF, 0⟩,
  ⟨0xD0044, 0x60, 0x100, 0, 1, 0, 0, 0, 0, 0, 0xFFFFFFFF, 0⟩,
  ⟨0xD0048, 0x60, 0x100, 0, 1, 0, 0, 0, 0, 0, 0xFFFFFFFF, 0⟩,
  ⟨0xD004C, 0x60, 0x100, 0, 1, 0, 0, 0, 0, 0, 0xFFFFFFFF, 0⟩,
  ⟨0xD0050, 0x60, 0x100, 0, 1, 0, 0, 0, 0, 0, 0xFFFFFFFF, 0⟩,
  ⟨0xD0054, 0x60, 0x100, 0, 1, 0, 0, 0, 0, 0, 0xFFFFFFFF, 0⟩,
  ⟨0xD0058, 0x60, 0x100, 0, 1, 0, 0, 0, 0, 0, 0xFFFFFFFF, 0⟩,
  ⟨0xD005C, 0x60, 0x100, 0, 1, 0, 0, 0, 0, 0, 0xFFFFFFFF, 0⟩,
  ⟨0xD6000, 0x60, 0x100, 0, 1, 6, 0x3F, 0x3F, 0, 0, 0, 0⟩,
  ⟨0xD6004, 0x60, 0x100, 0, 1, 0x600830, 0xF07F7FFF, 0xF07F7FFF, 0, 0, 0, 0⟩,
  ⟨0xD6008, 0x60, 0x100, 0, 1, 0, 0xC0001FFF, 0xC0001FFF, 0, 0, 0, 0⟩,
  ⟨0xD600C, 0x60, 0x100, 0, 1, 0x40880000, 0xFFFFFFFF, 0xFFFFFFFF, 0, 0, 0, 0⟩,
  ⟨0xD6010, 0x60, 0x100, 4, 4, 0, 0xFFFFFFFF, 0xFFFFFFFF, 0, 0, 0, 0⟩,
  ⟨0xD6020, 0x60, 0x100, 4, 4, 0, 0xFFFFFFFF, 0xFFFFFFFF, 0, 0, 0, 0⟩,
  ⟨0xD6030, 0x60, 0x100, 0, 1, 0x138C, 0xFFFFFFFF, 0xFFFFFFFF, 0, 0, 0, 0⟩,
  ⟨0xD6034, 0x60, 0x100, 0, 1, 0x4000138C, 0xFFFFFFFF, 0xFFFFFFFF, 0, 0, 0, 0⟩,
  ⟨0xD6038, 0x60, 0x100, 0, 1, 0, 0xFFFFFFFF, 0xFFFFFFFF, 0, 0, 0, 0⟩,
  ⟨0xD603C, 0x60, 0x100, 0, 1, 0, 0x3FF, 0x3FF, 0, 0, 0, 0⟩,
  ⟨0xD6040, 0x60, 0x100, 0, 1, 0, 0, 0, 0, 0, 7, 0⟩,
  ⟨0xD6044, 0x60, 0x100, 0, 1, 0, 0, 0, 0, 0, 0xFFFFFFFF, 0⟩,
  ⟨0xD6048, 0x60, 0x100, 0, 1, 0, 0, 0, 0, 0, 0xFFFF, 0⟩,
  ⟨0xD604C, 0x60, 0x100, 0, 1, 0, 0, 0, 0, 0, 0xFFFFFFFF, 0⟩,
  ⟨0xDC000, 0, 1, 0, 1, 0x700, 0xF01, 0xF01, 0, 0, 0, 0⟩,
  ⟨0xDC010, 4, 8, 0, 1, 0, 0, 0, 0xFFFFFFFF, 0, 0, 0⟩,
  ⟨0xDC030, 4, 8, 0, 1, 0, 0, 0, 0xFFFFFFFF, 0, 0, 0⟩,
  ⟨0xDC050, 4, 4, 0, 1, 0, 0, 0, 0xFFFFFFFF, 0, 0, 0⟩,
  ⟨0xDC080, 0x20, 4, 0, 1, 0, 0xFFFFFFFF, 0xFFFFFFFF, 0, 0, 0, 0⟩,
  ⟨0xDC084, 0x20, 4, 4, 4, 0, 0xFFFFFFFF, 0xFFFFFFFF, 0, 0, 0, 0⟩,
  ⟨0xDD000, 8, 0x80, 0, 1, 0, 0xFFFFFFFF, 0xFFFFFFFF, 0, 0, 0, 0⟩,
  ⟨0xDD004, 8, 0x80, 0, 1, 0, 0, 0, 0, 0, 0xFFFFFF06, 0⟩] ++ [
  ⟨0xDE000, 4, 0x100, 0, 1, 0, 0xC3FFFFFF, 0xC3FFFFFF, 0, 0, 0x30000000, 0⟩]

/-- The registers of the page at 0xE0000. -/
def regPageE : List RegDef := [
  ⟨0xE0000, 0, 1, 0, 1, 0, 0xF001FFFF, 0, 0, 0, 0, 0⟩,
  ⟨0xE0004, 0, 1, 0, 1, 0, 0, 0, 0, 0xF, 0, 0⟩,
  ⟨0xE0008, 0, 1, 0, 1, 0, 0, 0, 0, 0, 0xF, 0⟩,
  ⟨0xE0010, 4, 4, 0, 1, 0, 0xFFFFFFFF, 0, 0, 0, 0, 0⟩,
  ⟨0xE0020, 0, 1, 0, 1, 0, 0, 0, 0, 0xFFFFFFFF, 0, 0⟩,
  ⟨0xE0024, 0, 1, 0, 1, 0, 0, 0, 0, 0, 0xFFE00007, 0⟩,
  ⟨0xE0028, 0, 1, 0, 1, 0, 0, 0, 0, 0, 0xFFFF1FFF, 0⟩,
  ⟨0xE0030, 0, 1, 0, 1, 0, 0, 0, 0, 0, 0x3FFFF, 0⟩,
  ⟨0xE0034, 0, 1, 0, 1, 0, 0, 0, 0, 0, 0x3FFFF, 0⟩,
  ⟨0xE0038, 0, 1, 0, 1, 0, 0, 0, 0, 0, 0xFFFFFFFF, 0⟩,
  ⟨0xE0040, 0, 1, 0, 1, 0x2000064, 0xFF0103FF, 0xFF0103FF, 0, 0, 0, 0⟩,
  ⟨0xE0044, 0, 1, 0, 1, 0, 0, 0, 0, 0, 0xFFFF1FFF, 0⟩]

/-- The registers of the page at 0xF0000. -/
def regPageF : List RegDef := [
  ⟨0xF0000, 0, 1, 0, 1, 0, 0, 0, 0, 1, 0, 0⟩,
  ⟨0xF0004, 0, 1, 0, 1, 0x2000, 0x3FFF, 0x3FFF, 0, 0, 0, 0⟩,
  ⟨0xF0008, 0, 1, 0, 1, 0, 0, 0, 1, 0, 0, 0⟩,
  ⟨0xF0010, 0, 1, 0, 1, 0, 0, 0, 0, 0, 0xFFFFFFFF, 0⟩,
  ⟨0xF0014, 0, 1, 0, 1, 0, 0, 0, 0, 0, 0x1FFFFF, 0⟩,
  ⟨0xF0018, 0, 1, 0, 1, 0, 0, 0, 0, 0, 0x1FFFFF, 0⟩,
  ⟨0xF001C, 0, 1, 0, 1, 0, 0, 0, 0, 0, 0xFFFFFFFF, 0⟩,
  ⟨0xF0020, 0, 1, 0, 1, 0, 0, 0, 3, 0, 0xFFFF0000, 0⟩,
  ⟨0xF0024, 0, 1, 0, 1, 0x40, 0xFFFF, 0xFFFF, 0, 0, 0, 0⟩,
  ⟨0xF0028, 0, 1, 0, 1, 0, 0, 0, 0, 0, 0xFFFFFFFF, 0⟩]

/-- The registers of the page at 0x100000. -/
def regPage10 : List RegDef := [
  ⟨0x100000, 0x400, 0x100, 0, 1, 0, 0x100, 0, 0, 1, 0, 0⟩,
  ⟨0x100004, 0x400, 0x100, 0, 1, 0, 0, 0, 0, 0, 0x1FFF1F37, 0⟩,
  ⟨0x100008, 0x400, 0x100, 0, 1, 0, 0, 0, 0, 0, 0xFFFFFFFF, 0⟩,
  ⟨0x10000C, 0x400, 0x100, 0, 1, 0, 0, 0, 0, 0, 0xFFFFFFFF, 0⟩,
  ⟨0x100010, 0x400, 0x100, 0, 1, 0x7FFFFFFF, 0, 0, 0, 0, 0xFFFFFFFF, 0⟩,
  ⟨0x100014, 0x400, 0x100, 0, 1, 0, 0, 0, 0, 0, 0xFFFFFFFF, 0⟩,
  ⟨0x100018, 0x400, 0x100, 0, 1, 0xF, 0xFF0F, 0, 0, 0xC0000000, 0xFF0000, 0⟩,
  ⟨0x10001C, 0x400, 0x100, 0, 1, 0, 0, 0, 0, 0, 0xFFFFFFFF, 0⟩,
  ⟨0x100020, 0x400, 0x100, 0, 1, 0, 0, 0, 0, 0, 0xFFFFFFFF, 0⟩,
  ⟨0x100024, 0x400, 0x100, 0, 1, 0, 0, 0, 0, 0xFFFFFFFF, 0, 0⟩,
  ⟨0x100028, 0x400, 0x100, 0, 1, 0, 0, 0, 0, 0, 0xFFFFFFFF, 0⟩,
  ⟨0x10002C, 0x400, 0x100, 0, 1, 0x20000000, 0xFF000000, 0, 0, 0, 0xFFFC0E, 0⟩]

/-- The registers of the page at 0x140000. -/
def regPage14 : List RegDef := [
  ⟨0x140000, 0, 1, 0, 1, 0, 0x31, 0x30, 0, 2, 0, 0⟩,
  ⟨0x140004, 0, 1, 0, 1, 0, 0, 0, 2, 0, 1, 0⟩,
  ⟨0x140010, 0, 1, 0, 1, 0, 0xFFFFFFFF, 0xFFFFFFFF, 0, 0, 0, 1⟩,
  ⟨0x140014, 0, 1, 0, 1, 0, 0xFFFFFFFF, 0xFFFFFFFF, 0, 0, 0, 2⟩,
  ⟨0x140018, 0, 1, 0, 1, 0xA, 0x1F, 0x1F, 0, 0, 0, 0⟩,
  ⟨0x14001C, 0, 1, 0, 1, 0x800, 0x7FFF, 0x7FFF, 0, 0, 0, 0⟩,
  ⟨0x140020, 0, 1, 0, 1, 0, 0xFFFF, 0xFFFF, 0, 0, 0, 0⟩,
  ⟨0x140024, 0, 1, 0, 1, 0, 0, 0, 0, 0, 0xFFFF, 0⟩,
  ⟨0x140028, 0, 1, 0, 1, 0, 0, 0, 0, 0, 0x1FFFF, 0⟩,
  ⟨0x14002C, 0, 1, 0, 1, 0x40, 0x1FFFF, 0x1FFFF, 0, 0, 0, 0⟩,
  ⟨0x141000, 0x100, 4, 0, 1, 0x100000, 0xFFFFFF01, 0xFFFFFF00, 0, 0, 0, 0⟩,
  ⟨0x141004, 0x100, 4, 0, 1, 0, 0xFFFFFFFF, 0xFFFFFFFF, 0, 0, 0, 1⟩,
  ⟨0x141008, 0x100, 4, 0, 1, 0, 0xFFFFFFFF, 0xFFFFFFFF, 0, 0, 0, 2⟩,
  ⟨0x14100C, 0x100, 4, 0, 1, 0xA, 0x1F, 0x1F, 0, 0, 0, 0⟩,
  ⟨0x141010, 0x100, 4, 0, 1, 0, 0xFFFF, 0xFFFF, 0, 0, 0, 0⟩,
  ⟨0x141014, 0x100, 4, 0, 1, 0, 0, 0, 0, 0, 0xFFFF, 0⟩,
  ⟨0x141018, 0x100, 4, 0, 1, 0, 0, 0, 0, 0, 0xFFFFFFFF, 0⟩,
  ⟨0x14101C, 0x100, 4, 0, 1, 0, 0, 0, 0, 0, 0xFFFFFFFF, 0⟩,
  ⟨0x141020, 0x100, 4, 0, 1, 0, 0, 0, 0, 0, 0xFFFF, 0⟩,
  ⟨0x142000, 0x100, 4, 0, 1, 0, 1, 0, 0, 0, 0, 0⟩,
  ⟨0x142004, 0x100, 4, 0, 1, 0, 0xFFFFFFFF, 0xFFFFFFFF, 0, 0, 0, 1⟩,
  ⟨0x142008, 0x100, 4, 0, 1, 0, 0xFFFFFFFF, 0xFFFFFFFF, 0, 0, 0, 2⟩,
  ⟨0x14200C, 0x100, 4, 0, 1, 0xA, 0x1F, 0x1F, 0, 0, 0, 0⟩,
  ⟨0x142010, 0x100, 4, 0, 1, 0, 0xFFFF, 0xFFFF, 0, 0, 0, 0⟩,
  ⟨0x142014, 0x100, 4, 0, 1, 0, 0, 0, 0, 0, 0xFFFF, 0⟩,
  ⟨0x142018, 0x100, 4, 0, 1, 0, 0, 0, 0, 0, 0xFFFFFFFF, 0⟩,
  ⟨0x14201C, 0x100, 4, 0, 1, 0, 0, 0, 0, 0, 0xFFFFFFFF, 0⟩]

/-- The registers of the page at 0x150000. -/
def regPage15 : List RegDef := [
  ⟨0x150000, 0, 1, 0, 1, 0x3C1001, 0xFFFF03, 0xFFFF03, 0, 0, 0, 0⟩,
  ⟨0x150004, 0, 1, 0, 1, 0, 0, 0, 0, 7, 0, 0⟩,
  ⟨0x150008, 0, 1, 0, 1, 1, 0, 0, 0, 0, 0xFF07, 0⟩,
  ⟨0x15000C, 0, 1, 0, 1, 0, 0, 0, 0, 0, 0xFFFFFFFF, 0⟩,
  ⟨0x150010, 0, 1, 0, 1, 0, 0, 0, 0, 0, 0xFFFFFFFF, 0⟩,
  ⟨0x150014, 0, 1, 0, 1, 0, 0, 0, 0, 0, 0xFF06FF, 0⟩,
  ⟨0x150018, 0, 1, 0, 1, 0, 0, 0, 0, 0, 0xFFFF, 0⟩,
  ⟨0x15001C, 0, 1, 0, 1, 0, 0xFFFFFFFF, 0xFFFFFFFF, 0, 0, 0, 0⟩,
  ⟨0x150020, 0, 1, 0, 1, 4, 0xFFFFFFFF, 0xFFFFFFFF, 0, 0, 0, 0⟩,
  ⟨0x150024, 0, 1, 0, 1, 0, 0, 0, 0, 0, 0xFFFFFFFF, 0⟩,
  ⟨0x150028, 0, 1, 0, 1, 0, 0, 0, 0, 0, 0xFFFFFFFF, 0⟩,
  ⟨0x15002C, 0, 1, 0, 1, 0, 0, 0, 0, 0, 0xFFFFFFFF, 0⟩,
  ⟨0x150030, 0, 1, 0, 1, 0, 0, 0, 0, 0, 0xFFFFFFFF, 0⟩,
  ⟨0x150034, 0, 1, 0, 1, 0, 0, 0, 0, 0, 0xFFFFFFFF, 0⟩,
  ⟨0x150038, 0, 1, 0, 1, 0, 0, 0, 0, 0, 0xFFFFFFFF, 0⟩,
  ⟨0x15003C, 0, 1, 0, 1, 0, 0, 0, 0, 0, 0xFFFFFFFF, 0⟩,
  ⟨0x150040, 0, 1, 0, 1, 0, 0, 0, 0, 0, 0xFFFFFFFF, 0⟩,
  ⟨0x150044, 0, 1, 0, 1, 0, 0, 0, 0, 0, 0xFFFFFFFF, 0⟩,
  ⟨0x150048, 0, 1, 0, 1, 0, 0, 0, 0, 0, 0xFFFFFFFF, 0⟩,
  ⟨0x150050, 4, 8, 0, 1, 0, 0, 0, 0, 0, 0xFFFFFFFF, 0⟩]

/-- The registers of the page at 0x160000. -/
def regPage16 : List RegDef := [
  ⟨0x160000, 0, 1, 0, 1, 0x12, 0x113, 0x113, 0, 0, 0, 0⟩,
  ⟨0x160004, 0, 1, 0, 1, 0, 0, 0, 0, 0, 0x3F7, 0⟩,
  ⟨0x160008, 0, 1, 0, 1, 0, 0, 0, 0, 0, 0xFFFFFFFF, 0⟩,
  ⟨0x16000C, 0, 1, 0, 1, 0, 0, 0, 0, 0, 0xFFFF, 0⟩,
  ⟨0x160010, 0, 1, 0, 1, 0, 0, 0, 0, 0, 0xFFFFFFFF, 0⟩,
  ⟨0x160014, 0, 1, 0, 1, 0, 0, 0, 0, 0, 0xFFFFFFFF, 0⟩,
  ⟨0x160018, 0, 1, 0, 1, 0, 0xFFFFFFFF, 0xFFFFFFFF, 0, 0, 0, 0⟩,
  ⟨0x16001C, 0, 1, 0, 1, 0, 0xFFFFFFFF, 0xFFFFFFFF, 0, 0, 0, 0⟩,
  ⟨0x160020, 0, 1, 0, 1, 8, 0xFFFFFFFF, 0xFFFFFFFF, 0, 0, 0, 0⟩,
  ⟨0x160024, 0, 1, 0, 1, 0, 0, 0, 0, 0, 0xFFFFFFFF, 0⟩,
  ⟨0x160028, 0, 1, 0, 1, 0, 0, 0, 0, 0, 0xFFFFFFFF, 0⟩,
  ⟨0x16002C, 0, 1, 0, 1, 0, 0, 0, 0, 0, 0xFFFFFFFF, 0⟩,
  ⟨0x160040, 0, 1, 0, 1, 7, 7, 7, 0, 0, 0, 0⟩,
  ⟨0x160044, 0, 1, 0, 1, 0, 0, 0, 0, 0, 0x7FF07FF, 0⟩,
  ⟨0x160048, 0, 1, 0, 1, 0, 0, 0, 0, 0, 0xFFFFFFFF, 0⟩,
  ⟨0x16004C, 0, 1, 0, 1, 0, 0x3FF, 0, 0, 0, 0, 0⟩,
  ⟨0x160050, 4, 6, 0, 1, 0, 0, 0, 0, 0, 0xFFFFFFFF, 0⟩]

/-- The registers of the page at 0x170000. -/
def regPage17 : List RegDef := [
  ⟨0x178000, 0, 1, 0, 1, 0x500A0F60, 0xFFFFFFFF, 0xFFFFFFFF, 0, 0, 0, 0⟩,
  ⟨0x178004, 0, 1, 0, 1, 0xA1960, 0xFFFFFF60, 0xFFFFFF60, 0, 0, 0, 0⟩,
  ⟨0x178008, 0, 1, 0, 1, 0, 0, 0, 0xA, 0, 0xFFFFFF05, 0⟩,
  ⟨0x17800C, 0, 1, 0, 1, 0x400, 0xFFFF, 0xFFFF, 0, 0, 0, 0⟩,
  ⟨0x178010, 0, 1, 0, 1, 0xFFFF0000, 0, 0, 0, 0, 0xFFFFFFFF, 0⟩,
  ⟨0x178014, 0, 1, 0, 1, 0, 0, 0, 0, 0, 0xFFFFFFFF, 1⟩,
  ⟨0x178018, 0, 1, 0, 1, 0, 0, 0, 0, 0, 0xFFFFFFFF, 2⟩,
  ⟨0x17801C, 0, 1, 0, 1, 0, 0, 0, 0, 0, 0xFFFFFFFF, 0⟩,
  ⟨0x178020, 0, 1, 0, 1, 0xFF000000, 0, 0, 0, 0, 0xFF00FFFF, 0⟩,
  ⟨0x178040, 4, 8, 0, 1, 0, 0, 0, 0xFFFFFFFF, 0, 0, 0⟩,
  ⟨0x178060, 4, 8, 0, 1, 0, 0, 0, 0xFFFFFFFF, 0, 0, 0⟩,
  ⟨0x170000, 0, 1, 0, 1, 0x4E201400, 0xFFFFFF01, 0xFFFFFF01, 0, 0, 0, 0⟩,
  ⟨0x170004, 0, 1, 0, 1, 0x10, 0x3F, 0x3F, 0, 0, 0, 0⟩,
  ⟨0x170008, 0, 1, 0, 1, 0x1C000010, 0, 0, 0, 0, 0x3F3F003F, 0⟩,
  ⟨0x17000C, 0, 1, 0, 1, 0, 0, 0, 0, 0, 0xFFFF, 0⟩,
  ⟨0x170010, 0, 1, 0, 1, 0, 0, 0, 0, 0, 0xFFFFFFFF, 0⟩,
  ⟨0x170014, 0, 1, 0, 1, 0xFF000000, 0, 0, 0, 0, 0xFFFF00FF, 0⟩,
  ⟨0x170018, 0, 1, 0, 1, 0, 0, 0, 0, 0, 0x1FFFFF, 0⟩,
  ⟨0x17001C, 0, 1, 0, 1, 0x50064, 0xFF00FF, 0xFF00FF, 0, 0, 0, 0⟩,
  ⟨0x170020, 0, 1, 0, 1, 0, 0, 0, 2, 0, 1, 0⟩,
  ⟨0x170024, 0, 1, 0, 1, 0, 0, 0, 0, 0, 0xFFFFFFFF, 0⟩,
  ⟨0x170028, 0, 1, 0, 1, 0, 0, 0, 0, 0, 0xFFFF, 0⟩,
  ⟨0x170040, 4, 0x14, 0, 1, 0, 0, 0, 0, 0, 0xFFFFFFFF, 0⟩,
  ⟨0x1700C0, 4, 0x10, 0, 1, 0, 0, 0, 0, 0, 0xFFFFFFFF, 0⟩]

/-- The registers of the page at 0x180000. -/
def regPage18 : List RegDef := [
  ⟨0x180000, 0x40, 0x30, 0, 1, 0x8000000, 0xFFFF0701, 0xFFFF0701, 0, 0, 0xF8, 0⟩,
  ⟨0x180004, 0x40, 0x30, 0, 1, 0, 0x1FFF, 0x1FFF, 0, 0, 0, 0⟩,
  ⟨0x180008, 0x40, 0x30, 0, 1, 0, 0, 0, 0, 0, 0xFFFFFF03, 0⟩,
  ⟨0x18000C, 0x40, 0x30, 0, 1, 0, 0, 0, 0, 0, 0xFFFFFFFF, 0⟩,
  ⟨0x180010, 0x40, 0x30, 0, 1, 0, 0, 0, 0, 0, 0xFFFFFFFF, 0⟩,
  ⟨0x180014, 0x40, 0x30, 0, 1, 0, 0, 0, 0, 0, 0xFFFFFFFF, 0⟩,
  ⟨0x180018, 0x40, 0x30, 0, 1, 0, 0, 0, 0, 0, 0xFFFFFFFF, 0⟩,
  ⟨0x180020, 0x40, 0x30, 4, 6, 0, 0xFFFFFFFF, 0xFFFFFFFF, 0, 0, 0, 0⟩,
  ⟨0x181000, 4, 6, 0, 1, 0, 0x1D, 0x1D, 0, 0, 0x120, 0⟩,
  ⟨0x181020, 0, 1, 0, 1, 0, 0, 0, 0xFFFFFFFF, 0, 0, 1⟩,
  ⟨0x181024, 0, 1, 0, 1, 0, 0, 0, 0xFFFF, 0, 0, 2⟩]

/-- The registers of the page at 0x190000. -/
def regPage19 : List RegDef := [
  ⟨0x190000, 0, 1, 0, 1, 0x100, 0x101, 0x101, 0, 0, 0, 0⟩,
  ⟨0x190004, 0, 1, 0, 1, 0x1C01, 0, 0, 0, 0, 0xFF1D07, 0⟩,
  ⟨0x190008, 0, 1, 0, 1, 0, 0xF30003, 0xF30003, 0, 0, 0, 0⟩,
  ⟨0x19000C, 0, 1, 0, 1, 0, 0, 0, 0, 0, 0xFFFFFFFF, 0⟩,
  ⟨0x190010, 0, 1, 0, 1, 0, 0, 0, 0, 0, 0xFFFFFFFF, 0⟩,
  ⟨0x190020, 4, 8, 0, 1, 0, 0xFFFFFFFF, 0xFFFFFFFF, 0, 0, 0, 0⟩,
  ⟨0x190040, 4, 7, 0, 1, 0, 0x3FFF, 0x3FFF, 0, 0, 0, 0⟩,
  ⟨0x19005C, 0, 1, 0, 1, 0, 0, 0, 0, 0xF, 0, 0⟩,
  ⟨0x190060, 0, 1, 0, 1, 0x20000, 0x30000, 0x30000, 0, 0, 0, 0⟩,
  ⟨0x190064, 0, 1, 0, 1, 0x800001, 0xFFFF0001, 0xFFFF0001, 0, 0, 0, 0⟩,
  ⟨0x190070, 4, 5, 0, 1, 0x350A0, 0xF0FFFFF, 0xF0FFFFF, 0, 0, 0, 0⟩,
  ⟨0x190084, 0, 1, 0, 1, 0, 0xF00FF01, 0xF00FF01, 0, 0, 0, 0⟩,
  ⟨0x190090, 0, 1, 0, 1, 0, 0, 0, 0, 3, 0, 0⟩,
  ⟨0x190094, 0, 1, 0, 1, 0, 0, 0, 0, 0, 0xFFFF0F1F, 0⟩,
  ⟨0x190098, 0, 1, 0, 1, 0, 0, 0, 0, 0, 0xFFFF00, 0⟩,
  ⟨0x1900A0, 4, 5, 0, 1, 0, 0, 0, 0, 0, 0xFFFF00, 0⟩,
  ⟨0x1900C0, 4, 5, 0, 1, 0, 0, 0, 0, 0, 0xFFFF00, 0⟩,
  ⟨0x1900E0, 4, 5, 0, 1, 0, 0, 0, 0, 0, 0xFFFFFF00, 0⟩,
  ⟨0x190100, 4, 5, 0, 1, 0, 0, 0, 0, 0, 0xFFFFFF00, 0⟩,
  ⟨0x190120, 4, 5, 0, 1, 0, 0, 0, 0, 0, 0xFFFF00, 0⟩,
  ⟨0x190140, 4, 5, 0, 1, 0, 0, 0, 0, 0, 0xFFFFFFFF, 0⟩,
  ⟨0x190160, 4, 5, 0, 1, 0, 0, 0, 0, 0, 0xFFFFFFFF, 0⟩,
  ⟨0x190180, 0, 1, 0, 1, 1, 1, 1, 0, 0, 0, 0⟩,
  ⟨0x190184, 0, 1, 0, 1, 0, 0, 0, 3, 0, 0, 0⟩,
  ⟨0x190188, 0, 1, 0, 1, 0, 0, 0, 0, 0, 0xFFFFFFFF, 0⟩,
  ⟨0x19018C, 0, 1, 0, 1, 0, 0, 0, 0, 0, 0xFFFFFFFF, 0⟩,
  ⟨0x190190, 0, 1, 0, 1, 0, 0, 0, 0, 0, 0xFFFFFFFF, 1⟩,
  ⟨0x190194, 0, 1, 0, 1, 0, 0, 0, 0, 0, 1, 2⟩,
  ⟨0x190198, 0, 1, 0, 1, 0, 0, 0, 0, 0, 0x1FF, 0⟩,
  ⟨0x19019C, 0, 1, 0, 1, 0, 0, 0, 0, 3, 0, 0⟩,
  ⟨0x1901A0, 0, 1, 0, 1, 0xE100001, 0xFFFF0001, 0xFFFF0001, 0, 0, 0, 0⟩,
  ⟨0x1901A4, 0, 1, 0, 1, 0, 0, 0, 0, 0, 0xFFFFFFFF, 0⟩,
  ⟨0x1901B0, 0, 1, 0, 1, 0, 0, 0, 0, 0, 0xFFFFFFFF, 0⟩,
  ⟨0x1901B4, 0, 1, 0, 1, 0, 0, 0, 0, 0, 0x3FF, 0⟩,
  ⟨0x1901B8, 0, 1, 0, 1, 0, 0, 0, 0, 0, 0xFFFFFFFF, 0⟩,
  ⟨0x1901BC, 0, 1, 0, 1, 0, 0, 0, 0, 0, 0x103, 0⟩,
  ⟨0x1901C0, 4, 3, 0, 1, 0, 0xFFFFFFFF, 0xFFFFFFFF, 0, 0, 0, 0⟩]

/-- The registers of the page at 0x1A0000. -/
def regPage1A : List RegDef := [
  ⟨0x1A0000, 0, 1, 0, 1, 0, 0, 0, 0, 1, 0, 0⟩,
  ⟨0x1A0004, 0, 1, 0, 1, 0, 0, 0, 0, 0, 0xFFFF, 0⟩,
  ⟨0x1A0008, 0, 1, 0, 1, 0, 0, 0, 0, 0, 0xFFFFFFFF, 0⟩,
  ⟨0x1A000C, 0, 1, 0, 1, 0, 0, 0, 0, 0, 0x80F13001, 0⟩]

/-- The registers of the page that holds offset `a`. -/
def regPage (a : Nat) : List RegDef :=
  match a / 0x10000 with
  | 0 => regPage0
  | 1 => regPage1
  | 2 => regPage2
  | 3 => regPage3
  | 4 => regPage4
  | 5 => regPage5
  | 6 => regPage6
  | 7 => regPage7
  | 8 => regPage8
  | 9 => regPage9
  | 10 => regPageA
  | 11 => regPageB
  | 12 => regPageC
  | 13 => regPageD
  | 14 => regPageE
  | 15 => regPageF
  | 16 => regPage10
  | 20 => regPage14
  | 21 => regPage15
  | 22 => regPage16
  | 23 => regPage17
  | 24 => regPage18
  | 25 => regPage19
  | 26 => regPage1A
  | 17 => regPage10 | 18 => regPage10 | 19 => regPage10
  | _ => []

/-- The table row of the register at offset `a`; `none` for a reserved offset (R589). -/
def regDef (a : Nat) : Option RegDef := (regPage a).find? (·.covers a)

end Sys2Proof.Machine
end

