-- ==== Sys2Proof/Machine/SMap.lean ====
section
/-!
DEFINITION. Sparse maps from natural numbers, in one canonical form: keys strictly rising and no entry equal to the
default of its key.  Every array, table and memory of the part is held in one.
-/

namespace Sys2Proof.Machine

/-- A sparse map: pairs of a key and a value, keys strictly rising. -/
abbrev SMap (α : Type) := List (Nat × α)

namespace SMap

variable {α : Type}

/-- The value at key `k`, `d` when the map does not list it. -/
def get (d : α) : SMap α → Nat → α
  | [], _ => d
  | (a, x) :: m, k => if k = a then x else get d m k

/-- Insert an entry before the first larger key. -/
def ins (k : Nat) (v : α) : SMap α → SMap α
  | [] => [(k, v)]
  | (a, x) :: m => if k < a then (k, v) :: (a, x) :: m else (a, x) :: ins k v m

/-- The map without key `k`. -/
def del (m : SMap α) (k : Nat) : SMap α := m.filter fun e => e.1 != k

/-- Store `v` at key `k`, whose default is `d`: an entry equal to the default is removed. -/
def set [DecidableEq α] (d : α) (m : SMap α) (k : Nat) (v : α) : SMap α :=
  if v = d then del m k else ins k v (del m k)

/-- Store a run of values at consecutive keys from `k`, all with default `d`. -/
def setRun [DecidableEq α] (d : α) : SMap α → Nat → List α → SMap α
  | m, _, [] => m
  | m, k, v :: vs => setRun d (set d m k v) (k + 1) vs

/-- The values at `n` consecutive keys from `k`. -/
def getRun (d : α) (m : SMap α) (k : Nat) : Nat → List α
  | 0 => []
  | n + 1 => get d m k :: getRun d m (k + 1) n

/-- The values at `n` keys from `k` of a canonical map whose first key is at least `k`, in one pass. -/
def expand (d : α) : SMap α → Nat → Nat → List α
  | _, _, 0 => []
  | [], k, n + 1 => d :: expand d [] (k + 1) n
  | (a, x) :: m, k, n + 1 =>
    if a = k then x :: expand d m (k + 1) n else d :: expand d ((a, x) :: m) (k + 1) n

/-- The values at `n` keys from `k` of a canonical map, in one pass. -/
def slurp (d : α) (m : SMap α) (k n : Nat) : List α := expand d (m.dropWhile (·.1 < k)) k n

/-- The map of a list from key `k`. -/
def ofList [DecidableEq α] (d : α) : Nat → List α → SMap α
  | _, [] => []
  | k, x :: xs => if x = d then ofList d (k + 1) xs else (k, x) :: ofList d (k + 1) xs

/-- The map without the keys of which `p` holds. -/
def drop (p : Nat → Bool) (m : SMap α) : SMap α := m.filter fun e => !p e.1

/-- The canonical form: every key is at least `lo`, keys rise strictly, no value is its key's default `f`. -/
def wfFrom [DecidableEq α] (f : Nat → α) : Nat → SMap α → Bool
  | _, [] => true
  | lo, (a, x) :: m => decide (lo ≤ a) && decide (x ≠ f a) && wfFrom f (a + 1) m

/-- The canonical form of a map whose default at key `k` is `f k`. -/
def wf [DecidableEq α] (f : Nat → α) (m : SMap α) : Bool := wfFrom f 0 m

end SMap

end Sys2Proof.Machine
end

