-- ==== Sys2Proof/Machine/State.lean ====
section
/-!
DEFINITION. The state of the part as plain data: every register by its offset, every FIFO, buffer, table, counter, mode
and pin the spec gives it, the queue of waiting commands, and the state right after reset.
-/

namespace Sys2Proof.Machine

/-- What the part puts on its ports: the model's own record of its outputs (log entry 4). -/
inductive Output where
  /-- A PCIe memory write of the device (DMA, R278–R283). -/
  | pcieWrite (addr : Nat) (data : List Byte)
  /-- An MSI-X message of vector `v` (R541). -/
  | msix (v : Nat)
  /-- The value a host read returned on a port (R586, R588). -/
  | hostRead (p : Port) (addr : Nat) (value : Word)
  /-- Octets on SPI_MISO (R583). -/
  | spiMiso (data : List Byte)
  /-- A Unsupported Request completion (R579). -/
  | unsupported
  /-- A frame sent by line port `port` (R274). -/
  | lineFrame (port : Nat) (frame : List Byte)
  /-- The base page that a port's auto-negotiation sends (R262). -/
  | lineAbility (port : Nat) (word : BitVec 16)
  /-- A frame sent on the chain, upstream or downstream (R502). -/
  | chainFrame (up : Bool) (frame : List Byte)
  /-- A message sent on the Ivern link: type and payload (R479). -/
  | ivern (mtype : Nat) (payload : List Byte)
  /-- The STATE messages of one space of a join, whose layout is internal (R484). -/
  | bulkState (space : Nat)
  /-- One arbitration frame's claim driven on CLAIM_IO, and the slots in which this unit drives it low (R471). -/
  | claim (value : Nat) (slots : List Nat)
  /-- One frame launched by a serial-audio output pin (R27): its sample words. -/
  | serialFrame (pin : Nat) (words : List Word)
  /-- a bank's frame sync, one level per bit clock, with the bits of each of its running outputs; `rising` when data launches on the rising edge of
  SA_BCLK (R365) -/
  | tdmFrame (bank : Nat) (rising : Bool) (fs : List Bool) (data : List (Nat × List Bool))
  /-- A mode register write to the memory devices (R605). -/
  | dramMrs (k value : Nat)
  /-- A DDR command of another kind: 0 refresh, 1 ZQ short, 2 self-refresh enter, 3 leave, 4 reissue (R598, R603, R604). -/
  | dramCmd (kind : Nat)
  /-- A QSPI flash read started (R48, R61): the command, whether the address has four octets, the dummy clocks, the octet offset and the
  frequency of QSPI_CLK in Hz. -/
  | qspiRead (cmd : Nat) (addr4 : Bool) (dummy offset hz : Nat)
  /-- A read of two octets of the oscillator's temperature sensor (R113): its address, the register, and 400 kHz on TEMP_SCL. -/
  | tempRead (addr pointer : Nat) (fast : Bool)
  /-- The test port's selected register (R626): the instruction code. -/
  | tap (code : Nat)
deriving DecidableEq, Repr

/-- A FIFO of the flagging class (R550–R553): entries oldest first, the next SEQ, whether the next entry written carries
OVERRUN, the LOST counter, and the entry latched by the last read. -/
structure Fifo where
  entries : List (List Word) := []
  seq : Nat := 0
  ovr : Bool := false
  lost : Nat := 0
  last : List Word := []
deriving DecidableEq, Repr

/-- Fault collector state that is no register (R519–R532): the strobes held for the next tick (source, detail, forced), the live levels
of the last tick, the arming of FAULT_FORCE (the GRID edge count when ARM was written), the minimum
widths running, a HOLD clear that waits, and the NMI pin. -/
structure FaultSt where
  strobes : List (Nat × Nat × Bool) := []
  prevLive : Nat := 0
  armed : Option Nat := none
  errMin : Bool := false
  /-- the GRID edge at which the minimum width of ERR_B ends (R530) -/
  errEnd : Nat := 0
  holdClear : Bool := false
  nmi : Bool := false
  nmiMin : Bool := false
  /-- the GRID edge at which NMI_B has been asserted for 1 µs (R531) -/
  nmiEnd : Nat := 0
  nmiAck : Bool := false
  /-- block resets that wait for their power group: source and detail (R523) -/
  owed : List (Nat × Nat) := []
deriving DecidableEq, Repr

/-- One interrupt target (R541–R547): the posted source, the mark that it was masked in the delivery window and the GRID edge of its
arbitration; the sources in service, top first; and ignored completions. -/
structure TargetSt where
  posted : Option Nat := none
  /-- the vector of the posting's message, none for a posting by pin (R541) -/
  vec : Option Nat := none
  masked : Bool := false
  since : Nat := 0
  stack : List Nat := []
  bad : Nat := 0
deriving DecidableEq, Repr

/-- Interrupt controller state (R537–R548): events the blocks have presented and the controller has not yet taken, the
pending bits of EDGE sources, the targets, the MSI-X vectors' pending bits, table masks and enables, and the FIFOs. -/
structure IntcSt where
  raised : List Nat := []
  /-- entries of this GRID period for the EVT FIFO: TYPE, instance and word 1, in the order of R555 -/
  evtDue : List (Nat × Nat × Word) := []
  pend : SMap Bool := []
  tgt : SMap TargetSt := []
  vecPend : SMap Bool := []
  vecMask : SMap Bool := []
  msixEnable : Bool := false
  funcMask : Bool := false
  evt : Fifo := {}
  pps : SMap Fifo := []
deriving DecidableEq, Repr

/-- One host port's latches (R586, R587): the pair address and the value held. -/
structure PortSt where
  readLatch : Option (Nat × Word) := none
  writeLatch : Option (Nat × Word) := none
deriving DecidableEq, Repr

/-- Host interface state that is no register (R577–R592). -/
structure HostSt where
  pcie : PortSt := {}
  spi : PortSt := {}
  busMaster : Bool := false
  linkUp : Bool := false
  d3hot : Bool := false
  wdogRun : Bool := false
  aerLog : Nat := 0
deriving DecidableEq, Repr

/-- The levels the part drives on its control pins: INT_B, NMI_B and ERR_B asserted (R541, R531, R530), the 100 kHz of BYP_HB running (R512),
GNSS_ANT_EN high (R252), GNSS_SCLK driven (R231), and the code on VID_5..0 (R565). -/
structure PinSt where
  intB : Bool := false
  nmiB : Bool := false
  errB : Bool := false
  bypHb : Bool := false
  antEn : Bool := false
  gnssSclk : Bool := false
  vid : Nat := 16
deriving DecidableEq, Repr

/-- The loader states (R51, STRUCT_STATUS.STATE). -/
inductive LoaderState where
  | empty | waitHost | fetch | check | apply | built | failed
deriving DecidableEq, Repr

/-- One record of a PARAMS section (R40): parameter ID, instance, words. -/
structure Param where
  id : Nat
  inst : Nat
  words : List Nat
deriving DecidableEq, Repr

/-- The loader and the structure it has built (R43–R57). -/
structure LoaderSt where
  state : LoaderState := .empty
  /-- the state the load in progress started from (R51) -/
  origin : LoaderState := .empty
  /-- the load in progress was started by the straps (R51) -/
  strapLoad : Bool := false
  /-- 0 staging window, 1 QSPI primary, 2 QSPI alternate -/
  source : Nat := 0
  /-- the octets of the image being loaded -/
  image : List Byte := []
  /-- GRID edge count at LOAD, or at the reset for a load that the straps start (STRUCT_LAST_US) -/
  startEdges : Nat := 0
  /-- a structure is built -/
  built : Bool := false
  /-- the structure digest (R44) -/
  digest : BitVec 256 := 0
  /-- SHA-256 of the loaded image's SIGNER_KEY (R45) -/
  signer : BitVec 256 := 0
  /-- the loaded image's ROLLBACK (R46) -/
  rollback : Nat := 0
  /-- the owner slot that matched in the last successful check -/
  matched : Nat := 0
  /-- the parameters as built, without defaults (R40) -/
  params : List Param := []
  /-- locked field masks by register offset (R54) -/
  locks : SMap Word := []
  /-- the copies of the applied images in the loader reserve, newest first (R50) -/
  copy : List (List Byte) := []
  /-- regions whose slots carry zero with VALID clear (R56, R57), one bit each -/
  muted : Nat := 0
  /-- regions that stay muted after an uncorrectable error, without external memory (R57) -/
  dead : Nat := 0
deriving DecidableEq, Repr

/-- One-time-programmable memory (R45, R46, R64): owner slots programmed, rollback floor, identity, factory signatures. -/
structure OtpSt where
  owners : List (BitVec 256) := []
  rollback : Nat := 0
  uid : BitVec 64 := 0
  idPub : BitVec 256 := 0
  vidFloor : Nat := 0
  hours : Nat := 0
  fitA : Nat := 0
  fitN : Nat := 0
  /-- the ratio k of each sentinel's rings, 16 fraction bits, 1 where none is held (R568), and the rate gain G_V of each cluster, ppm per code (R571) -/
  ringRatio : List Nat := []
  rateGain : List Nat := []
  jtagMfr : Nat := 0
  /-- the PCIe identifier assigned to Driez (R577) -/
  vendorId : BitVec 16 := 0
deriving DecidableEq, Repr

/-- An offset that waits for the monitor (R100): offset, tick time, uncertainty. -/
structure OfsWait where
  ofs : Int
  time : Nat
  unc : Nat
deriving DecidableEq, Repr

/-- The monitor of one reference beyond its registers (R73–R84). -/
structure RefSt where
  /-- phase samples since the restart, newest first: unwrapped TB_0 time and phase, both in ticks, deliberate motion added -/
  samples : List (Int × Int) := []
  /-- the label of the previous pulse (R79) -/
  lastLabel : Option Nat := none
  /-- a label has been written since the previous pulse (R79) -/
  labelWritten : Bool := false
  /-- consecutive pulses without a written label (R74) -/
  unlabelled : Nat := 0
  /-- the ToD FIFO (R79, R106): octets oldest first, an octet was lost, the last octet read -/
  tod : List Nat := []
  todOver : Bool := false
  todLast : Nat := 0
  /-- the accepted offset that waits (R100) and the uncertainty of the latest accepted one (R130) -/
  waiting : Option OfsWait := none
  accUnc : Nat := 0
  /-- seconds for which |FOFS| has stayed below 80 % of the soft limit (R76) -/
  warnClear : Nat := 0
  /-- whole seconds out of use, none while in use (R77) -/
  outOfUse : Option Nat := none
  /-- the seconds in which it was SELECTED with DRIFT_WARN set, newest first (R132) -/
  warnSecs : List Nat := []
  /-- per other reference, the seconds for which their FOFS agreed (R84) -/
  agree : SMap Nat := []
  /-- it voted at the last boundary (R77) -/
  voter : Bool := false
  /-- the first sample since the restart (R75, R81), in the time of `samples` -/
  first : Option Int := none
  /-- the last activity and the last stamp, in the same time (R74, R184) -/
  lastAct : Option Int := none
  lastStamp : Option Int := none
  /-- monitor events since the channel began to count them (R73), and the event that the monitor has still to take: its TB_0 instant in ticks if
  the channel stamped it, and its number -/
  evts : Nat := 0
  evt : Option (Option Int × Nat) := none
  /-- offsets taken in this second (R100) -/
  takes : Nat := 0
deriving DecidableEq, Repr

/-- The selector beyond its registers (R87–R98). -/
structure SelSt where
  /-- pairs left without a vote (R93) -/
  noVote : List (Nat × Nat) := []
  /-- |REF_PHASE − SEL_PULL| of the last 16 s, in ticks, newest first (R130) -/
  dev : List Nat := []
  /-- no oscillator is in use, until host software selects one (R71, R151) -/
  oscNone : Bool := false
deriving DecidableEq, Repr

/-- A temperature bin (R114): offset, residual, sample count. -/
structure TempBin where
  off : Int := 0
  res : Nat := 0
  n : Nat := 0
deriving DecidableEq, Repr

/-- A daily entry of the ageing ring (R115): mean corrected frequency, mean temperature, locked minutes. -/
structure DayEntry where
  freq : Int := 0
  temp : Int := 0
  mins : Nat := 0
deriving DecidableEq, Repr

/-- The model of one oscillator (R110): ppt, ppt per day, seconds. -/
structure OscModel where
  freq : Int := 0
  ageRate : Int := 0
  aunc : Nat := 10000
  /-- frequency uncertainty; none until the first lock (R126) -/
  func : Option Nat := none
  learn : Nat := 0
  learned : Bool := false
  fitSpan : Nat := 0
  fit : Bool := false
  lastIdx : Option Nat := none
  day0 : Nat := 0
  bins : SMap TempBin := []
  ring : SMap DayEntry := []
  /-- sums over the learning seconds of the day: corrected frequency, temperature, seconds -/
  dayFreq : Int := 0
  dayTemp : Int := 0
  daySecs : Nat := 0
  /-- model frequency history: TB_0 second and frequency, newest first (R118) -/
  hist : List (Nat × Int) := []
deriving DecidableEq, Repr

/-- Holdover engine and ledger beyond their registers (R116–R136). -/
structure HoldSt where
  a : OscModel := {}
  b : OscModel := {}
  /-- consecutive seconds within FTOL (R117), and the second that runs began before the selection -/
  lockSecs : Nat := 0
  selNew : Bool := false
  /-- the second that runs began before the holdover state was entered (R116) -/
  coastNew : Bool := false
  /-- the newest phase sample the discipline has used (R208) -/
  usedX : Option Int := none
  /-- the frequencies TB_0 was steered by, newest first: TB_0 time without deliberate motion from which, and the frequency (R208) -/
  steer : List (Int × Int) := []
  /-- the instant of the last change of oscillator, in the same time: an estimate over samples from before it is not used (R110) -/
  oscSince : Option Int := none
  /-- frozen frequency, TB_0 second and temperature at entry (R118, R119) -/
  fEntry : Int := 0
  entrySec : Nat := 0
  tempEntry : Int := 0
  /-- HOLD_FUNC at holdover entry (R131) -/
  funcEntry : Nat := 0
  /-- the last valid temperature, 1/256 °C (R113), good and bad reads in a row -/
  tempLast : Int := 0
  good : Nat := 0
  bad : Nat := 0
  /-- the automatic step of ACQUIRING has been requested and awaits its edge (R97) -/
  autoPend : Bool := false
  /-- the anchor: its source and its instant in unwrapped TB_0 ticks (R127) -/
  anchorId : Nat := 0x1F
  anchorT : Int := 0
  /-- a time reference was selected at the last update (R130) -/
  wasTime : Bool := false
  /-- REF, PATH, MEAS, PAIR and the two terms of STEER (ticks), frozen or live (R130) -/
  fzRef : Nat := 0xFFFFFFFF
  fzPath : Nat := 0
  fzMeas : Nat := 0
  fzPair : Nat := 0
  fzPull : Nat := 0
  fzDev : Nat := 0
  /-- HOLD since the anchor: ppt × ticks, up to which instant it has grown, and MEAS of absorptions (R131) -/
  holdAcc : Nat := 0
  holdTo : Option Int := none
  absorb : Nat := 0
  /-- the anchor, HOLD and AGE of the last update with no reference selected (R136) -/
  last : Option (Nat × Int × Nat × Nat) := none
  /-- the partner's bound in the last accepted Ivern time transfer (R133) -/
  pairBound : Nat := 0xFFFFFFFF
  /-- the snapshot window (R124), the snapshot an export is building, and whether a restore is in progress -/
  window : SMap Byte := []
  building : List Byte := []
  restoring : Bool := false
deriving DecidableEq, Repr

/-- One synthesiser beyond its registers (R146–R155, R172): bands tried without lock in this acquisition, whether every qualifying band has failed, the
pull its frequency carries and the one it is to carry, the target measured last in ppb from nominal, the loop bandwidth in force, and the instant at which the
band was set, in TB_0 ticks without deliberate motion. -/
structure SynSt where
  tried : List Nat := []
  failed : Bool := false
  pull : Nat := 0
  goal : Nat := 0
  target : Option Int := none
  bw : Nat := 1
  since : Int := 0
deriving DecidableEq, Repr

/-- One output aligner beyond its registers (R161–R167): the offset in force and its remainder in 10^-12 ps, and the stretch still to be absorbed, in ps;
the input edges of INPUT mode, newest first, the stamps the Loupe has delivered and it has still to take, oldest first, and the edges missing in a row; and of a
PPSOUT whether a pulse is running, when it began and when the last one ended (TB_0 ticks without deliberate motion), whether one waits for that, and the
period boundary of the last pulse. -/
structure OutSt where
  off : Int := 0
  frac : Int := 0
  rem : Nat := 0
  edges : List Int := []
  fed : List Int := []
  missing : Nat := 0
  high : Bool := false
  since : Int := 0
  ended : Option Int := none
  late : Bool := false
  pulsed : Option Int := none
deriving DecidableEq, Repr

/-- The synthesisers and the outputs (R143–R174). -/
structure SynthSt where
  syn : SMap SynSt := []
  out : SMap OutSt := []
deriving DecidableEq, Repr

/-- Running statistics of a block or gate (R189). -/
structure Stats where
  n : Nat := 0
  sum : Int := 0
  sq : Int := 0
  lo : Int := 0
  hi : Int := 0
deriving DecidableEq, Repr

/-- One Loupe channel beyond its registers (R175–R190). -/
structure LoupeCh where
  /-- the last calibration passed -/
  calOk : Bool := false
  /-- a calibration has passed since the gate entered CAL -/
  gateCal : Bool := false
  /-- the GRID edge at which the calibration in progress began -/
  calFrom : Option Nat := none
  /-- the offset of the last calibration in 1/16 ps (R180) -/
  offset : Option Int := none
  /-- calibrations of the last 16 s: TB_0 time without deliberate motion, NOISE and CAL_RES in 1/16 ps, passed -/
  cals : List (Int × Nat × Nat × Bool) := []
  /-- the next stamp is the first of its block -/
  first : Bool := true
  /-- the latest stamp in ps of the channel's time base, and its instant in ps of GRID time (R182) -/
  last : Option Int := none
  lastAt : Option Int := none
  /-- the last event was stamped, and the period that predicts the next one, in ps (R186) -/
  follows : Bool := false
  period : Option Int := none
  /-- the GRID edge at which the capture that runs, or the gate, began (R185, R187) -/
  since : Nat := 0
  opened : Nat := 0
  /-- stamps delivered so far (R183) -/
  count : Nat := 0
  stats : Stats := {}
  /-- stamps taken in the open gate -/
  taken : Nat := 0
  /-- edges since the divider last passed one -/
  pre : Nat := 0
deriving DecidableEq, Repr

/-- The Loupe beyond its registers (R175–R193). -/
structure LoupeSt where
  ch : SMap LoupeCh := []
  fifo : Fifo := {}
  /-- outputs measured in this second (R191) -/
  measured : Nat := 0
  /-- the chain marker stamps of this second: marker and tick time (R191, R508) -/
  marks : SMap Nat := []
deriving DecidableEq, Repr

/-- A step captured at its command (R213): a signed number of ticks, or a time to load. -/
inductive StepReq where
  | by (ticks : Int)
  | to (seconds nanoseconds : Nat)
deriving DecidableEq, Repr

/-- One time base (R199–R213): its full value with the 32 hidden bits, in units of 2^-48 ns; the step that awaits its GRID edge;
the integrator in units of 10^-9 × 2^-52 ppb (exact under R211); and the tick time of the previous accepted offset. -/
structure TimeBase where
  t : Nat := 0
  req : Option StepReq := none
  integ : Int := 0
  lastOfs : Option Nat := none
deriving DecidableEq, Repr

/-- A TBEV ball (R224): its level, and the instant from which the width of the pulse that runs counts, in TB_0 ticks without deliberate motion. -/
structure TbevSt where
  level : Bool := false
  pulse : Option Int := none
deriving DecidableEq, Repr

/-- Time bases, leap table, event outputs and the TB_0 servo (R199–R224). -/
structure TimeSt where
  tb : SMap TimeBase := []
  /-- the leap table in force (R203): second T and delta -/
  leap : List (Nat × Int) := []
  /-- the T of entries applied, latest first (R206) -/
  applied : List Nat := []
  /-- deliberate motion of TB_0 so far, in ticks: steps and pulls, which are no frequency of a reference (log entry 12) -/
  moved : Int := 0
  /-- the model frequency TB_0 is steered by in this second, ppt (R119, R209) -/
  coast : Int := 0
  /-- the phase rate of the pull in force, ticks per second (R208), and the TB_0 ticks since which `moved` does not count it -/
  pullRate : Int := 0
  pullT : Int := 0
  tbev : SMap TbevSt := []
  /-- TB_0 at the last second boundary and the steps since, for the watchdog (R217) -/
  watchT : Nat := 0
  watchSteps : Int := 0
  /-- a change of oscillator since the last boundary (R217) -/
  watchOsc : Bool := false
deriving DecidableEq, Repr

/-- A symbol of the navigation unit (R243–R245): its sum, the epoch tick time of its start, and whether TB_0 has stepped in it. -/
structure NavSym where
  sum : Int := 0
  start : Nat := 0
  stepped : Bool := false
deriving DecidableEq, Repr

/-- A tracking channel beyond its registers (R236–R244): the values its staged registers had when they were last transferred, the sums of the
running integration (I and Q of P, E, L, VE, VL, N), UPD and STEPPED of the integration; at its last sample the carrier phase in 2^-48 cycle, the
code phase in 2^-32 chip and the clock edge's tick time; the prompt I of the running primary period; and of the navigation unit the symbol in
progress, the symbols since the search or the entry in progress began, the polarity, D29 and D30 of the last word, and the failed checks. -/
structure GnssCh where
  carrInc : Word := 0
  codeInc : Word := 0
  taps : Word := 0
  dump : Word := 1
  acc : List Int := []
  upd : Bool := false
  stepped : Bool := false
  carr : Nat := 0
  code : Nat := 0
  last : Nat := 0
  prompt : Int := 0
  navPart : Option NavSym := none
  navSyms : List NavSym := []
  navInv : Bool := false
  navTail : Bool × Bool := (false, false)
  navFails : Nat := 0
deriving DecidableEq, Repr

/-- The GNSS baseband beyond its registers (R229–R252): SCLK_MODE in force, channels, milliseconds of LEVEL_BAD by input, the FIFOs, the words of the
record that the GNSS_LOOP lane is reading; of the capture its memory, the samples stored, the mixer's phase and the samples of the sum in progress
with its I and Q; and when the antenna supply tripped. -/
structure GnssSt where
  mode : Nat := 0
  ch : SMap GnssCh := []
  levelMs : SMap Nat := []
  dump : Fifo := {}
  nav : Fifo := {}
  dumpPos : Nat := 0
  navPos : Nat := 0
  cap : SMap Word := []
  capN : Nat := 0
  capPhase : Word := 0
  capCount : Nat := 0
  capI : Int := 0
  capQ : Int := 0
  tripped : Int := 0
deriving DecidableEq, Repr

/-- A frame that an engine has offered to a line port and that waits there (R275): its source in the order of R275 (0 stream, 1 PTP,
2 NTS), its octets without padding and FCS, and a tag for the engine that asks for its transmit stamp (0 none). -/
structure TxFrame where
  src : Nat
  octets : List Byte
  tag : Nat := 0
deriving DecidableEq, Repr

/-- One line port beyond its registers (R259–R277). -/
structure LineSt where
  /-- auto-negotiation is running (R261) -/
  anRun : Bool := false
  /-- the GRID edge count when the lock was acquired, and when MODE_BAD was found (R261) -/
  lockAt : Nat := 0
  badAt : Nat := 0
  /-- frames of the engines that wait, in the order offered (R275) -/
  wait : List TxFrame := []
  /-- the end of the pause hold, in units of 10 ps of GRID time (R273) -/
  pauseEnd : Nat := 0
  /-- the quanta of a pause that starts at the end of the frame in progress (R273) -/
  pauseNext : Option Nat := none
deriving DecidableEq, Repr

/-- A transmit descriptor as host software wrote it (R282). -/
structure TxDesc where
  addr : Nat
  len : Nat
  flags : Nat
  tag : Nat
deriving DecidableEq, Repr

/-- A transmit queue beyond its registers (R282): the descriptors the TM9256 owns, from HEAD on, the frame on the wire
(its port, its transmit stamp and its octets), and the write-back of a frame that ended while DMA waited (status, octets taken, stamp). -/
structure TxqSt where
  descs : List TxDesc := []
  wire : Option (Nat × Nat × List Byte) := none
  sent : Option (Nat × Nat × Nat) := none
deriving DecidableEq, Repr

/-- A receive queue beyond its registers (R279, R284): an odd number of passes through the ring is complete, and the GRID
edge count of the first entry written since the last interrupt. -/
structure RxqSt where
  pass : Bool := false
  unann : Option Nat := none
deriving DecidableEq, Repr

/-- A frame for host software (R31, R279, R293): its receive queue, its port, its octets without FCS, its stamp, and whether PCIe refuses its completion
writes. -/
structure RxFrame where
  q : Nat
  port : Nat
  data : List Byte
  stamp : Nat
  refused : Bool := false
deriving DecidableEq, Repr

/-- The buffer manager (R278–R286): addresses posted in the pool ring from POOL_HEAD on, the cache, the frames received in this GRID period, those that
wait for DMA, buffers that a block reset still has to return, and descriptors it still has to abort. -/
structure QueueSt where
  posted : List Nat := []
  cache : List Nat := []
  due : List RxFrame := []
  rxHeld : List RxFrame := []
  returning : List Nat := []
  aborting : Bool := false
  rx : SMap RxqSt := []
  tx : SMap TxqSt := []
deriving DecidableEq, Repr

/-- The values published at step 6 of R137 (R303, R331): which order of R138 applied, class, accuracy code, PENDING, the bound with
the flags SATURATED, OVER_LIMIT and UNTRACEABLE, the holdover state, the anchor, SEQ, the eight contributions, the UTC offset
register, timeSource, and in BC_MODE what the parent announces: priorities 1 and 2, class, accuracy, variance, identity, steps
removed, timeSource, flag bits. -/
structure Published where
  order : Nat := 1
  cls : Nat := 248
  acc : Nat := 0xFE
  pending : Nat := 0
  bound : Nat := 0xFFFFFFFF
  flags : Nat := 0
  hold : Nat := 0
  anchor : Nat := 0x1F
  seq : Nat := 0
  contrib : List Nat := []
  utc : Nat := 0
  tsrc : Nat := 0xA0
  prio1 : Nat := 0x80
  prio2 : Nat := 0x80
  oslv : Nat := 0xFFFF
  gmId : Nat := 0
  steps : Nat := 0
  trace : Nat := 0
  bc : Bool := false
deriving DecidableEq, Repr

/-- What a foreign master last announced (R297): domain, sourcePortIdentity (80 bits), dataset, flags and UTC offset, the monitor time at which its
last Announce message arrived, whether it is qualified, its source address, the message's interval and the claim of its bound TLV (R316). -/
structure Foreign where
  dom : Nat := 0
  src : Nat := 0
  prio1 : Nat := 0
  cls : Nat := 0
  acc : Nat := 0
  oslv : Nat := 0
  prio2 : Nat := 0
  gmId : Nat := 0
  steps : Nat := 0
  tsrc : Nat := 0
  flags : Nat := 0
  utc : Nat := 0
  last : Int := 0
  qualified : Bool := false
  kind : Nat := 0
  addr : Nat := 0
  mac : Nat := 0
  logIntv : Int := 0
  claim : Nat := 0
deriving DecidableEq, Repr

/-- One unicast grant (R309, R310): signed log2 interval, the monitor time at which it ends, its own sequence counter, and the number of the instant of
its last message. -/
structure Grant where
  log : Int := 0
  upto : Int := 0
  seq : Nat := 0
  sent : Option Int := none
deriving DecidableEq, Repr

/-- One unicast entry (R309, R311): port, sourcePortIdentity, address kind (0 MAC, 1 IPv4, 2 IPv6) with its value, the MAC of the client,
and the grants of Announce, Sync and Delay_Resp. -/
structure UcEntry where
  port : Nat := 0
  src : Nat := 0
  kind : Nat := 0
  addr : Nat := 0
  mac : Nat := 0
  ann : Option Grant := none
  sync : Option Grant := none
  dresp : Option Grant := none
deriving DecidableEq, Repr

/-- A reply that waits to be sent (R299, R300): message kind (9 Delay_Resp, 3 Pdelay_Resp, 10 Pdelay_Resp_Follow_Up, 8 Follow_Up), the
request's source identity, sequenceId, domain, correction, the receive stamp and the transmit stamp in full ticks, the unicast
destination (kind, address, MAC) if any, the interval it states, and the monitor time at which it became due (R298). -/
structure Reply where
  kind : Nat := 0
  src : Nat := 0
  seq : Nat := 0
  dom : Nat := 0
  corr : Int := 0
  rx : Int := 0
  tx : Int := 0
  dst : Option (Nat × Nat × Nat) := none
  logIntv : Int := 0
  got : Int := 0
deriving DecidableEq, Repr

/-- One port's instances beyond their registers (R294–R316). -/
structure PtpPort where
  /-- the state to which SILENT returns (R296) -/
  prior : Nat := 0
  foreign : List Foreign := []
  /-- sequence counters of the multicast streams by message type (R300) -/
  seqs : SMap Nat := []
  replies : List Reply := []
  /-- consecutive good and missed or bad Pdelay exchanges (R301) -/
  pdGood : Nat := 0
  pdBad : Nat := 0
  /-- the open Pdelay exchange: sequenceId, t1, and t2, t4 with the correction once the response is in -/
  pdOpen : Option (Nat × Int) := none
  pdResp : Option (Int × Int × Int) := none
  /-- t3 and t4 of the previous exchange for the neighbour rate ratio, and the ratio − 1 in 2^-41 -/
  pdLast : Option (Int × Int) := none
  nrr : Int := 0
  /-- the follower: its parent, the two-step Sync that waits for its Follow_Up (sequenceId, t2, correction), the last t2 − t1 − c_s,
  the open Delay_Req (sequenceId, t3), the window of d, the exchanges gated in a row, and whether D exists -/
  parent : Option Nat := none
  sync : Option (Nat × Int × Int) := none
  /-- the waiting Sync predates a step of the target time base (R314) -/
  syncOld : Bool := false
  fwd : Option Int := none
  dreq : Option (Nat × Int) := none
  dwin : List Int := []
  gated : Nat := 0
  /-- the follower's delay-request interval (R298) -/
  dlog : Option Int := none
  /-- a unicast follower (R315): the ends of its grants for Announce, Sync, Delay_Resp; when a request was sent; when a retry is due -/
  ucUpto : SMap Int := []
  ucAsked : Option Int := none
  ucRetry : Option Int := none
  /-- when LISTENING was entered (R296) -/
  listenFrom : Int := 0
  /-- the numbers of the last instants of the multicast Announce and Sync (R298) -/
  annSent : Option Int := none
  syncSent : Option Int := none
  /-- when the last Pdelay_Req was sent, and the number of the interval of the last Delay_Req (R298) -/
  pdAt : Option Int := none
  dreqSlot : Option Int := none
  /-- AUTH failures of each kind already reported in this second (R308) -/
  authSeen : Nat := 0
  /-- a change of published quality still has to leave this port (R305) -/
  pubWait : Bool := false
  /-- reference 12 + n was selected when the port was last judged (R296) -/
  selWas : Bool := false
deriving DecidableEq, Repr

/-- The PTP engine beyond its registers (R291–R318). -/
structure PtpSt where
  pub : Published := {}
  ports : SMap PtpPort := []
  uc : SMap UcEntry := []
  ts : Fifo := {}
  /-- a change of class or accuracy has not yet left every MASTER port (R305) -/
  pubChange : Bool := false
deriving DecidableEq, Repr

/-- A master key (R325): KEY_ID and key. -/
structure MasterKey where
  id : Nat := 0
  key : BitVec 256 := 0
deriving DecidableEq, Repr

/-- A response that waits (R334, R336): its port, its frame, the counter it will count in when it is sent, and T_tx,
the instant in ticks of TB_0 at which it is sent (R331). -/
structure NtsReply where
  port : Nat
  frame : List Byte
  cnt : Nat
  due : Int
deriving DecidableEq, Repr

/-- The NTS responder beyond its registers (R322–R338). -/
structure NtsSt where
  queue : List NtsReply := []
  /-- tokens taken of each bucket, in GRID edges' worth (R335), and the edge of the last change -/
  used : SMap (Nat × Nat) := []
  hashKey : BitVec 256 := 0
  mintKey : SMap Word := []
  /-- the mint in progress: cookies, or none with no CURRENT key (R329) -/
  minting : List Byte := []
  window : SMap Byte := []
  /-- DROP_RATE + DROP_OVERLOAD and REJ + FORMAT at the last second (R337) -/
  rateLast : Nat := 0
  rejLast : Nat := 0
  /-- the elapsed seconds at which ROT_LEFT last counted (R326) -/
  rotIdx : Int := 0
deriving DecidableEq, Repr

/-- The key store (R340–R347): the master-key ring, PTP keys, pair key, load registers, blob window, the operation in progress (1 export,
2 restore) and its octets, and the DRBG draws. -/
structure KeysSt where
  cur : Option MasterKey := none
  pend : Option MasterKey := none
  prev1 : Option MasterKey := none
  prev2 : Option MasterKey := none
  ptp : SMap (Option (BitVec 256)) := []
  pair : Option (BitVec 256) := none
  load : SMap Word := []
  window : SMap Byte := []
  op : Nat := 0
  opBytes : List Byte := []
  draws : Nat := 0
  reseeds : Nat := 0
  /-- the DRBG holds a state (R343, R347) -/
  seeded : Bool := false
deriving DecidableEq, Repr

/-- A rate domain beyond its registers (R354): the count k of its last boundary (the media count is k mod 2^32), the number of its
boundaries so far, which no jump disturbs, whether it is running, and the pull in force (0 none, 1–4 the factors of R154). -/
structure DomainSt where
  count : Nat := 0
  n : Nat := 0
  run : Bool := false
  pull : Nat := 0
  /-- boundaries in the running metering period (R399) -/
  meterN : Nat := 0
deriving DecidableEq, Repr

/-- A frame in the elastic buffer of a serial input (R366): the first boundary it may enter, its channels, and whether it starts a
channel-status block. -/
structure SaFrame where
  due : Nat
  chans : List ChanIn
  z : Bool
deriving DecidableEq, Repr

/-- One serial-audio pin beyond its registers (R360–R366). -/
structure SaSt where
  /-- the pin runs: an input has taken its slots -/
  enabled : Bool := false
  locked : Bool := false
  /-- the elastic buffer, oldest frame first -/
  buffer : List SaFrame := []
  /-- consecutive boundaries held by the input, and by each channel -/
  run : Nat := 0
  heldCh : SMap Nat := []
  /-- the last words of its slots, or the words launched last by an output -/
  last : List Word := []
  /-- C bits of subframe 1 since the block began (R364), and the C and U bits in force with the block-start flag (R375) -/
  csAcc : List Bool := []
  cu : List Nat := []
  /-- frame number in the channel-status block of an output, and the running CRCC of its two subframes (R364) -/
  frame : Nat := 0
  crcA : Nat := 0xFF
  crcB : Nat := 0xFF
deriving DecidableEq, Repr

/-- A source of a receive stream (R371): path, source address, its claim, and the SP in which it was last heard. -/
structure RxSource where
  path : Nat
  addr : Nat
  claim : Nat
  heard : Nat
deriving DecidableEq, Repr

/-- A sample in a playout buffer: its words by channel, the path that delivered it, its timestamp, and its C, U and block-start bits by
channel (R373, R375). -/
structure RxSample where
  words : List Word := []
  path : Nat := 0
  ts : Nat := 0
  cu : List Nat := []
deriving DecidableEq, Repr

/-- A lane of a receive stream (R374): its claim, its sources, its buffer by the media count of the boundary, and the boundaries
that have passed with the path that delivered each (R373). -/
structure RxLane where
  claim : Nat := 0
  sources : List RxSource := []
  buf : SMap RxSample := []
  passed : SMap Nat := []
deriving DecidableEq, Repr

/-- One receive entry beyond its registers (R371–R374): what it allocated when it was enabled (pages, domain, base, channels, buffer
size), the learned offset, its lanes, sources refused for an equal claim, held boundaries, last words, C and U bits in force, the SP in which each
path was last heard, and whether the next sample carries RECOVERY. -/
structure RxSt where
  pages : Nat := 0
  dom : Nat := 0
  base : Nat := 0
  chans : Nat := 0
  bufSp : Nat := 0
  offset : Nat := 0
  lane0 : RxLane := {}
  lane1 : RxLane := {}
  refused : List RxSource := []
  held : Nat := 0
  last : List Word := []
  cu : List Nat := []
  heard : SMap Nat := []
  recover : Bool := false
  /-- domain X: the media count of the last boundary of its own grid (R354) -/
  xAt : Nat := 0
deriving DecidableEq, Repr

/-- One transmit entry beyond its registers (R368–R370): the packet being built (the count of its first boundary, and its
samples with their C and U bits), the marker, and the position in its channel-status block (R375). -/
structure TxSt where
  first : Nat := 0
  acc : List (List Word × List Nat) := []
  mark : Bool := true
  frame : Nat := 0
deriving DecidableEq, Repr

/-- One ASRC channel beyond its registers (R357, R358). -/
structure AsrcSt where
  enabled : Bool := false
  /-- the next sample is the first after lock -/
  fresh : Bool := false
deriving DecidableEq, Repr

/-- A word that an A ↔ B bridge has taken from its source slot: the GRID edge and the media count of the boundary that latched it. -/
structure BridgeIn where
  edge : Nat
  count : Nat
  word : Word
deriving DecidableEq, Repr

/-- One A ↔ B bridge beyond its register (R356): whether it has taken its slot, and the input samples in its filter, newest first. -/
structure BridgeSt where
  on : Bool := false
  inputs : List BridgeIn := []
deriving DecidableEq, Repr

/-- The audio transport beyond its registers (R354–R378). -/
structure AudioSt where
  dom : SMap DomainSt := []
  sa : SMap SaSt := []
  rx : SMap RxSt := []
  tx : SMap TxSt := []
  asrc : SMap AsrcSt := []
  /-- ASRC groups that are locked, by source (256 × kind + index): their rate, 1/64 Hz -/
  groups : SMap Nat := []
  /-- the measured rates of a locked group's source within the last second, each with its instant (R358) -/
  rates : SMap (List (Int × Nat)) := []
  bridge : SMap BridgeSt := []
deriving DecidableEq, Repr

/-- A writer of slots that is no route entry (R387). -/
inductive Writer where
  | none
  | sa (n : Nat)
  | rx (n : Nat)
  | asrc (n : Nat)
  | bridge (n : Nat)
  | bus (n : Nat)
  | dly (n : Nat)
  | task (lane k : Nat)
deriving DecidableEq, Repr

/-- A route entry (R403): words 0 and 1, and the status of word 2. -/
structure RouteE where
  w0 : Word := 0
  w1 : Word := 0x100000
  loses : Bool := false
  cfgErr : Bool := false
  direct : Bool := false
deriving DecidableEq, Repr

/-- A mix term (R403), and under a slew limiter its effective gain: level in 2^-32 dB and sign, none while 0 (R398). -/
structure MixTerm where
  w0 : Word := 0
  w1 : Word := 0x100000
  eff : Option (Int × Bool) := none
deriving DecidableEq, Repr

/-- A mix bus (R403): words, ACTIVE, SAT, CFG_ERR, whether it has taken its slot, and its effective gains (R398). -/
structure MixBus where
  w0 : Word := 0x20000000
  w1 : Word := 0x100000
  active : Nat := 0
  sat : Bool := false
  cfgErr : Bool := false
  owns : Bool := false
  eff : Option (Int × Bool) := none
  effScale : Option (Int × Bool) := none
deriving DecidableEq, Repr

/-- A delay line (R389–R391): words, LATE, STATE, its pages on chip and external, the words it holds by boundary count modulo CAP, and its
last output word. -/
structure DelayLine where
  w0 : Word := 0
  len : Word := 1
  cap : Word := 1
  late : Nat := 0
  st : Nat := 0
  pages : Nat := 0
  ext : Nat := 0
  hist : SMap Word := []
  last : Word := 0
deriving DecidableEq, Repr

/-- A slot's meter (R399): the running period (largest |audio|, sum of squares, clips in it) and what is latched (peak and
sum of squares with the number of samples, hold as an amplitude, CLIPS). -/
structure MeterSt where
  peak : Nat := 0
  sq : Nat := 0
  clipped : Nat := 0
  lpeak : Nat := 0
  lsq : Nat := 0
  ln : Nat := 0
  hold : Nat := 0
  /-- when HOLD last rose, for its release -/
  rose : Int := 0
  clips : Nat := 0
deriving DecidableEq, Repr

/-- A table write (R401): table, index, data words, in order of arrival. -/
structure TblWrite where
  table : Nat
  index : Nat
  data : List Word
deriving DecidableEq, Repr

/-- The sample store, crossbar, mix engine, delay lines and meters (R385–R399). -/
structure StoreSt where
  /-- the slot words as latched at the last boundary (R386) -/
  slots : SMap Word := []
  /-- who owns each slot (R387) -/
  owner : SMap Writer := []
  /-- slots that receive zero at the next boundary (R387) -/
  clear : List Nat := []
  routes : SMap RouteE := []
  terms : SMap MixTerm := []
  buses : SMap MixBus := []
  lines : SMap DelayLine := []
  meters : SMap MeterSt := []
  /-- writes that take effect at the next boundary of their domain (R395), and those of them that came after the commit that waits -/
  waiting : List TblWrite := []
  waitingLate : List TblWrite := []
  /-- staged writes, and the group that a commit has scheduled with its domain (0 A, 1 B, 2 both) -/
  staged : List TblWrite := []
  commit : List TblWrite := []
  commitDom : Option Nat := none
  /-- direct-route words of this SP by destination (R394) -/
  direct : SMap Word := []
deriving DecidableEq, Repr

/-- A hardware loop level (R453): count remaining, start and END. -/
structure LoopLv where
  count : Nat
  start : Nat
  stop : Nat
deriving DecidableEq, Repr

/-- A control transfer that waits for its delay slots (R451): the bundles still to come, and where to: an address, the interrupted bundle with its
SR (R462), or the end of the task. -/
inductive Transfer where
  | jump (target : Nat)
  | rti (target sr : Nat)
  | tend
  /-- fetch goes on in sequence: a branch not taken, or a loop entered -/
  | seq
  /-- LBRK: the innermost level is popped, and fetch goes on in sequence -/
  | pop
deriving DecidableEq, Repr

/-- A MAC-slot operation in flight (R455): OP, D, S, AUX, the X values it read in stage A (A, A xor 1, B, B xor 1), and SR.RM. -/
structure MacOp where
  op : Nat
  d : Nat
  sel : Nat
  aux : Nat
  xa : Int
  xa1 : Int
  xb : Int
  xb1 : Int
  rm : Nat
deriving DecidableEq, Repr

/-- A register set of a lane (R439, R440, R455): registers, accumulators, SR fields, loop levels innermost first, transfers that
wait (bundles left), loads that land with the next bundle, and MAC operations of the last two bundles, oldest first. -/
structure Ctx where
  pc : Nat := 0
  x : List (BitVec 24) := []
  a : List (BitVec 13) := []
  m : List (BitVec 13) := []
  l : List (BitVec 13) := []
  acc : List (BitVec 56) := []
  rm : Nat := 0
  sm : Bool := true
  sv : Bool := false
  ie : Bool := false
  ih : Bool := false
  lsOff : Bool := false
  ra : BitVec 11 := 0
  isavePc : BitVec 11 := 0
  isaveSr : BitVec 24 := 0
  cyc : BitVec 24 := 0
  loops : List LoopLv := []
  xfer : List (Nat × Transfer) := []
  loads : List (Nat × BitVec 24) := []
  macs : List (Option MacOp) := []
deriving DecidableEq, Repr

/-- A task (R408–R412): its word, descriptor, slots, the lane that runs it, its bank, bundle counts, the words delivered in this SP, the words last
delivered, and whether it was stopped, skipped or trapped in this SP. -/
structure TaskSt where
  dom : Nat
  entry : Nat
  budget : Nat
  codeLen : Nat
  pinned : Bool
  banks : Bool
  xBase : Nat
  xLen : Nat
  yBase : Nat
  yLen : Nat
  nIn : Nat
  nOut : Nat
  bankLen : Nat
  ownFlags : Bool
  descErr : Bool
  ins : List Nat
  outs : List Nat
  lane : Nat
  bank : Bool := false
  swapPend : Bool := false
  used : Nat := 0
  usedMax : Nat := 0
  out : Option (List Word) := none
  last : Option (List Word) := none
  broken : Bool := false
deriving DecidableEq, Repr

/-- A lane (R405–R437): the role it serves (0 AUDIO, 1 SPARE, 2 GNSS_LOOP, 3 UNUSED), FAILED, its tasks in order, those still to start in this SP and the
one running, whether the SP's window is open, its register sets, the registers that belong to the lane, the GNSS_LOOP program running, a
stall on a port, the job lent to it with the routine's port state, counts of bundles, runs of low and of ample margin, and the mailboxes. -/
structure LaneSt where
  role : Nat := 3
  failed : Bool := false
  order : List Nat := []
  todo : List Nat := []
  cur : Option Nat := none
  window : Bool := false
  ctx : Ctx := {}
  bg : Ctx := {}
  ivec : BitVec 11 := 0
  ien : BitVec 5 := 0
  chmask : BitVec 32 := 0
  tickPend : Bool := false
  softPend : Bool := false
  tcause : Nat := 0
  taddr : Nat := 0
  tickHi : Word := 0
  loopRun : Bool := false
  stalled : Bool := false
  lent : Option Nat := none
  jobPos : Nat := 0
  capAddr : Nat := 0
  results : List Word := []
  bundles : Nat := 0
  secBundles : Nat := 0
  secPs : Nat := 0
  lowRun : Nat := 0
  lendRun : Nat := 0
  mailIn : List Word := []
  mailOut : List Word := []
  mailLast : Word := 0
deriving DecidableEq, Repr

/-- A host write to lane memory that waits for a boundary (R407). -/
structure LanePoke where
  lane : Nat
  y : Bool
  addr : Nat
  value : Word
deriving DecidableEq, Repr

/-- A migration (R423–R425): its tasks, source, target, reason, and whether the copy has ended. -/
structure Migration where
  tasks : List Nat
  src : Nat
  dst : Nat
  reason : Nat
  copied : Bool := false
deriving DecidableEq, Repr

/-- The Facet lanes and their scheduler (R405–R438, R439–R465): lanes; tasks by TASK_ID; program, X and Y memory by lane and address; the low word of
a bundle being written, by lane; channels by cluster and number with their OVERRUN flags; host writes that wait, by cluster; the migration and
the causes that wait; the lane being self-tested and the last one rotation took; and block resets that wait for a boundary (lane and tasks). -/
structure FacetSt where
  lanes : SMap LaneSt := []
  tasks : SMap (Option TaskSt) := []
  prog : SMap (BitVec 64) := []
  x : SMap Word := []
  y : SMap Word := []
  progLow : SMap Word := []
  chans : SMap (List Word) := []
  chanOvr : SMap Nat := []
  pokes : SMap (List LanePoke) := []
  mig : Option Migration := none
  causes : List (Nat × Nat) := []
  testing : Option Nat := none
  rotLast : Nat := 255
  /-- TB_0 seconds since the last rotation (R432) -/
  rotWait : Nat := 0
  blkRst : List (Nat × List Nat) := []
  /-- the lowest MARGIN_PCT of a running lane in this TB_0 second, and in the last one (R468) -/
  pctNow : Nat := 255
  pctLast : Nat := 255
deriving DecidableEq, Repr

/-- A message of a run of ingress words (R481): domain, media count of the boundary, and whether its last run has arrived. -/
structure MirrorIn where
  dom : Nat
  b : Nat
  words : List (Nat × Word) := []
  last : Bool := false
deriving DecidableEq, Repr

/-- A mirrored write that waits for its effective boundary (R482, R491): space (0 BAR0, 1 BAR2), octet offset and value. -/
structure MirrorWrite where
  dom : Nat
  b : Nat
  space : Nat
  off : Nat
  value : Word
deriving DecidableEq, Repr

/-- A handover that has been agreed (R475): the frame, the new EPOCH, the role this unit takes, and whether it resynchronises after it (R493). -/
structure Handover where
  frame : Nat
  epoch : Nat
  role : Nat
  resync : Bool := false
deriving DecidableEq, Repr

/-- The pair logic and the Ivern link beyond their registers (R466–R499). -/
structure PairSt where
  /-- ROLE, EPOCH and HEALTH of the unit's claim before withdrawal (R467) -/
  role : Nat := 0
  epoch : Nat := 0
  health : Nat := 0
  /-- the unit has left by LEAVE (R498) -/
  left : Bool := false
  /-- frames passed since ALONE was entered from DOWN, and whether a ROLE-3 claim has won one (R474) -/
  settle : Option Nat := none
  seenHolder : Bool := false
  handover : Option Handover := none
  /-- consecutive frames with HEALTH below the partner's less HYST (R475) -/
  below : Nat := 0
  /-- number of the last arbitration frame (R471), and the frames since the last HEALTH message (R486) -/
  frameAt : Option Nat := none
  silent : Nat := 0
  /-- consecutive bad and good frames on CLAIM_IO (R473) -/
  badRun : Nat := 0
  goodRun : Nat := 0
  /-- monitor time of the last class-2 fault other than 26–28 (R468) -/
  degraded : Option Int := none
  /-- the claim in this unit's last HEALTH message, and the partner's state and first digest octets in its last (R473, R480) -/
  sentClaim : Nat := 0
  partnerState : Nat := 0
  partnerDig : Option Nat := none
  /-- training (R485): block lock of the two lanes, deskew, a HELLO accepted, TIME exchanges -/
  lock0 : Bool := false
  lock1 : Bool := false
  deskew : Bool := false
  hello : Bool := false
  times : Nat := 0
  /-- monitor time of the last HELLO, and the sixteenth of the TB_0 second in which the last TIME message went out (R480, R485) -/
  helloAt : Option Int := none
  timeAt : Option Nat := none
  /-- TIME messages sent: SEQ and t1, newest first (R487); the last received: SEQ and stamp; delays of the last 16 exchanges in half ticks -/
  timeSent : List (Nat × Nat) := []
  timeGot : Nat × Nat := (0, 0)
  delays : List Int := []
  /-- SEQ of the next message by TYPE (R479) -/
  seq : SMap Nat := []
  /-- ingress of the partner by boundary (R490) -/
  mirror : List MirrorIn := []
  /-- mirrored writes that wait (R491) -/
  writes : List MirrorWrite := []
  /-- digests by domain and count: this unit's that no digest has met, the partner's that wait; misses in a row (R492, R493) -/
  digests : List (Nat × Nat × Nat) := []
  digestsIn : List (Nat × Nat × Nat) := []
  missRun : Nat := 0
  /-- a mismatch whose HEALTH comparison is due (R493) -/
  mismatch : Bool := false
  /-- monitor times of the last resynchronisations (R493) -/
  resyncs : List Int := []
  /-- this unit is the source of a join (R495) -/
  source : Bool := false
  /-- JOINING: the state it came from, JOIN_REQ sent, a KEY message received, when it began, octets moved -/
  from_ : Nat := 2
  asked : Bool := false
  keyed : Bool := false
  began : Int := 0
  moved : Nat := 0
  /-- lock boundaries named for domains A and B that are still to come (R495) -/
  lockAt : SMap (Option Nat) := []
  /-- words of the spaces that STATE messages delivered and whose layout is internal, by 2^32 × space + offset (R484) -/
  image : SMap (BitVec 64) := []
deriving DecidableEq, Repr

/-- An entry of the partner table (R515, R518): KIND, the whole identity, words 1 and 2, WHERE of each sighting that lasts and of the last one, the
chain side, seconds first and last seen, REJOINS, device kind, and the order in which it left. -/
structure Partner where
  kind : Nat
  key : Nat
  w1 : Nat := 0
  w2 : Nat := 0
  uses : List Nat := []
  at_ : Nat := 0
  side : Nat := 0
  first : Nat := 0
  seen : Nat := 0
  rejoins : Nat := 0
  dev : Nat := 0
  left : Nat := 0
  /-- monitor time of its last PARTNER frame (R515) -/
  heard : Int := 0
deriving DecidableEq, Repr

/-- What a GRID period brought of a partner of KIND `kind` at a place (R515): it is seen there, heard again, or seen there no more. -/
inductive Sighting where
  | seen (kind key w1 w2 place : Nat)
  | heard (kind key place : Nat)
  | gone (kind key place : Nat)
deriving DecidableEq, Repr

/-- A TOD frame that counts (R503, R505). -/
structure ChainTod where
  flags : Nat
  bound : Nat
  claim : Nat
  uid : Nat
  hop : Nat
  /-- monitor time of its reception (R505) -/
  got : Int := 0
deriving DecidableEq, Repr

/-- A frame waiting on a side of the chain (R507): TOD and HOP are filled in as they are sent. -/
inductive ChainMsg where
  | tod
  | hop
  | enum (octets : List Byte)
  | partner (octets : List Byte)
deriving DecidableEq, Repr

/-- One side of the chain beyond the registers (R504–R508): good FRAME48 in a row, the frames waiting, the TOD that counts, the cycle measured in this
second and whether its HOP has been sent, the UID in its HOP frames, and the last 16 exchanges as the sum of both delays. -/
structure ChainSide where
  run : Nat := 0
  up : Bool := false
  /-- monitor time of the last FRAME48 with a correct CRC (R504) -/
  heard : Int := 0
  queue : List ChainMsg := []
  tod : Option ChainTod := none
  hopSent : Bool := true
  uid : Option Nat := none
  sums : List Int := []
deriving DecidableEq, Repr

/-- The chain and the partner table beyond the registers (R501–R518). -/
structure ChainSt where
  sides : SMap ChainSide := []
  /-- the 48 kHz instant at which the last cycle began (R502) -/
  cycleAt : Option Nat := none
  /-- the side last followed (R509) -/
  lastSide : Option Nat := none
  /-- the cycle measured this second (R508) -/
  cycle : Nat := 0
  /-- the node has handled ENUM, and its PARTNER frame is due with the next cycle (R511) -/
  partnerDue : Bool := false
  partners : SMap (Option Partner) := []
  /-- sightings of PTP and STREAM partners in this GRID period, of which the table takes those of PTP first (R515) -/
  sighted : List Sighting := []
  /-- partners that have left, in order -/
  departures : Nat := 0
  /-- VDDIO_33 is lost (R512) -/
  noIo : Bool := false
deriving DecidableEq, Repr

/-- One sentinel (R568, R570): slowdown s and model A in ppm, n × 65,536, days of own samples, and the hourly samples (hours, s). -/
structure Sentinel where
  slow : Nat := 0
  fitA : Nat := 0
  fitN : Nat := 0
  days : Nat := 0
  samples : List (Nat × Nat) := []
deriving DecidableEq, Repr

/-- Power and ageing managers beyond their registers (R559–R574). -/
structure AgeSt where
  sent : SMap Sentinel := []
  hotHours : Nat := 0
  tjMean : Int := 0
  /-- predicted issue rate R_corner of each cluster in bundles/s (R569) -/
  corner : SMap Nat := []
  /-- lane ratio, 16 fraction bits; 65,536 until a task has run (R571) -/
  ratio : SMap Nat := []
  /-- whole seconds of the VHYST condition (R566) -/
  aboveSecs : Nat := 0
  /-- consecutive milliseconds of Tj above 120 °C (R574) -/
  hotMs : Nat := 0
  /-- the GRID edge of the last change of code (R567) -/
  vidEdge : Option Nat := none
  /-- the GRID second of the last regulation, the milliseconds of the last VDD_CORE and Tj readings, and the hour of the last measurement
  (R566–R568, R574) -/
  vidAt : Option Nat := none
  vmonAt : Option Nat := none
  tjAt : Option Nat := none
  hourAt : Option Nat := none
  /-- powered hours measured since the last fit (R570) -/
  sinceFit : Nat := 0
  /-- the GRID edge up to which a group stays ACTIVE after its last demand (R562) -/
  demand : SMap Nat := []
  /-- groups that are waking (R560) -/
  waking : List Nat := []
deriving DecidableEq, Repr

/-- The external-memory controller beyond its registers (R596–R604): a training run has been made since PORESET_B, the check bits that an
armed injection inverts in the next write (1 or 2), beats whose check bits are wrong by address (1 or 2), the devices report above
85 °C, the longest pager access of this second, ns; DRAM_CFG and DRAM_TIMING_4 as the last training run took them (R597); and the GRID
edges of the last scrub pass, refresh, ZQ calibration and temperature reading (R602, R603). -/
structure DramSt where
  ran : Bool := false
  inject : Nat := 0
  beats : SMap Nat := []
  hot : Bool := false
  wait : Nat := 0
  cfg : Word := 0
  timing : Word := 0
  scrubAt : Nat := 0
  refreshAt : Nat := 0
  zqAt : Nat := 0
  tempAt : Nat := 0
deriving DecidableEq, Repr

/-- The state of the part (INVENTORY.md, State). -/
structure State where
  /-- every register of BAR0 by octet offset; an unlisted register holds its reset value (RegMap.lean). -/
  regs : SMap Word
  /-- what the part has put on its ports, oldest first: the model's own record (log entry 4). -/
  sent : List Output
  /-- the number of free values drawn: the model's own field (log entry 1). -/
  free : Nat
  /-- elapsed GRID time since t0 in whole periods of 1.6 ns, GRID edges while GRID runs from SYN_G (R199, R590): the model's own count. -/
  edges : Nat
  /-- what elapsed beyond `edges` on the bypass clock, in 0.4 ns (R199): the model's own count. -/
  edgeRem : Nat
  /-- the fault collector (R519–R532). -/
  fault : FaultSt
  /-- the interrupt controller and its FIFOs (R537–R556). -/
  intc : IntcSt
  /-- the host ports (R577–R592). -/
  host : HostSt
  /-- the control pins as driven since the last command (R512, R530, R531, R541, R565). -/
  pins : PinSt
  /-- the structure image loader and the structure built (R36–R57). -/
  loader : LoaderSt
  /-- one-time-programmable memory (R45, R46, R64). -/
  otp : OtpSt
  /-- the staging window while no structure is built, in the sample store (R49). -/
  staging : List Host.Cell
  /-- the staging window once a structure is built, in the loader reserve of external memory (R49). -/
  reserve : List Host.Cell
  /-- PORESET_B is high: t0 has passed (R64). -/
  running : Bool
  /-- the OTP read is done and the SPI management port is open (R64, step 2). -/
  ready : Bool
  /-- the start-up self-tests are done (R64, step 3); a chip reset does not repeat them (R51). -/
  tested : Bool
  /-- the reference monitors (R68–R107). -/
  refs : SMap RefSt
  /-- the selector (R87–R98). -/
  sel : SelSt
  /-- the oscillator models, holdover engine, ledger and snapshot window (R110–R136). -/
  hold : HoldSt
  /-- the synthesisers and the output aligners beyond their registers (R143–R174). -/
  synth : SynthSt
  /-- the Loupe channels and result FIFO (R175–R193). -/
  loupe : LoupeSt
  /-- the time bases, leap table, TBEV outputs and watchdog (R199–R224). -/
  time : TimeSt
  /-- the GNSS baseband (R229–R252). -/
  gnss : GnssSt
  /-- the line ports (R259–R277). -/
  line : SMap LineSt
  /-- the host queues and the buffer pool (R278–R286). -/
  queue : QueueSt
  /-- the PTP engine (R291–R318). -/
  ptp : PtpSt
  /-- the NTS responder (R322–R338). -/
  nts : NtsSt
  /-- the key store (R340–R347); no access reads a key. -/
  keys : KeysSt
  /-- rate domains, serial pins, streams, ASRC and bridges (R354–R378). -/
  audio : AudioSt
  /-- the sample store, routing, mixing, delay lines and meters (R385–R399). -/
  store : StoreSt
  /-- the Facet lanes, their memories and the scheduler (R405–R465). -/
  facet : FacetSt
  /-- the redundant pair and the Ivern link (R466–R499). -/
  pair : PairSt
  /-- the Parpo chain and the partner table (R501–R518). -/
  chain : ChainSt
  /-- the power and ageing managers (R559–R576). -/
  age : AgeSt
  /-- the external-memory controller (R596–R604). -/
  dram : DramSt
  /-- the instruction register of the test port: IDCODE in Test-Logic-Reset (R626). -/
  tapIr : Nat
  /-- The commands that are waiting, first in, first out. -/
  pending : List Instr
deriving DecidableEq, Repr

/-- The reasons a command stops the machine. -/
inductive Fault where
  /-- A low pulse of PORESET_B longer than 1 µs and shorter than 5 µs, which R619 forbids and gives no effect: raised by
  PORESET_ASSERT.  Safe: the part stops where the spec says nothing. -/
  | forbiddenResetPulse
deriving DecidableEq, Repr

/-- The reasons a command has no meaning. -/
inductive Refusal where
  /-- The command has no meaning in the model yet: raised by its arm of exec.  Safe. -/
  | notModelled (mnemonic : String)
deriving DecidableEq, Repr

/-- The part right after reset: PORESET_B held low (R12, R63, R64, R617). -/
def State.reset : State :=
  { regs := [],
    sent := [],
    free := 0,
    edges := 0,
    edgeRem := 0,
    fault := {},
    intc := {},
    host := {},
    pins := {},
    loader := {},
    otp := {},
    staging := [],
    reserve := [],
    running := false,
    ready := false,
    tested := false,
    refs := [],
    sel := {},
    hold := {},
    synth := {},
    loupe := {},
    time := {},
    gnss := {},
    line := [],
    queue := {},
    ptp := {},
    nts := {},
    keys := {},
    audio := {},
    store := {},
    facet := {},
    pair := {},
    chain := {},
    age := {},
    dram := {},
    tapIr := 1,
    pending := [] }

end Sys2Proof.Machine
end

