-- ==== Sys2Proof/Machine/Ops.lean ====
section
/-!
DEFINITION. The named operations every meaning is written with: registers and their fields, saturating and wrapping
counters, free values, outputs, fault strobes and levels, interrupt events, and the flagging FIFOs.
-/

namespace Sys2Proof.Machine

open Host (Outcome)

/-- The result of a command. -/
abbrev Res := Outcome State Fault Refusal

/-- A register of an array that exists on other instances only: it reads zero and ignores writes (R102, R198, R226). -/
def regAbsent (a : Nat) : Bool :=
  if 0x40000 ≤ a ∧ a < 0x41400 then
    let n := (a - 0x40000) / 0x100
    if a % 0x100 = 0x24 then decide (n < 4) || decide (8 ≤ n)
    else [0x38, 0x3C, 0x48, 0x4C, 0x50, 0x54].contains (a % 0x100) && decide (4 ≤ n)
  else [0x70000, 0x70058, 0x7005C, 0x70060, 0x70064, 0x70068, 0x7006C].contains a

/-- The reset value of the register at offset `a` (R12), with the per-instance values the tables state. -/
def regReset (a : Nat) : Word :=
  if regAbsent a then 0
  else if a = Reg.synCeiling 0 then 10600000 else if a = Reg.synCeiling 1 then 13000000 else if a = Reg.synCeiling 2 then 12000000   -- R159
  else if a = Reg.tbStatus 0 then 3                                            -- STATE 3 on TB_0 (R228)
  else if Reg.faultCfg 0 ≤ a ∧ a ≤ Reg.faultCfg 47 ∧ a % 4 = 0 then
    -- by default class (R523, R535)
    let n := (a - Reg.faultCfg 0) / 4
    if n ∈ [15, 17, 18, 19, 33, 39, 43] then 0x313
    else if n ∈ [10, 40, 47] then 0x001
    else if n ∈ [0, 2, 8, 9, 22, 23, 24, 26, 29, 30, 32, 41, 44, 46] then 0x101
    else 0x215
  else match regDef a with
    | some r => BitVec.ofNat 32 r.reset
    | none => 0

/-- The OSC frequency of the OSCSEL straps in Hz (R47). -/
def oscHz (sel : Nat) : Nat := if sel = 0 then 10000000 else if sel = 1 then 20000000 else if sel = 2 then 25000000 else 100000000

namespace State

variable (s : State)

/-- The word the register at offset `a` holds. -/
def rd (a : Nat) : Word := s.regs.get (regReset a) a

/-- Store a word in the register at offset `a`. -/
def wr (a : Nat) (v : Word) : State := { s with regs := s.regs.set (regReset a) a v }

/-- The register at offset `a` as a number. -/
def rdn (a : Nat) : Nat := (s.rd a).toNat

/-- The register at offset `a` as a signed number. -/
def rdi (a : Nat) : Int := (s.rd a).toInt

/-- Store a number in a register, modulo 2^32. -/
def wrn (a v : Nat) : State := s.wr a (BitVec.ofNat 32 v)

/-- Store a signed number in a register, saturated to 32 bits. -/
def wriSat (a : Nat) (v : Int) : State :=
  s.wr a (BitVec.ofInt 32 (max (-2147483648) (min 2147483647 v)))

/-- Store a number in a register, saturated to 32 bits. -/
def wrnSat (a v : Nat) : State := s.wr a (BitVec.ofNat 32 (min v 0xFFFFFFFF))

/-- A field of the register at offset `a`. -/
def fld (a : Nat) (f : Bits) : Nat := s.rdn a / 2 ^ f.lo % 2 ^ f.len

/-- Store a number in a field of a register, leaving its other bits. -/
def put (a : Nat) (f : Bits) (v : Nat) : State :=
  let w := s.rdn a
  s.wrn a (w - (w / 2 ^ f.lo % 2 ^ f.len) * 2 ^ f.lo + (v % 2 ^ f.len) * 2 ^ f.lo)

/-- A bit of a register. -/
def bit (a i : Nat) : Bool := (s.rdn a).testBit i

/-- Whether a field of a register is 1 (for one-bit fields). -/
def on (a : Nat) (f : Bits) : Bool := s.fld a f == 1

/-- Store a bit of a register. -/
def putBit (a i : Nat) (b : Bool) : State := s.put a ⟨i, 1⟩ b.toNat

/-- A 64-bit register pair, `a` the offset of its _LO half (R10). -/
def rd64 (a : Nat) : Nat := s.rdn a + s.rdn (a + 4) * 2 ^ 32

/-- A 64-bit register pair as a signed number. -/
def rd64i (a : Nat) : Int := sgn 64 (s.rd64 a)

/-- Store a 64-bit register pair, modulo 2^64. -/
def wr64 (a v : Nat) : State := (s.wrn a v).wrn (a + 4) (v / 2 ^ 32)

/-- Store a signed number in a 64-bit register pair. -/
def wr64i (a : Nat) (v : Int) : State := s.wr64 a (uns 64 v)

/-- Count one in a field that saturates. -/
def incSat (a : Nat) (f : Bits) : State := s.put a f (min (s.fld a f + 1) (2 ^ f.len - 1))

/-- Add to a field that saturates. -/
def addSat (a : Nat) (f : Bits) (n : Nat) : State := s.put a f (min (s.fld a f + n) (2 ^ f.len - 1))

/-- Count one in a 32-bit counter register that saturates. -/
def countSat (a : Nat) : State := s.wrn a (min (s.rdn a + 1) 0xFFFFFFFF)

/-- Add to a 32-bit counter register that saturates. -/
def countSatBy (a n : Nat) : State := s.wrn a (min (s.rdn a + n) 0xFFFFFFFF)

/-- Count one in a field that wraps. -/
def incWrap (a : Nat) (f : Bits) : State := s.put a f (s.fld a f + 1)

/-- Offset `a` lies in the page of number `p`. -/
def inPage (p a : Nat) : Bool := a / 0x10000 == p

/-- The value a register keeps when its block is reset: its RW/S bits, its reset value elsewhere (R12). -/
def keepRws (a : Nat) (w : Word) : Word :=
  match regDef a with
  | some r => (w &&& BitVec.ofNat 32 r.rws) ||| (regReset a &&& ~~~(BitVec.ofNat 32 r.rws))
  | none => regReset a

/-- Reset the registers that `p` names, but for their RW/S bits. -/
def resetRegs (p : Nat → Bool) : State :=
  s.regs.foldl (fun (t : State) (e : Nat × Word) => if p e.1 then t.wr e.1 (keepRws e.1 e.2) else t) s

/-- The link state of port `n`: 0 OFF, 1 GATED, 2 DOWN, 3 TRAINING, 4 UP (R261). -/
def linkState (n : Nat) : Nat := s.fld (Reg.lineStatus n) Fld.lineStatus_LINK_STATE

/-- GRID edges in `us` microseconds. -/
def gridUs (us : Nat) : Nat := 625 * us

/-- Port `n` is UP (R261). -/
def lineUp (n : Nat) : Bool := s.linkState n == 4

/-- Write a run of words to consecutive registers. -/
def wrRun : State → Nat → List Word → State
  | s, _, [] => s
  | s, a, v :: vs => wrRun (s.wr a v) (a + 4) vs

/-- A free value of width `w` and the state that has drawn it (log entry 1). -/
def fresh (w : Nat) : BitVec w × State := (Config.freeValue w s.free, { s with free := s.free + 1 })

/-- The state after drawing one free value. -/
def drawn : State := { s with free := s.free + 1 }

/-- Record an output. -/
def send (o : Output) : State := { s with sent := s.sent ++ [o] }

/-- A strobe of fault source `n` with its detail, held until the next collector tick (R519). -/
def raiseFault (n detail : Nat) : State :=
  { s with fault := { s.fault with strobes := s.fault.strobes ++ [(n, detail, false)] } }

/-- The live level of fault source `n` (R519). -/
def faultLive (n : Nat) : Bool := if n < 32 then s.bit Reg.faultLiveLo n else s.bit Reg.faultLiveHi (n - 32)

/-- Put the live level of fault source `n`. -/
def putLive (n : Nat) (b : Bool) : State :=
  if n < 32 then s.putBit Reg.faultLiveLo n b else s.putBit Reg.faultLiveHi (n - 32) b

/-- A level of fault source `n` rises with `detail` (R519, R520): one event, and the level stays live until it ends. -/
def raiseHeld (n detail : Nat) : State :=
  if s.faultLive n then s
  else
    let s := (s.putLive n true).raiseFault n detail
    { s with fault := { s.fault with prevLive := s.fault.prevLive ||| 2 ^ n } }

/-- The level of fault source `n` falls (R519). -/
def dropLevel (n : Nat) : State :=
  let s := s.putLive n false
  { s with fault := { s.fault with prevLive := s.fault.prevLive - (s.fault.prevLive &&& 2 ^ n) } }

/-- Whether fault source `n` is latched (R520). -/
def faultLatched (n : Nat) : Bool :=
  if n < 32 then s.bit Reg.faultStatusLo n else s.bit Reg.faultStatusHi (n - 32)

/-- Present an event of interrupt source `n` to the controller (R537); INTC_SOURCE_EVENT takes it. -/
def raiseIrq (n : Nat) : State := { s with intc := { s.intc with raised := s.intc.raised ++ [n] } }

/-- Present an event of interrupt source `n` when `b` holds. -/
def raiseIrqIf (b : Bool) (n : Nat) : State := if b then s.raiseIrq n else s

/-- Strobe fault source `n` when `b` holds. -/
def raiseFaultIf (b : Bool) (n detail : Nat) : State := if b then s.raiseFault n detail else s

end State

namespace Fifo

/-- Word 0 of an entry with its SEQ in [31:16] and OVERRUN in bit 2 (R553, R554). -/
def stamp (seq : Nat) (ovr : Bool) (w0 : Word) : Word :=
  w0 ||| BitVec.ofNat 32 (seq % 65536 * 65536 + ovr.toNat * 4)

/-- Offer an entry to a FIFO of `depth` entries (R551, R553): written with its SEQ when there is room, otherwise lost.
The Bool answered is true when the entry was lost. -/
def push (depth : Nat) (q : Fifo) (e : List Word) : Fifo × Bool :=
  if q.entries.length < depth then
    ({ q with entries := q.entries ++ [match e with | [] => [] | w :: ws => stamp q.seq q.ovr w :: ws],
              seq := (q.seq + 1) % 65536, ovr := false }, false)
  else ({ q with seq := (q.seq + 1) % 65536, ovr := true, lost := min (q.lost + 1) 65535 }, true)

/-- Read word 0 (R551): removes and latches the oldest entry; on an empty FIFO the last entry again, with UNDERRUN
(bit 3) set.  Answers the value read. -/
def pop (width : Nat) (q : Fifo) : Word × Fifo :=
  match q.entries with
  | e :: es => (e.headD 0, { q with entries := es, last := e })
  | [] =>
    let l := if q.last.isEmpty then List.replicate width 0 else q.last
    (l.headD 0 ||| 8, q)

/-- Whether a change of fill from `a` to `b` crosses `level` upward (R552). -/
def crosses (level a b : Nat) : Bool := a ≤ level && level < b

/-- Empty a FIFO at a reset (R553): SEQ restarts at 0 and the next entry carries OVERRUN if any entry was discarded. -/
def empty (q : Fifo) : Fifo :=
  { entries := [], seq := 0, ovr := !q.entries.isEmpty, lost := 0, last := [] }

end Fifo

/-- Post an entry of type `ty`, of the instance `inst` of its block, to the EVT FIFO: the entries of one GRID edge go in by TYPE, then by instance
(R555). -/
def State.evtPush (s : State) (ty inst : Nat) (w1 : Word) : State :=
  let before (e : Nat × Nat × Word) : Bool := decide (e.1 < ty) || (e.1 == ty && decide (e.2.1 ≤ inst))
  let q := s.intc.evtDue
  { s with intc := { s.intc with evtDue := q.filter before ++ [(ty, inst, w1)] ++ q.filter fun e => !before e } }

/-- An entry reaches the EVT FIFO (R554): interrupt 0 at a crossing of the level, fault 40 when full. -/
def State.evtWrite (s : State) (ty : Nat) (w1 : Word) : State :=
  let r := Fifo.push 1024 s.intc.evt [BitVec.ofNat 32 (ty * 4096), w1]
  let rise := Fifo.crosses (s.rdn Reg.evtCtrl % 2048) s.intc.evt.entries.length r.1.entries.length
  let s := { s with intc := { s.intc with evt := r.1 } }
  if r.2 then s.raiseFault 40 0 else s.raiseIrqIf rise 0

/-- The GRID period ends: its entries go into the EVT FIFO (R555). -/
def State.evtFlush (s : State) : State :=
  s.intc.evtDue.foldl (fun (t : State) (e : Nat × Nat × Word) => t.evtWrite e.1 e.2.2) { s with intc := { s.intc with evtDue := [] } }

/-- Count a violation (R588): the first since CLR is recorded with its kind (R589), port, direction, BAR and offset. -/
def State.violation (s : State) (kind : Nat) (p : Port) (write : Bool) (bar2 : Bool) (addr : Nat) : State :=
  let s := s.wrn Reg.dbgViolCount (min (s.rdn Reg.dbgViolCount + 1) 65535)
  if s.bit Reg.dbgViolInfo 31 then s
  else
    let port := match p with | .pcie => 0 | .spi => 1
    (s.wrn Reg.dbgViolAddr addr).wrn Reg.dbgViolInfo (2 ^ 31 + kind * 2 ^ 20 + write.toNat * 2 ^ 16 + port * 4096 + bar2.toNat)

/-- The level of each control pin that the state calls for: INT_B while a PIN target is POSTED (R541), NMI_B (R531), ERR_B while a grave fault
is latched, HOLD is 1 or its minimum width runs (R530), BYP_HB (R512), GNSS_ANT_EN (R252), GNSS_SCLK (R231), and the VID code (R565).  With PORESET_B low all are
released (R64, R617). -/
def State.pinsNow (s : State) : PinSt :=
  { intB := s.running && (List.range 4).any fun t => (s.intc.tgt.get {} t).posted.isSome && s.bit (Reg.intcTgtCfg t) 8,
    nmiB := s.running && s.fault.nmi,
    errB := s.running && ([15, 17, 18, 19, 33, 39, 43].any s.faultLatched || s.bit Reg.faultEpin 24 || s.fault.errMin),
    bypHb := s.running && s.bit Reg.chainStatus 6 && !s.chain.noIo && !([19, 33, 39, 43].any s.faultLatched),
    antEn := s.running && s.bit Reg.gnssAntStatus 3,
    gnssSclk := s.running && s.gnss.mode == 1 && s.bit Reg.gnssStatus 0,
    vid := if s.running then s.rdn Reg.vidStatus % 64 else 16 }

/-- Drive the control pins as the state calls for. -/
def State.showPins (s : State) : State := { s with pins := s.pinsNow }

/-- Complete a command with the next state, its control pins driven as it calls for. -/
abbrev done (s : State) : Res := .next s.showPins

/-- The state a command leaves: the one it answers, or `s` where it stops. -/
def Res.after (r : Res) (s : State) : State := match r with | .next t => t | _ => s

end Sys2Proof.Machine
end

