-- ==== Sys2Proof/Machine/StructImage.lean ====
section
/-!
DEFINITION. The structure image: its header, sections and parameter records, and the checks of R43 in their order.
-/

namespace Sys2Proof.Machine

/-- One section table entry (R38). -/
structure Section where
  type : Nat
  region : Nat
  sflags : Nat
  off : Nat
  len : Nat
  crc : Nat
deriving DecidableEq, Repr

namespace Image

/-- SECTION_COUNT (R36). -/
def count (im : List Byte) : Nat := leAt im 0x10 2
/-- FLAGS.PARTIAL (R36). -/
def partialImage (im : List Byte) : Bool := (leAt im 0x12 2).testBit 0
/-- REGION_MASK (R36). -/
def regionMask (im : List Byte) : Nat := leAt im 0x14 4
/-- ROLLBACK (R36). -/
def rollback (im : List Byte) : Nat := leAt im 0x18 4
/-- IMAGE_SIZE (R36). -/
def size (im : List Byte) : Nat := leAt im 0x0C 4
/-- SIGNER_KEY (R36). -/
def signerKey (im : List Byte) : BitVec 256 := BitVec.ofNat 256 (leAt im 0x50 32)
/-- IMAGE_DIGEST (R36). -/
def digest (im : List Byte) : BitVec 256 := BitVec.ofNat 256 (leAt im 0x30 32)

/-- Section table entry `k` (R38). -/
def sectionAt (im : List Byte) (k : Nat) : Section :=
  let o := 0x80 + 16 * k
  { type := leAt im o 2, region := leAt im (o + 2) 1, sflags := leAt im (o + 3) 1,
    off := leAt im (o + 4) 4, len := leAt im (o + 8) 4, crc := leAt im (o + 12) 4 }

/-- The section table. -/
def sections (im : List Byte) : List Section := (List.range (count im)).map (sectionAt im)

/-- The octets of a section. -/
def content (im : List Byte) (x : Section) : List Byte := slice im x.off x.len

/-- The sections of one type. -/
def ofType (im : List Byte) (t : Nat) : List Section := (sections im).filter (·.type == t)

/-- The words of a string of octets, little-endian. -/
def words (bs : List Byte) : List Nat := (List.range (bs.length / 4)).map fun i => leAt bs (4 * i) 4

/-- The records of a PARAMS section (R40); `none` when a record runs past the end or names 0 or more than 15 words.
`fuel` bounds the number of records by the octets of the section. -/
def records : Nat → List Byte → Option (List Param)
  | _, [] => some []
  | 0, _ => none
  | fuel + 1, bs =>
    let n := leAt bs 3 1
    if bs.length < 4 + 4 * n ∨ n = 0 ∨ 15 < n then none
    else match records fuel (bs.drop (4 + 4 * n)) with
      | none => none
      | some ps => some ({ id := leAt bs 0 2, inst := leAt bs 2 1, words := (List.range n).map fun i => leAt bs (4 + 4 * i) 4 } :: ps)

/-- All parameter records of an image. -/
def params (im : List Byte) : Option (List Param) :=
  (ofType im 0x0001).foldr (fun x acc => do
    let a ← records x.len (content im x)
    let b ← acc
    pure (a ++ b)) (some [])

/-- The LOCKS pairs of an image: register offset and field mask (R39). -/
def locks (im : List Byte) : List (Nat × Nat) :=
  (ofType im 0x0004).flatMap fun x =>
    (List.range (x.len / 8)).map fun i => (leAt im (x.off + 8 * i) 4, leAt im (x.off + 8 * i + 4) 4)

/-- The ROUTE_INIT records of an image (R634): index, word 0, word 1. -/
def routeInit (im : List Byte) : List (Nat × Nat × Nat) :=
  (ofType im 0x0003).flatMap fun x =>
    (List.range (x.len / 12)).map fun i =>
      (leAt im (x.off + 12 * i) 4, leAt im (x.off + 12 * i + 4) 4, leAt im (x.off + 12 * i + 8) 4)

/-- The FACET_MEM section of a cluster (R39).  DESIGN CHOICE (log entry 51): of two for one cluster the first counts. -/
def facetMem (im : List Byte) (cluster : Nat) : Option (List Byte) :=
  ((ofType im 0x0002).find? (·.region == cluster)).map (content im)

end Image

/-! ### The parameters (R41) -/

/-- How many instances a parameter has; 0 for an unknown ID. -/
def paramInstances : Nat → Nat
  | 0x01 | 0x02 | 0x03 | 0x04 => 1
  | 0x10 => 4
  | 0x20 => 48
  | 0x30 | 0x31 => 256
  | 0x38 | 0x39 | 0x40 | 0x41 | 0x50 | 0x60 | 0x61 => 1
  | 0x70 => 25
  | _ => 0

/-- The region a parameter belongs to; 0xFF for global. -/
def paramRegion (id inst : Nat) : Nat :=
  match id with
  | 0x10 => 18
  | 0x20 => 19
  | 0x30 | 0x31 => inst / 16
  | 0x38 => 16
  | 0x39 => 17
  | _ => 0xFF

/-- The default of a parameter's word. -/
def paramDefault : Nat → Nat
  | 0x01 => 1
  | 0x02 => 3
  | _ => 0

/-- Whether a parameter word lies in its stated range, with no bit outside its fields (R41, R42). -/
def paramWordOk (id w : Nat) : Bool :=
  match id with
  | 0x01 | 0x02 => w ≤ 3
  | 0x03 => w ≤ 128
  | 0x04 => w ≤ 256
  | 0x10 => w ≤ 5
  | 0x20 => w &&& 0x3F == w && w % 16 ≤ 6 && w / 16 ≤ 2
  | 0x30 => w &&& 0x131 == w
  | 0x31 => w &&& 0x83FFFFFF == w
  | 0x38 => w ≤ 16384
  | 0x39 => w ≤ 512
  | 0x40 => w ≤ 16
  | 0x41 => w ≤ 31
  | 0x50 => w &&& 0xD == w
  | 0x60 | 0x61 => w ≤ 1
  | 0x70 => w ≤ 2
  | _ => false

/-- The words of a parameter in a list of records. -/
def paramWords (ps : List Param) (id inst : Nat) : List Nat :=
  match ps.find? fun p => p.id == id && p.inst == inst with
  | some p => p.words
  | none => []

/-- Word 0 of a parameter in a list of records, its default where none names it. -/
def paramIn (ps : List Param) (id inst : Nat) : Nat := (paramWords ps id inst).headD (paramDefault id)

/-- The guaranteed task budget of a rate code of a domain, bundles per SP (R414); `dom` 0 is A, 1 is B. -/
def guaranteedBudget (dom rate : Nat) : Nat :=
  match dom, rate with
  | 0, 0 => 22102
  | 0, 1 => 10644
  | 0, 2 => 4915
  | 1, 0 => 24129
  | 1, 1 => 11657
  | 1, 2 => 5421
  | _, _ => 0

/-- The octet offset of a lane's memories in a FACET_MEM section: 80 KiB a lane, program, X and Y in that order.
DESIGN CHOICE (log entry 5): the spec does not give the section's layout. -/
def facetMemOffset (lane : Nat) : Nat := lane % 16 * 81920

/-- The bundle a FACET_MEM section holds at an address of a lane's program memory; none where the section ends before it. -/
def imageBundle (im : List Byte) (lane addr : Nat) : Option Nat :=
  match Image.facetMem im (lane / 16) with
  | none => none
  | some bs =>
    let o := facetMemOffset lane + 8 * addr
    if bs.length < o + 8 then none else some (leAt bs o 8)

/-- A task word of FACET_n_TASKS passes the code length test of R42, read from the image's descriptor. -/
def taskCodeOk (im : List Byte) (lane w : Nat) : Bool :=
  let entry := w / 2 ^ 15 % 2048
  let len := match imageBundle im lane entry with
    | some b => b / 2 ^ 53
    | none => 0
  1 ≤ len && len ≤ 2046 && entry + 2 + len ≤ 2048

/-- The tasks of a lane lie in one used domain and their budgets fit its guaranteed task budget (R42, R408, R414). -/
def laneBudgetOk (ps : List Param) (ws : List Nat) : Bool :=
  match ws with
  | [] => true
  | w :: _ =>
    let dom := w / 2 ^ 31
    let rate := paramIn ps (1 + dom) 0
    ws.all (fun x => x / 2 ^ 31 == dom) && rate != 3 &&
      decide ((ws.map (· % 2 ^ 15)).foldl (· + ·) 0 ≤ guaranteedBudget dom rate)

/-- No record names a parameter or an instance twice (R40). -/
def noRepeat : List Param → Bool
  | [] => true
  | p :: ps => !ps.any (fun q => q.id == p.id && q.inst == p.inst) && noRepeat ps

/-- The channels a serial input of a personality counts in domain X (R362). -/
def inputChannels : Nat → Nat
  | 1 => 64
  | 3 => 2
  | 5 => 16
  | _ => 0

/-- The serial pins a structure sets: pin, personality and domain. -/
def serialPins (all : List Param) : List (Nat × Nat × Nat) :=
  (List.range 48).map fun n => (n, paramIn all 0x20 n % 16, paramIn all 0x20 n / 16)

/-- SA_n_PERSONALITY lies in the range of R362: AES3 on an even pin with its odd pin unused, no MADI at 176.4 or 192 kHz,
the TDM pins of a bank in one domain, and no TDM output in a bank with a TDM input in domain X. -/
def serialRangeOk (all : List Param) : Bool :=
  let pins := serialPins all
  pins.all fun x =>
    let (n, p, d) := x
    (p == 0 || n % 2 == 0 || !(p ∈ [3, 4] || paramIn all 0x20 (n - 1) % 16 ∈ [3, 4])) &&
    !(p ∈ [1, 2] && d ≤ 1 && paramIn all (1 + d) 0 == 2) &&
    !(p ∈ [5, 6] && pins.any fun y =>
        y.1 / 8 == n / 8 && ((y.2.1 ∈ [5, 6] && y.2.2 != d) || (p == 6 && y.2.1 == 5 && y.2.2 == 2)))

/-- Check 12 of R43: the parameters, with `ps` the image's records and `all` the records in force after it.  DESIGN CHOICE (log entry 51): an unknown
parameter ID fails it, as a malformed record does. -/
def paramsOk (im : List Byte) (ps all : List Param) : Bool :=
  noRepeat ps &&
  ps.all (fun p => p.inst < paramInstances p.id && p.words.all (paramWordOk p.id) && (p.id == 0x31 || p.words.length == 1)) &&
  -- exactly one SPARE lane
  ((List.range 256).filter fun n => paramIn all 0x30 n / 16 % 4 == 1).length == 1 &&
  -- LENDABLE only on CPLX AUDIO lanes
  (List.range 256).all (fun n =>
    let w := paramIn all 0x30 n
    !(w.testBit 8) || (w % 2 == 1 && w / 16 % 4 == 0)) &&
  -- serial outputs not in domain X or an unused domain
  (List.range 48).all (fun n =>
    let w := paramIn all 0x20 n
    let out := w % 16 ∈ [2, 4, 6]
    let dom := w / 16
    !out || (dom != 2 && paramIn all (1 + dom) 0 != 3)) &&
  -- the pins' own ranges, and inputs in domain X within ASRC_CHANNELS (R362)
  serialRangeOk all &&
  decide (((serialPins all).filter (·.2.2 == 2) |>.map fun x => inputChannels x.2.1).sum ≤ paramIn all 0x03 0) &&
  -- FLAT has at most two targets
  (let w := paramIn all 0x50 0
   w.testBit 0 || w / 4 ≤ 1) &&
  -- the tasks of the image
  (ps.filter (·.id == 0x31)).all (fun p =>
    p.words.all (taskCodeOk im p.inst) &&
    (p.words.isEmpty || laneBudgetOk all p.words || paramIn all 0x30 p.inst / 16 % 4 == 2)) &&
  -- every section of ROUTE_INIT (R634)
  (Image.ofType im 3).all (fun x => x.len % 12 == 0) &&
  (let rs := Image.routeInit im
   rs.all (fun r => r.1 < paramIn all 0x38 0 && r.2.1 &&& (2 ^ 32 - 1 - 0xC3FFFFFF) == 0 && r.2.2 < 2 ^ 24) &&
   (rs.map (·.1)).Nodup)

/-- Whether two half-open ranges overlap. -/
def overlaps (a b : Section) : Bool := 0 < a.len && 0 < b.len && a.off < b.off + b.len && b.off < a.off + a.len

/-- No two sections of a list overlap. -/
def noOverlap : List Section → Bool
  | [] => true
  | x :: xs => !xs.any (overlaps x) && noOverlap xs

/-- Check 4 of R43.  DESIGN CHOICE (log entry 51): an IMAGE_SIZE or a SECTION_COUNT beyond its figure in R36, a section whose OFFSET is no multiple
of 64, and one that overlaps the header or the table, which the check does not list, fail it too. -/
def layoutOk (im : List Byte) : Bool :=
  let ss := Image.sections im
  Image.size im == im.length && Image.size im ≤ 16777216 && 1 ≤ Image.count im && Image.count im ≤ 64 &&
  decide (0x80 + 16 * Image.count im ≤ im.length - 64) &&
  ss.all (fun x => 0x80 + 16 * Image.count im ≤ x.off && x.off + x.len ≤ im.length - 64 && x.off % 64 == 0 &&
    x.type ∈ [0x0001, 0x0002, 0x0003, 0x0004, 0x0010, 0x0011] && (x.region ≤ 19 || x.region == 0xFF) && x.sflags ≤ 1) &&
  noOverlap ss &&
  leAt im 0x1C 4 == 0 && leAt im 0x7C 4 == 0 && leAt im 0x12 2 ≤ 1 && Image.regionMask im < 2 ^ 20 &&
  (if Image.partialImage im then Image.regionMask im != 0 else Image.regionMask im == 0xFFFFF)

/-- The records in force after an image is applied: a full image's own; of a partial one, the old records of the regions
it does not touch and the image's (R40, R55). -/
def mergeParams (old new : List Param) (mask : Nat) (full : Bool) : List Param :=
  if full then new
  else old.filter (fun p => let r := paramRegion p.id p.inst
                            r == 0xFF || !mask.testBit r) ++ new

/-- The checks of R43 in order: the error code of the first that fails, 0 when all pass.  `qspi` tells a QSPI fetch. -/
def checkImage (s : State) (im : List Byte) (qspi : Bool) : Nat :=
  let full := !Image.partialImage im
  let mask := Image.regionMask im
  if qspi && (im.take 128).all (· == 0xFF) then 12
  else if !(slice im 0 4 == [0x54, 0x53, 0x53, 0x49] && leAt im 4 2 == 1 && leAt im 6 2 == 128) then 1
  else if !(leAt im 8 2 == 0x9256 && leAt im 0xA 1 ≤ 0xA2 && 0xA2 ≤ leAt im 0xB 1) then 2
  else if crc32 (im.take 0x78) != leAt im 0x78 4 then 3
  else if !layoutOk im then 1
  else if !(Image.sections im).all (fun x => crc32 (Image.content im x) == x.crc) then 4
  else if Config.sha256 (slice im 0x80 (im.length - 64 - 0x80)) != Image.digest im then 5
  else if !Config.ed25519Verify (Image.signerKey im) (im.take 0x7C) (BitVec.ofNat 512 (leAt im (im.length - 64) 64)) then 6
  else if !(s.otp.owners.isEmpty || Config.sha256 (slice im 0x50 32) ∈ s.otp.owners) then 7
  else if Image.rollback im < s.otp.rollback then 8
  else if Image.partialImage im && !(s.loader.built && leAt im 0x70 8 == s.loader.digest.toNat % 2 ^ 64
      && (Image.sections im).all (fun x => x.region ≤ 19 && mask.testBit x.region)
      && ((Image.params im).getD []).all (fun p => let r := paramRegion p.id p.inst
                                                   r ≤ 19 && mask.testBit r)
      && s.on Reg.dramStatus Fld.dramStatus_TRAINED) then 10
  else if full && s.loader.built then 11
  else match Image.params im with
    | none => 9
    | some ps => if paramsOk im ps (mergeParams s.loader.params ps mask full) then 0 else 9

namespace State

/-- Region `r` is being applied (R53). -/
def regionBusy (s : State) (r : Nat) : Bool := s.bit Reg.structRegionBusy r

/-- Region `r` is silent: it is being applied, or an error of its configuration memory has no copy to repair it from (R56, R57). -/
def regionMuted (s : State) (r : Nat) : Bool := s.loader.muted.testBit r

/-- Word 0 of a structure parameter as built, its default where no record names it; 0 with no structure (R12, R41). -/
def param (s : State) (id inst : Nat) : Nat :=
  if s.loader.built then paramIn s.loader.params id inst else 0

/-- The rate code of a domain as built: 3 with no structure or for an unused domain (R41). -/
def domainRate (s : State) (dom : Nat) : Nat :=
  if s.loader.built then paramIn s.loader.params (1 + dom) 0 else 3

end State

end Sys2Proof.Machine
end

