-- ==== Sys2Proof/Machine/Time.lean ====
section
/-!
DEFINITION. The time bases (R199–R228): the GRID edge, full and tick times, snapshots, UTC offset and leap table, the
servos of TB_1..7, step requests, compare units and the TBEV outputs.
-/

namespace Sys2Proof.Machine

/-- One second in 2^-48 ns. -/
def secondFine : Nat := 1000000000 * 2 ^ 48

/-- One second in ticks of 2^-16 ns (R200). -/
def secondTicks : Nat := 65536000000000

/-- Range of a full time value: SECONDS has 48 bits (R199). -/
def timeRange : Nat := 2 ^ 48 * secondFine

namespace State

variable (s : State)

/-- Time base `n`. -/
def tb (n : Nat) : TimeBase := s.time.tb.get {} n

/-- Change the time block. -/
def setTime (f : TimeSt → TimeSt) : State := { s with time := f s.time }

/-- Change time base `n`. -/
def setTb (n : Nat) (f : TimeBase → TimeBase) : State :=
  s.setTime fun t => { t with tb := t.tb.set {} n (f (t.tb.get {} n)) }

/-- The full time of time base `n` in ticks, not wrapped. -/
def fullTicks (n : Nat) : Nat := (s.tb n).t / 2 ^ 32

/-- The tick time of time base `n` (R200). -/
def tick (n : Nat) : Nat := s.fullTicks n % 2 ^ 64

/-- SECONDS of time base `n` (R199). -/
def seconds (n : Nat) : Nat := (s.tb n).t / secondFine

/-- NANOSECONDS of time base `n` (R199). -/
def nanos (n : Nat) : Nat := (s.tb n).t % secondFine / 2 ^ 48

/-- FRACNS of time base `n` (R199). -/
def fracNs (n : Nat) : Nat := (s.tb n).t % 2 ^ 48 / 2 ^ 32

/-- A tick difference `now − then` as a signed 64-bit value (R100, R220). -/
def tickDiff (now before : Nat) : Int := sgn 64 (now + 2 ^ 64 - before % 2 ^ 64)

end State

/-- A full time value in 2^-48 ns, wrapped to 48 bits of seconds. -/
def wrapTime (t : Int) : Nat := (t % timeRange).toNat

/-! ### The GRID edge -/

/-- The ticks TB_0 advances at GRID edge `e`: 524,288 in every five (R201). -/
def edgeTicks (e : Nat) : Nat := (e + 1) * 524288 / 5 - e * 524288 / 5

namespace State

variable (s : State)

/-- No oscillator is in use, so there is no bypass clock (R151). -/
def noOsc : Bool := s.sel.oscNone

/-- The deliberate motion of TB_0 up to TB_0 ticks `x` of the second that runs, a pull included (R208). -/
def movedAt (x : Int) : Int := s.time.moved + rdiv (s.time.pullRate * (max x s.time.pullT - s.time.pullT)) secondTicks

/-- The deliberate motion of TB_0 so far. -/
def movedNow : Int := s.movedAt (s.fullTicks 0)

/-- Count the motion of the pull up to now. -/
def settleMotion : State := s.setTime fun t => { t with moved := s.movedNow, pullT := s.fullTicks 0 }

/-- The unwrapped TB_0 time without deliberate motion, in ticks. -/
def monitorNow : Int := s.fullTicks 0 - s.movedNow

/-- TB_0_FADJ reads the steering in force relative to nominal, in 2^-44: division by 1 + f, and a pull's phase rate (R119, R208). -/
def showSteer : State :=
  let den : Int := (1000000000000 + s.time.coast) * secondTicks
  s.wriSat (Reg.tbFadj 0) (rdiv ((1000000000000 * (secondTicks + s.time.pullRate) - den) * 2 ^ 44) den)

/-- The advance of TB_0 for one OSC edge, in 2^-48 ns (R23, R119, R208, R209): the nominal period divided by 1 + f, f the model frequency
of this second, with the phase rate of a pull. -/
def bypassAdvance : Nat :=
  let f := s.time.coast
  let p : Int := 1000000000 * 2 ^ 48 * 1000000000000 / ((oscHz (s.fld Reg.structStraps ⟨2, 2⟩) : Int) * (1000000000000 + f))
  (p + p * s.time.pullRate / secondTicks).toNat

/-- The advance of TB_0 at this GRID edge, in 2^-48 ns (R201). -/
def edgeAdvance : Nat :=
  if s.on (Reg.synStatus 0) Fld.synStatus_BYPASS then (if s.noOsc then 0 else s.bypassAdvance)
  else edgeTicks (s.edges % 5) * 2 ^ 32

/-- The advance of time base `n` when TB_0 advances by `a` (R201): the factor 1 + FADJ × 2^-44 through the hidden bits. -/
def followAdvance (n a : Nat) : Nat :=
  if n = 0 then a else ((a : Int) * (2 ^ 44 + s.rdi (Reg.tbFadj n)) / 2 ^ 44).toNat

/-- The GRID period in 0.4 ns (R15, R23): four at 625 MHz, and the nominal period of OSC on the bypass clock. -/
def edgePeriod : Nat :=
  if s.on (Reg.synStatus 0) Fld.synStatus_BYPASS then (if s.noOsc then 0 else 2500000000 / oscHz (s.fld Reg.structStraps ⟨2, 2⟩)) else 4

/-- One GRID edge: every time base advances (R199, R201), and its period elapses. -/
def gridEdge : State :=
  let a := s.edgeAdvance
  let s' := (List.range 8).foldl (fun t n => t.setTb n fun b => { b with t := (b.t + s.followAdvance n a) % timeRange }) s
  let e := s.edgeRem + s.edgePeriod
  { s' with edges := s.edges + e / 4, edgeRem := e % 4 }

/-! ### Snapshots (R202) -/

/-- Capture time base `n` in its SNAP registers. -/
def snapOne (n : Nat) : State :=
  ((((s.wr64 (Reg.tbSnapSecLo n) (s.seconds n)).wrn (Reg.tbSnapNs n) (s.nanos n)).wrn (Reg.tbSnapFrac n)
    (s.fracNs n)).wr64 (Reg.tbSnapTickLo n) (s.tick n))

end State

/-- TIME_SNAP (R202): all eight time bases are captured at one GRID edge. -/
def execTimeSnap (s : State) : Res :=
  done ((List.range 8).foldl (fun t n => t.snapOne n) s)

/-! ### UTC offset and leap table (R203–R206) -/

namespace State

variable (s : State)

/-- UTC_OFFSET.OFFSET, signed seconds (R203). -/
def utcOffset : Int := sgn 16 (s.rdn Reg.utcOffset % 65536)

/-- The delta a staged entry's DELTA code gives; 3 is invalid. -/
def leapDelta (code : Nat) : Int := if code = 1 then 1 else if code = 2 then -1 else 0

/-- The staged entries up to the first with DELTA 0 (R204): T and DELTA code. -/
def leapStaged : List (Nat × Nat) :=
  ((List.range 8).map fun k =>
    (s.rdn (Reg.leapLo k) + s.fld (Reg.leapHi k) Fld.leapHi_SEC_HI * 2 ^ 32, s.fld (Reg.leapHi k) Fld.leapHi_DELTA)).takeWhile
      fun e => e.2 != 0

/-- The spacing and order checks of R204 on consecutive entries. -/
def leapOrdered : List (Nat × Nat) → Bool
  | (t, _) :: (u, d) :: es => t + 86400 ≤ u && leapOrdered ((u, d) :: es)
  | _ => true

/-- Whether every entry falls at a UTC midnight (R204), `off` the offset before it. -/
def leapMidnight : Int → List (Nat × Nat) → Bool
  | _, [] => true
  | off, (t, d) :: es =>
    let off' := off + leapDelta d
    ((t : Int) - off') % 86400 == 0 && leapMidnight off' es

/-- The refusals of R204. -/
def leapRefused (es : List (Nat × Nat)) : Bool :=
  es.any (·.2 == 3) || !leapOrdered es || (match es with | [] => false | e :: _ => e.1 ≤ s.seconds 0) || !leapMidnight s.utcOffset es

/-- Apply every entry of the table with T at or before second `sec` (R203, R206). -/
def leapApply (sec : Nat) : State :=
  let due := s.time.leap.takeWhile (·.1 ≤ sec)
  let off := due.foldl (fun o e => o + e.2) s.utcOffset
  let s' := s.put Reg.utcOffset ⟨0, 16⟩ (uns 16 off)
  s'.setTime fun t => { t with leap := t.leap.drop due.length, applied := (due.map (·.1)).reverse ++ t.applied }

/-- LEAP_STATUS.PENDING (R205). -/
def leapPending : Nat :=
  match s.time.leap with
  | (t, d) :: _ => if t ≤ s.seconds 0 + 86400 then (if d = 1 then 1 else 2) else 0
  | [] => 0

end State

/-- LEAP_COMMIT (R204): 1 replaces the table by the staged entries, or refuses them with REJECT and fault 46; any other value is ignored. -/
def execLeapCommit (value : Word) (s : State) : Res :=
  done (if value = 1 then
    let es := s.leapStaged
    if s.leapRefused es then (s.put Reg.leapStatus Fld.leapStatus_REJECT 1).raiseFault 46 0
    else (s.put Reg.leapStatus Fld.leapStatus_REJECT 0).setTime fun t =>
      { t with leap := es.map fun e => (e.1, State.leapDelta e.2) }
  else s)

/-! ### Compare units and event outputs (R220–R224) -/

namespace State

variable (s : State)

/-- Drive ball TBEV_m for a firing (R224). -/
def tbevFire (m : Nat) : State :=
  let b : TbevSt := s.time.tbev.get {} m
  let b' : TbevSt := if s.on (Reg.tbevCfg m) Fld.tbevCfg_TOGGLE then { b with level := !b.level } else ⟨true, some s.monitorNow⟩
  s.setTime fun t => { t with tbev := t.tbev.set {} m b' }

/-- Drive every enabled TBEV output that names unit `k` of time base `n` (R220, R224). -/
def tbevDrive (n k : Nat) : State :=
  (List.range 4).foldl (fun t m =>
    if t.on (Reg.tbevCfg m) Fld.tbevCfg_ENABLE && t.fld (Reg.tbevCfg m) Fld.tbevCfg_TB == n
        && t.fld (Reg.tbevCfg m) Fld.tbevCfg_CMP == k then t.tbevFire m else t) s

/-- Whether the target of unit `k` of time base `n` lies at or before the present tick (R220). -/
def cmpDue (n k : Nat) : Bool := 0 ≤ tickDiff (s.tick n) (s.rd64 (Reg.tbCmpTargetLo n k))

/-- A unit fires (R220, R222): MATCH, its interrupt, the outputs, and the next target or ARM cleared. -/
def cmpFire (n k : Nat) (late stepped : Bool) : State :=
  let period := s.rdn (Reg.tbCmpPeriod n k) * 65536
  let periodic := s.bit (Reg.tbCmpCtrl n k) 1 && period != 0
  let next := s.rd64 (Reg.tbCmpTargetLo n k) + period
  let behind := tickDiff (s.tick n) next
  let skip := if 0 ≤ behind then behind.toNat / period + 1 else 0
  let s1 := ((s.put (Reg.tbCmpStatus n k) Fld.tbCmpStatus_LATE late.toNat).put (Reg.tbCmpStatus n k)
    Fld.tbCmpStatus_STEPPED stepped.toNat).putBit (Reg.tbMatch n) k true
  let s2 := if periodic then
      (s1.wr64 (Reg.tbCmpTargetLo n k) (next + skip * period)).addSat (Reg.tbCmpStatus n k) Fld.tbCmpStatus_SKIPPED skip
    else (s1.putBit (Reg.tbCmpCtrl n k) 0 false).put (Reg.tbCmpStatus n k) Fld.tbCmpStatus_ARMED 0
  (s2.raiseIrqIf (s.bit (Reg.tbMatchEn n) k) (14 + n)).tbevDrive n k

/-- Disarm unit `k` of time base `n`. -/
def cmpDisarm (n k : Nat) : State :=
  (s.putBit (Reg.tbCmpCtrl n k) 0 false).put (Reg.tbCmpStatus n k) Fld.tbCmpStatus_ARMED 0

/-- Disarm the four units of time base `n`. -/
def cmpDisarmAll (n : Nat) : State := (List.range 4).foldl (fun t k => t.cmpDisarm n k) s

end State

/-- CMP_ARM (R221): arming an unarmed unit clears SKIPPED; a target in the past fires at once with LATE set. -/
def execCmpArm (n : Fin 8) (k : Fin 4) (periodic : Bool) (s : State) : Res :=
  done (
    let was := s.bit (Reg.tbCmpCtrl n k) 0
    let s1 := (s.putBit (Reg.tbCmpCtrl n k) 1 periodic).putBit (Reg.tbCmpCtrl n k) 0 true
    if was then s1
    else
      let s2 := (s1.put (Reg.tbCmpStatus n k) Fld.tbCmpStatus_ARMED 1).put (Reg.tbCmpStatus n k) Fld.tbCmpStatus_SKIPPED 0
      if s2.cmpDue n k then s2.cmpFire n k true false else s2)

/-- CMP_FIRE (R220, R222): an armed unit whose target is reached fires. -/
def execCmpFire (n : Fin 8) (k : Fin 4) (s : State) : Res :=
  done (if s.bit (Reg.tbCmpCtrl n k) 0 && s.cmpDue n k then s.cmpFire n k false false else s)

/-- One microsecond in ticks. -/
def usTicks : Nat := 65536000

namespace State

variable (s : State)

/-- The width of a pulse on TBEV_m has passed since its last firing (R224, R228). -/
def tbevDue (m : Nat) : Bool :=
  (s.time.tbev.get {} m).pulse.any fun x => decide (x + max 1 (s.fld (Reg.tbevCfg m) Fld.tbevCfg_WIDTH) * usTicks ≤ s.monitorNow)

/-- Ball TBEV_m goes low, with no pulse running. -/
def tbevLow (m : Nat) : State := s.setTime fun t => { t with tbev := t.tbev.set {} m {} }

end State

/-- TBEV_PULSE_END (R224): a pulse whose width has passed ends and the ball returns low. -/
def execTbevPulseEnd (m : Fin 4) (s : State) : Res :=
  done (if s.tbevDue m then s.tbevLow m else s)

/-! ### Step requests (R213) -/

namespace State

variable (s : State)

/-- Whether a step of time base `n` awaits its GRID edge. -/
def stepPending (n : Nat) : Bool := (s.tb n).req.isSome

/-- Request a step; a request while one is pending is ignored (R213). -/
def requestStep (n : Nat) (r : StepReq) : State :=
  if s.stepPending n then s
  else (s.setTb n fun b => { b with req := some r }).put (Reg.tbStatus n) Fld.tbStatus_STEP_PEND 1

end State

/-- TB_STEP (R213): the signed TB_n_STEP is captured as a step of the next GRID edge. -/
def execTbStep (n : Fin 8) (s : State) : Res :=
  done (s.requestStep n (.by (s.rd64i (Reg.tbStepLo n))))

/-- TB_SET (R213, R215): SET_SEC and SET_NS, limited to 999,999,999, are captured and every compare unit is disarmed. -/
def execTbSet (n : Fin 8) (s : State) : Res :=
  done (if s.stepPending n then s
  else
    ((s.requestStep n (.to (s.rdn (Reg.tbSetSecLo n) + s.rdn (Reg.tbSetSecHi n) % 65536 * 2 ^ 32)
      (min (s.rdn (Reg.tbSetNs n)) 999999999))).cmpDisarmAll n).put (Reg.tbStatus n) Fld.tbStatus_DISARMED 1)

/-! ### The servos of TB_1..7 (R210–R212) -/

/-- One LSB of FADJ, 2^-44, in the integrator's units of 10^-9 × 2^-52 ppb. -/
def fadjUnit : Int := 2 ^ 8 * 1000000000000000000

/-- The output limit FLIMIT in integrator units: 0–100,000 ppb (R226). -/
def State.flimit (s : State) (n : Nat) : Int := (min (s.rdn (Reg.tbFlimit n) % 131072) 100000 : Nat) * (2 ^ 52 * 1000000000)

/-- Clamp to a limit of either sign. -/
def clampI (l v : Int) : Int := max (-l) (min l v)

namespace State

variable (s : State)

/-- The servo source of time base `n`: none on TB_0, 6–15 act as 0 (R226, R228). -/
def tbSrc (n : Nat) : Nat :=
  let v := s.fld (Reg.tbCtrl n) Fld.tbCtrl_SRC
  if n = 0 ∨ 5 < v then 0 else v

/-- Store the servo integrator and show it in INTEG. -/
def setInteg (n : Nat) (i : Int) : State :=
  (s.setTb n fun b => { b with integ := i }).wriSat (Reg.tbInteg n) (rdiv i fadjUnit)

/-- An accepted offset of `e` ticks at tick time `at` reaches the servo of time base `n` (R211, R212). -/
def servoUpdate (n : Nat) (e : Int) (time : Nat) : State :=
  let s1 := (s.wr64i (Reg.tbErrLo n) e).put (Reg.tbStatus n) Fld.tbStatus_STATE 1
  if s.on (Reg.tbCtrl n) Fld.tbCtrl_STEP_EN && s.rdn (Reg.tbStepThr n) * 65536 < e.natAbs then
    (s1.requestStep n (.by e)).setTb n fun b => { b with lastOfs := some (if s.stepPending n then time else uns 64 (time + e)) }
  else
    let dt : Int := match (s.tb n).lastOfs with
      | none => 0
      | some p => min secondTicks (tickDiff time p)
    let integ := (s.tb n).integ + (s.rdn (Reg.tbKi n) % 65536) * e * dt
    let lim := s.flimit n
    let out := clampI lim (integ + (s.rdn (Reg.tbKp n) % 65536) * e * (2 ^ 20 * 1000000000))
    ((s1.setInteg n (clampI lim integ)).wriSat (Reg.tbFadj n) (rdiv out fadjUnit)).setTb n fun b => { b with lastOfs := some time }

end State

/-- Whether an offset's tick time is within the second before `now` (R100): 0 accepted, 1 stale, 2 future. -/
def ofsVerdict (now time : Nat) : Nat :=
  let d := State.tickDiff now time
  if d < 0 then 2 else if (secondTicks : Int) < d then 1 else 0

/-- TB_OFS_COMMIT (R210, R99, R100): with SRC HOST, a write of 1 hands the offset set to the servo when its time is neither stale nor future. -/
def execTbOfsCommit (n : Fin 8) (value : Word) (s : State) : Res :=
  done (if value = 1 ∧ s.tbSrc n = 5 ∧ ofsVerdict (s.tick n) (s.rd64 (Reg.tbOfsTimeLo n)) = 0 then
    s.servoUpdate n (s.rd64i (Reg.tbOfsLo n)) (s.rd64 (Reg.tbOfsTimeLo n))
  else s)

/-- TB_SERVO_TIMEOUT (R212): in TRACK, FADJ becomes INTEG and the servo holds. -/
def execTbServoTimeout (n : Fin 8) (s : State) : Res :=
  done (if n.val ≠ 0 ∧ s.fld (Reg.tbStatus n) Fld.tbStatus_STATE = 1 then
    (s.wr (Reg.tbFadj n) (s.rd (Reg.tbInteg n))).put (Reg.tbStatus n) Fld.tbStatus_STATE 2
  else s)

/-- A block reset of TIMEBASE, or a chip reset (R225): the compare units disarm and a servo that tracks holds; no time base moves or changes rate. -/
def State.timeReset (s : State) : State :=
  (List.range 8).foldl (fun (t : State) (n : Nat) =>
    let t := t.cmpDisarmAll n
    if n ≠ 0 ∧ t.fld (Reg.tbStatus n) Fld.tbStatus_STATE = 1 then t.put (Reg.tbStatus n) Fld.tbStatus_STATE 2 else t) s

/-- TB_SRC_WRITE (R212): a source starts tracking with INTEG = FADJ; NONE frees the servo with FADJ kept; on TB_0 the write is ignored. -/
def execTbSrcWrite (n : Fin 8) (src : Fin 16) (s : State) : Res :=
  done (if n.val = 0 then s
  else
    let st := s.fld (Reg.tbStatus n) Fld.tbStatus_STATE
    let s1 := s.put (Reg.tbCtrl n) Fld.tbCtrl_SRC src
    if s1.tbSrc n = 0 then (if st = 0 then s1 else s1.put (Reg.tbStatus n) Fld.tbStatus_STATE 0)
    else if st = 0 then
      (((s1.setInteg n (s.rdi (Reg.tbFadj n) * fadjUnit)).setTb n fun b => { b with lastOfs := none })).put
        (Reg.tbStatus n) Fld.tbStatus_STATE 1
    else s1)

/-- TB_FADJ_WRITE (R212): in FREE the rate changes from the next GRID edge; otherwise, and on TB_0, the write is ignored. -/
def execTbFadjWrite (n : Fin 8) (value : Word) (s : State) : Res :=
  done (if n.val ≠ 0 ∧ s.fld (Reg.tbStatus n) Fld.tbStatus_STATE = 0 then s.wr (Reg.tbFadj n) value else s)

end Sys2Proof.Machine
end

