-- ==== Sys2Proof/Machine/Line.lean ====
section
/-!
DEFINITION. Line ports (ch. 9): link state, pause, the frames engines offer, and the host queues with the buffer pool.
-/

namespace Sys2Proof.Machine

namespace State

variable (s : State)

/-! ### Power and clock a port needs -/

/-- The state of power group `g` is ACTIVE (R559). -/
def pgActive (g : Nat) : Bool := s.rdn (Reg.pgStatus g) % 4 == 0 && s.param 0x70 g != 2

/-- Group `g` is powered with its clocks to hand: ACTIVE or IDLE, and not ABSENT (R559, R563). -/
def pgUp (g : Nat) : Bool := s.rdn (Reg.pgStatus g) % 4 < 2 && s.param 0x70 g != 2

/-- Synthesiser `k` is LOCKED (R149). -/
def synLocked (k : Nat) : Bool := s.fld (Reg.synStatus k) Fld.synStatus_STATE == 4

/-- The personality of port `n` (R259). -/
def personality (n : Nat) : Nat := if s.loader.built then s.param 0x10 n else 0

/-- The port beyond its registers. -/
def lineAt (n : Nat) : LineSt := s.line.get {} n

/-- Change the port beyond its registers. -/
def setLine (n : Nat) (f : LineSt → LineSt) : State := { s with line := s.line.set {} n (f (s.line.get {} n)) }

/-- Change the buffer manager. -/
def setQueue (f : QueueSt → QueueSt) : State := { s with queue := f s.queue }

/-- The transmit queue `q`. -/
def txq (q : Nat) : TxqSt := s.queue.tx.get {} q

/-- Change transmit queue `q`. -/
def setTxq (q : Nat) (f : TxqSt → TxqSt) : State :=
  s.setQueue fun u => { u with tx := u.tx.set {} q (f (u.tx.get {} q)) }

/-- The receive queue `q`. -/
def rxq (q : Nat) : RxqSt := s.queue.rx.get {} q

/-- Change receive queue `q`. -/
def setRxq (q : Nat) (f : RxqSt → RxqSt) : State :=
  s.setQueue fun u => { u with rx := u.rx.set {} q (f (u.rx.get {} q)) }

/-- DMA can run: the link is up, Bus Master Enable is set, and the device is not in D3hot (R577, R580). -/
def dmaOk : Bool := s.host.linkUp && s.host.busMaster && !s.host.d3hot

/-- A device write to host memory. -/
def dmaWrite (addr : Nat) (bs : List Byte) : State := s.send (.pcieWrite (addr % 2 ^ 64) bs)

/-- Time base `b` at a PCS capture that lies `back` × 2^-16 ns of TB_0 before the last GRID edge, full ticks (R265, R266). -/
def captured (b back : Nat) : Int := (s.fullTicks b : Int) - (back * s.followAdvance b s.edgeAdvance / s.edgeAdvance : Nat)

/-- The receive stamp at port `n` in time base `b` (R266), full ticks. -/
def rxStamp (n b back : Nat) : Int := s.captured b back - (Config.lineRxFixed n (s.personality n)).toInt - s.rdi (Reg.lineTsRxAdj n)

/-- The transmit stamp at port `n` in time base `b` (R266), full ticks. -/
def txStamp (n b back : Nat) : Int := s.captured b back + (Config.lineTxFixed n (s.personality n)).toInt + s.rdi (Reg.lineTsTxAdj n)

/-- The time base of the host stamps of port `n` (R266). -/
def lineTb (n : Nat) : Nat := s.rdn (Reg.lineTsCfg n) % 8

/-! ### Rings -/

/-- The entries of a ring whose SIZE register is at `a`: 2^4 to 2^16, nearest limit (R290). -/
def ringSize (a : Nat) : Nat := 2 ^ max 4 (min 16 (s.rdn a % 32))

/-- The base of a ring, 64-octet aligned (R290). -/
def ringBase (a : Nat) : Nat := s.rd64 a / 64 * 64

/-- MAX_FRAME of port `n`, clamped (R268). -/
def maxFrame (n : Nat) : Nat := max 64 (min 9728 (s.rdn (Reg.lineMaxframe n) % 16384))

/-- The buffer size (R278). -/
def bufSize : Nat := max 256 (min 16384 (s.rdn Reg.poolBufsz % 32768 / 64 * 64))

/-- A queue may write completions: QUEUE and the queue enabled, no reset pending. -/
def rxqRuns (q : Nat) : Bool :=
  s.bit Reg.queueCtrl 0 && s.bit (Reg.rxqCtrl q) 0 && !s.bit Reg.queueStatus 0

/-- A transmit queue runs. -/
def txqRuns (q : Nat) : Bool :=
  s.bit Reg.queueCtrl 0 && s.bit (Reg.txqCtrl q) 0 && !s.bit Reg.queueStatus 0 && s.dmaOk

/-- Unreleased entries of receive ring `q` (R279). -/
def rxqUsed (q : Nat) : Nat :=
  let n := s.ringSize (Reg.rxqSize q)
  (s.rdn (Reg.rxqTail q) + n - s.rdn (Reg.rxqHead q) % n) % n

/-! ### The pool (R278, R280) -/

/-- Show POOL_AVAIL; falling to POOL_LOW or below raises interrupt 52 once (R278). -/
def poolShow : State :=
  let was := s.rdn Reg.poolAvail
  let now := s.queue.posted.length + s.queue.cache.length
  let low := s.rdn Reg.poolLow % 131072
  (s.wrn Reg.poolAvail now).raiseIrqIf (low < was && now ≤ low) 52

/-- Keep the cache at up to 64 entries (R278). -/
def poolFill : State :=
  if s.bit Reg.queueCtrl 0 && !s.bit Reg.queueStatus 0 && s.dmaOk then
    let k := min (64 - s.queue.cache.length) s.queue.posted.length
    let n := s.ringSize Reg.poolSize
    let s := s.wrn Reg.poolHead ((s.rdn Reg.poolHead + k) % n)
    s.setQueue fun u => { u with cache := u.cache ++ u.posted.take k, posted := u.posted.drop k }
  else s

/-! ### Completions (R279, R281, R284, R285) -/

/-- Write one completion entry at TAIL: address, length, flag bits without PHASE, frame length, stamp; a write that PCIe refuses sets DMA_ERR (R290). -/
def putCompletion (refused : Bool) (q addr len flags frameLen stamp : Nat) : State :=
  let n := s.ringSize (Reg.rxqSize q)
  let tail := s.rdn (Reg.rxqTail q) % n
  let seq := s.rdn (Reg.rxqSeq q)
  let fl := flags + (if (s.rxq q).pass then 0 else 0x8000)
  let bytes := leBytes 8 addr ++ leBytes 2 len ++ leBytes 2 fl ++ leBytes 2 frameLen ++ leBytes 2 seq ++
    leBytes 8 stamp ++ leBytes 8 0
  let s := if refused then s.putBit Reg.queueStatus 1 true else s.dmaWrite (s.ringBase (Reg.rxqBaseLo q) + 32 * tail) bytes
  let s := (s.wrn (Reg.rxqSeq q) ((seq + 1) % 65536)).wrn (Reg.rxqTail q) ((tail + 1) % n)
  if tail + 1 = n then s.setRxq q fun r => { r with pass := !r.pass } else s

/-- Interrupt 32 + q at a crossing of LEVEL upward, otherwise the COAL timer runs (R284). -/
def announce (q was : Nat) : State :=
  let now := s.rxqUsed q
  let level := s.fld (Reg.rxqCtrl q) ⟨16, 16⟩
  if was ≤ level ∧ level < now then (s.raiseIrq (32 + q)).setRxq q fun r => { r with unann := none }
  else s.setRxq q fun r => { r with unann := r.unann.orElse fun _ => some s.edges }

/-- The completion entries of a frame: (address, octets) pairs in the order filled. -/
def putEntries (refused : Bool) (q port total stamp : Nat) : State → Bool → List (Nat × List Byte) → State
  | s, _, [] => s
  | s, first, (a, d) :: es =>
    let last := es.isEmpty
    let flags := port * 16 + first.toNat * 8 + last.toNat * 2 + first.toNat
    putEntries refused q port total stamp
      ((s.dmaWrite a d).putCompletion refused q a d.length flags (if last then total else 0) (if first then stamp else 0)) false es

/-- Split the data of a frame over buffers. -/
def splitOver (size : Nat) : List Nat → List Byte → List (Nat × List Byte)
  | [], _ => []
  | a :: as, d => (a, d.take size) :: splitOver size as (d.drop size)

/-- Deliver a frame (without FCS) to its queue (R279–R281). -/
def deliverTo (f : RxFrame) : State :=
  let q := f.q
  let data := f.data
  let s := s.poolFill
  let size := s.bufSize
  let need := (data.length + size - 1) / size
  let avail := s.queue.cache.length + s.queue.posted.length
  if avail < need then
    -- the pool ran dry: its buffers return to the front of the cache (R280)
    let low := s.rdn Reg.poolLow % 131072
    let s := s.raiseIrqIf (low < s.rdn Reg.poolAvail) 52
    (s.countSat (Reg.rxqNobuf q)).raiseFault 41 q
  else if s.ringSize (Reg.rxqSize q) - 1 - s.rxqUsed q < need then s.countSat (Reg.rxqCqfull q)
  else
    let s := s.setQueue fun u => { u with cache := u.cache ++ u.posted.take (need - u.cache.length),
                                          posted := u.posted.drop (need - u.cache.length) }
    let bufs := s.queue.cache.take need
    let s := s.setQueue fun u => { u with cache := u.cache.drop need }
    let was := s.rxqUsed q
    let s := putEntries f.refused q f.port data.length f.stamp s true (splitOver size bufs data)
    ((s.poolFill).poolShow).announce q was

/-- A frame reaches its queue at the end of its GRID period (R31); it waits while DMA waits (R580).
DESIGN CHOICE (log entry 20): a frame for a queue that is not enabled is dropped and counted nowhere. -/
def hostDeliver (f : RxFrame) : State :=
  if !s.rxqRuns f.q then s
  else if s.dmaOk then s.deliverTo f
  else s.setQueue fun u => { u with rxHeld := u.rxHeld ++ [f] }

/-- Frames of one GRID period stand in the order of port number, those of one port in the order of arrival (R285). -/
def dueInsert (f : RxFrame) : List RxFrame → List RxFrame
  | [] => [f]
  | g :: gs => if f.port < g.port then f :: g :: gs else g :: dueInsert f gs

/-- A frame for host software has passed its MAC in this GRID period (R285). -/
def hostFrame (f : RxFrame) : State := s.setQueue fun u => { u with due := dueInsert f u.due }

/-- The GRID period ends: its frames go to their queues (R285). -/
def rxFlush : State := s.queue.due.foldl (fun (t : State) (f : RxFrame) => t.hostDeliver f) (s.setQueue fun u => { u with due := [] })

/-! ### Transmit queues (R282, R283) -/

/-- What stands at the head of a transmit queue (R283). -/
inductive TxHead where
  | empty
  | incomplete
  | bad (count : Nat)
  | frame (count : Nat)
deriving DecidableEq, Repr

/-- Scan the descriptors after the first, `k` of the frame seen. -/
def txScan : Nat → List TxDesc → TxHead
  | k, [] => if 16 ≤ k then .bad 16 else .incomplete
  | k, d :: ds =>
    if 16 ≤ k then .bad 16
    else if d.flags % 2 = 1 then .bad (k + 1)
    else if d.flags / 2 % 2 = 1 then .frame (k + 1)
    else txScan (k + 1) ds

/-- What stands at the head of a list of descriptors. -/
def txHead : List TxDesc → TxHead
  | [] => .empty
  | d :: ds =>
    if d.flags % 2 = 0 then .bad 1
    else if d.flags / 2 % 2 = 1 then .frame 1
    else txScan 1 ds

/-- The octets of data that descriptors name. -/
def txTotal (ds : List TxDesc) : Nat := ds.foldl (fun n d => n + d.len) 0

/-- The port a frame names: that of its first descriptor. -/
def txPort (ds : List TxDesc) : Nat := (ds.headD ⟨0, 0, 0, 0⟩).flags / 16 % 4

/-- Write back descriptors in ring order from `head` (R282). -/
def writeBack (q status frameLen stamp : Nat) : State → Nat → List TxDesc → State
  | s, _, [] => s
  | s, head, d :: ds =>
    let st := if d.flags / 2 % 2 = 1 ∧ d.flags / 4 % 2 = 1 ∧ status = 0 then stamp else 0
    let s := s.dmaWrite (s.ringBase (Reg.txqBaseLo q) + 16 * head)
      (leBytes 8 st ++ leBytes 2 (0x8000 + status) ++ leBytes 2 frameLen ++ leBytes 4 d.tag)
    writeBack q status frameLen stamp s ((head + 1) % s.ringSize (Reg.txqSize q)) ds

/-- Complete the first `k` descriptors of queue `q` with a status (R282): write-back, HEAD, and interrupt 36 + q. -/
def txComplete (q k status frameLen stamp : Nat) : State :=
  let ds := (s.txq q).descs.take k
  let n := s.ringSize (Reg.txqSize q)
  let head := s.rdn (Reg.txqHead q) % n
  let s := writeBack q status frameLen stamp s head ds
  let s := (s.wrn (Reg.txqHead q) ((head + k) % n)).setTxq q fun t => { t with descs := t.descs.drop k }
  let s := if status = 5 then s.putBit Reg.queueStatus 1 true else s
  let s := if status = 3 then s.countSat (Reg.txqBad q) else s
  s.raiseIrqIf (ds.any fun d => d.flags / 2 % 2 == 1 && d.flags / 8 % 2 == 1) (36 + q)

/-- Complete every frame at the head of queue `q` that needs no wire: BAD_DESC, LINK_DOWN, OVERSIZE (R277, R283). -/
def txAdvance (q : Nat) : Nat → State → State
  | 0, s => s
  | fuel + 1, s =>
    if !s.txqRuns q || (s.txq q).wire.isSome || (s.txq q).sent.isSome then s
    else
      let ds := (s.txq q).descs
      match txHead ds with
      | .empty | .incomplete => s
      | .bad k => txAdvance q fuel (s.txComplete q k 3 0 0)
      | .frame k =>
        let port := txPort ds
        if !s.lineUp port then txAdvance q fuel (s.txComplete q k 2 0 0)
        else if s.maxFrame port - 4 < txTotal (ds.take k) then txAdvance q fuel (s.txComplete q k 4 0 0)
        else s

/-- The transmit queues move as far as they can without a wire. -/
def txAdvanceAll : State :=
  (List.range 4).foldl (fun t q => txAdvance q ((t.txq q).descs.length + 1) t) s

/-- A host frame stands at the head of queue `q` for port `n`, ready to start: its descriptors (R275, R276). -/
def txReady (q n : Nat) : Option Nat :=
  if s.txqRuns q && (s.txq q).wire.isNone && (s.txq q).sent.isNone then
    match txHead (s.txq q).descs with
    | .frame k => if txPort (s.txq q).descs = n then some k else none
    | _ => none
  else none

/-! ### Queue block reset (R286) -/

/-- Return held buffers as the ring of RETURN_Q has room (R286, step 3). -/
def returnBuffers (q : Nat) : Nat → State → State
  | 0, s => s
  | fuel + 1, s =>
    match s.queue.returning with
    | [] => s
    | a :: as =>
      if s.ringSize (Reg.rxqSize q) - 1 ≤ s.rxqUsed q then s
      else
        let was := s.rxqUsed q
        let s := (s.putCompletion false q a 0 4 0 0).announce q was
        returnBuffers q fuel (s.setQueue fun u => { u with returning := as })

/-- The descriptors of the frame at the head of queue `q`, zero where none stands there complete. -/
def headCount (q : Nat) : Nat := match txHead (s.txq q).descs with | .frame k => k | _ => 0

/-- The write-back of a frame that ended while DMA waited (R275, R282, R580). -/
def txOwed (q : Nat) : State :=
  match (s.txq q).sent with
  | some (status, len, stamp) => (s.setTxq q fun t => { t with sent := none }).txComplete q (s.headCount q) status len stamp
  | none => s

/-- Abort the descriptors that queue `q` owns (R286, step 2), after a frame that has already ended: octets have been taken for a frame on the wire only. -/
def abortQueue (q : Nat) : State :=
  let s := s.txOwed q
  let k := (s.txq q).descs.length
  let s := match (s.txq q).wire with
    | some w =>
      let j := s.headCount q
      (s.txComplete q j 1 w.2.2.length 0).txComplete q (k - j) 1 0 0
    | none => s.txComplete q k 1 0 0
  (s.countSatBy (Reg.txqAborted q) k).setTxq q fun t => { t with wire := none }

/-- Steps 2 and 3 of R286 as far as DMA allows; RESETTING ends when they are complete. -/
def queueDrain : State :=
  if !s.bit Reg.queueStatus 0 || !s.dmaOk then s
  else
    let s := if s.queue.aborting then
        ((List.range 4).foldl (fun t q => t.abortQueue q) s).setQueue fun u => { u with aborting := false } else s
    let s := returnBuffers (s.fld Reg.queueCtrl ⟨4, 2⟩) s.queue.returning.length s
    if s.queue.returning.isEmpty then s.putBit Reg.queueStatus 0 false else s

/-- A block reset of QUEUE (R286): ENABLE bits clear, DMA stops, and the drain follows. -/
def queueReset : State :=
  let s := (s.putBit Reg.queueCtrl 0 false).putBit Reg.queueStatus 0 true
  let s := (List.range 4).foldl (fun t q => (t.putBit (Reg.rxqCtrl q) 0 false).putBit (Reg.txqCtrl q) 0 false) s
  let s := s.setQueue fun u => { u with returning := u.returning ++ u.cache, cache := [], due := [], rxHeld := [], aborting := true }
  (s.poolShow).queueDrain

/-- DMA may run again, or an enable has been written: drains, deliveries and queues that waited go on (R286, R580). -/
def queueResume : State :=
  let s := s.queueDrain
  let s := s.poolFill
  let s := if s.dmaOk then
      let held := s.queue.rxHeld
      let s := held.foldl (fun (t : State) (f : RxFrame) => t.hostDeliver f) (s.setQueue fun u => { u with rxHeld := [] })
      (List.range 4).foldl (fun (t : State) (q : Nat) => t.txOwed q) s
    else s
  s.txAdvanceAll

/-! ### Ports -/

/-- The octets on the wire: padded to 60 and with the FCS (R274). -/
def wireFrame (octets : List Byte) : List Byte :=
  let p := octets ++ List.replicate (60 - octets.length) 0
  p ++ leBytes 4 (crc32 p)

/-- Port `n` has sent a frame. -/
def sendFrame (n : Nat) (octets : List Byte) : State :=
  let w := wireFrame octets
  let s := (s.send (.lineFrame n w)).countSat (Reg.lineTxOk n)
  s.wr64 (Reg.lineTxOctetsLo n) (s.rd64 (Reg.lineTxOctetsLo n) + w.length)

/-- An engine offers a frame to port `n` (R276, R277): queued while the port is UP and not held. -/
def offerFrame (n : Nat) (f : TxFrame) : State :=
  if !s.lineUp n then s.countSat (Reg.lineTxDown n)
  else if s.on (Reg.lineStatus n) Fld.lineStatus_PAUSED then s.countSat (Reg.lineTxPauseDrop n)
  else s.setLine n fun l => { l with wait := l.wait ++ [f] }

/-- Discard the engine frames that wait at port `n`, counting them in register `cnt`. -/
def dropWaiting (n cnt : Nat) : State :=
  (s.countSatBy cnt (s.lineAt n).wait.length).setLine n fun l => { l with wait := [] }

/-- End the pause hold of port `n`, or one still to start (R273). -/
def pauseEnds (n : Nat) : State :=
  (s.put (Reg.lineStatus n) Fld.lineStatus_PAUSED 0).setLine n fun l => { l with pauseEnd := 0, pauseNext := none }

/-- The time of a pause quantum at port `n`, in units of 10 ps (R273). -/
def quantum (n : Nat) : Nat :=
  match s.personality n with | 3 => 5120 | 4 | 5 => 2048 | _ => 51200

/-- Whether a host frame of queue `q` is on the wire of port `n`. -/
def onWire (n q : Nat) : Bool := match (s.txq q).wire with | some w => w.1 == n | none => false

/-- Port `n` is held for `q` quanta from now (R273). -/
def pauseHold (n q : Nat) : State :=
  ((s.put (Reg.lineStatus n) Fld.lineStatus_PAUSED 1).setLine n fun l =>
    { l with pauseEnd := s.edges * 160 + q * s.quantum n, pauseNext := none }).dropWaiting n (Reg.lineTxPauseDrop n)

/-- A pause frame of `q` quanta (R273): it replaces the time that remains, from the end of a frame in progress; 0 ends the hold. -/
def pauseRx (n q : Nat) : State :=
  if !s.on (Reg.linePause n) Fld.linePause_OBEY then s
  else if q = 0 then s.pauseEnds n
  else if (List.range 4).any (s.onWire n) then s.setLine n fun l => { l with pauseNext := some q }
  else s.pauseHold n q

/-- The frame on the wire of port `n` has ended: a hold that waited for it starts (R273). -/
def pauseStart (n : Nat) : State := match (s.lineAt n).pauseNext with | some q => s.pauseHold n q | none => s

/-- PAUSE.REMAIN of port `n`: the quanta left in the hold (R273). -/
def pauseRemain (n : Nat) : Nat :=
  if s.on (Reg.lineStatus n) Fld.lineStatus_PAUSED then ((s.lineAt n).pauseEnd - s.edges * 160 + s.quantum n - 1) / s.quantum n
  else 0

/-- Frames on the wire of port `n` are ended with an error character (R261, R287): they are not sent. -/
def cutWire (n : Nat) : State :=
  (List.range 4).foldl (fun t q => if t.onWire n q then t.setTxq q fun x => { x with wire := none } else t) s

/-- Port `n` takes a link state (R261): interrupt 28 + n at every change; leaving UP sets EVER_DOWN, stops the transmitter, and
lets host frames that name the port complete as LINK_DOWN (R277). -/
def linkTo (n st : Nat) : State :=
  let was := s.linkState n
  if was = st then s
  else
    let s := (s.put (Reg.lineStatus n) Fld.lineStatus_LINK_STATE st).raiseIrq (28 + n)
    if was = 4 then
      let s := s.put (Reg.lineStatus n) Fld.lineStatus_EVER_DOWN 1
      let s := ((s.cutWire n).pauseEnds n).dropWaiting n (Reg.lineTxDown n)
      s.txAdvanceAll
    else s

/-- The mode negotiates and AN_EN is 1 (R259, R261). -/
def negotiates (n : Nat) : Bool := (s.personality n == 1 || s.personality n == 2) && s.on (Reg.lineAn n) Fld.lineAn_AN_EN

/-- Forget what the link had acquired. -/
def linkForget (n : Nat) : State :=
  let s := (s.put (Reg.lineStatus n) Fld.lineStatus_LOCK 0).put (Reg.lineStatus n) Fld.lineStatus_AN_DONE 0
  let s := s.put (Reg.lineStatus n) Fld.lineStatus_MODE_BAD 0
  s.setLine n fun l => { l with anRun := false }

/-- Auto-negotiation starts where the mode has it and AN_EN is 1 (R261); a 1000BASE-X port then advertises full duplex and ADV_PAUSE in its base page
(R262), at the places of IEEE 802.3 (PRESUMED, log entry 55). -/
def anStart (n : Nat) : State :=
  let run := s.negotiates n
  let t := s.setLine n fun l => { l with anRun := run }
  if run && s.personality n == 1 then t.send (.lineAbility n (BitVec.ofNat 16 (0x20 + s.fld (Reg.lineAn n) Fld.lineAn_ADV_PAUSE * 128))) else t

/-- The image being applied rebuilds PORTS and names port `n`, which drops link for the duration (R56); or PORTS has an error that nothing repairs,
and every port drops it (R57). -/
def portBusy (n : Nat) : Bool :=
  s.loader.dead.testBit 18 ||
    (s.bit Reg.structRegionBusy 18 && ((Image.params s.loader.image).getD []).any fun p => p.id == 0x10 && p.inst == n)

/-- The state a port must be in by its enable, its group and SYN_G, where these decide it (R56, R261). -/
def linkRule (n : Nat) : State :=
  if s.personality n = 0 || s.portBusy n || !s.on (Reg.lineCtrl n) Fld.lineCtrl_ENABLE || !s.pgUp (16 + n) then
    (s.linkForget n).linkTo n 0
  else if !s.synLocked 0 then (s.linkForget n).linkTo n 1
  else if s.linkState n ≤ 1 then s.linkTo n 2
  else s

/-- The counters of port `n` clear (R287, R288). -/
def lineClear (n : Nat) : State :=
  (List.range 19).foldl (fun t k => t.wr (0x80100 + 0x4000 * n + 4 * k) 0) s

end State

end Sys2Proof.Machine
end

