-- ==== Sys2Proof/Machine/Wear.lean ====
section
/-!
DEFINITION. The wear record of the ageing manager as a history snapshot carries it (R573).
-/

namespace Sys2Proof.Machine

/-- Sentinel `k`; until it has samples of its own its model is the factory signature in OTP (R570). -/
def State.sentinel (s : State) (k : Nat) : Sentinel :=
  s.age.sent.get { fitA := s.otp.fitA, fitN := s.otp.fitN } k

/-- The 12 octets of a sentinel in the wear record. -/
def Sentinel.octets (x : Sentinel) : List Byte :=
  leBytes 4 x.slow ++ leBytes 4 x.fitA ++ leBytes 2 x.fitN ++ leBytes 2 x.days

/-- The wear record of 256 octets (R573). -/
def State.wearRecord (s : State) : List Byte :=
  leBytes 2 1 ++ leBytes 2 20 ++ leBytes 4 (s.rdn Reg.ageHours) ++ leBytes 4 s.age.hotHours ++ leBytesI 4 s.age.tjMean
    ++ ((List.range 20).map fun k => (s.sentinel k).octets).flatten

/-- Take over sentinel `k` from the wear record `r`. -/
def State.wearSentinel (s : State) (r : List Byte) (k : Nat) : State :=
  let o := 0x10 + 12 * k
  let x : Sentinel := { slow := leAt r o 4, fitA := leAt r (o + 4) 4, fitN := leAt r (o + 8) 2, days := leAt r (o + 10) 2 }
  let a : AgeSt := { s.age with sent := s.age.sent.set { fitA := s.otp.fitA, fitN := s.otp.fitN } k x }
  ({ s with age := a }).wrn (Reg.ageSent k) x.slow

/-- The ageing manager takes a restored wear record only when its AGE_HOURS is at least its own (R573). -/
def State.wearRestore (s : State) (r : List Byte) : State :=
  if leAt r 4 4 < s.rdn Reg.ageHours then s
  else
    let s1 := (List.range 20).foldl (fun t k => t.wearSentinel r k) s
    ({ s1 with age := { s1.age with hotHours := leAt r 8 4, tjMean := leInt (slice r 12 4) } }).wrn Reg.ageHours (leAt r 4 4)

end Sys2Proof.Machine
end

