-- ==== Sys2Proof/Machine/Hold.lean ====
section
/-!
DEFINITION. Holdover and the error bound (R110–R142): the oscillator models, the holdover state machine, the ledger, the
published class, and history snapshots.
-/

namespace Sys2Proof.Machine

/-- The reference is a time reference (R68, R69). -/
def isTimeRef (n : Nat) : Bool := n < 4 || 12 ≤ n

/-- One 0.25 ns LSB in ticks. -/
def quarterNs : Nat := 16384

/-- Division rounding up; 0 when the divisor is 0. -/
def cdiv (a b : Nat) : Nat := (a + b - 1) / b

/-- A value in 0.25 ns, held at 0xFFFF_FFFF (R128). -/
def sat32 (n : Nat) : Nat := min n 0xFFFFFFFF

/-- Fixed-point scale of a temperature bin's offset and residual: 2^-32 ppt (log entry 13). -/
def binScale : Int := 2 ^ 32

namespace State

variable (s : State)

/-- SEL_STATUS.SELECTED_ID; 0x1F is none (R109). -/
def selId : Nat := s.fld Reg.selStatus Fld.selStatus_SELECTED_ID

/-- The selected reference. -/
def selected : Option Nat := if s.selId < 20 then some s.selId else none

/-- The state of reference `n` (R104). -/
def refState (n : Nat) : Nat := s.fld (Reg.refState n) Fld.refState_STATE

/-- Reference monitor `n`. -/
def ref (n : Nat) : RefSt := s.refs.get {} n

/-- Change reference monitor `n`. -/
def setRef (n : Nat) (f : RefSt → RefSt) : State := { s with refs := s.refs.set {} n (f (s.refs.get {} n)) }

/-- The samples of the last `secs` seconds, or the last two where fewer lie in them (R75; log entry 52). -/
def windowSamples (n secs : Nat) : List (Int × Int) :=
  let l := (s.ref n).samples.filter fun e => s.monitorNow - secs * secondTicks < e.1
  if l.length < 2 then (s.ref n).samples.take 2 else l

/-- REF_n_WINDOW in seconds. -/
def refWindowSecs (n : Nat) : Nat := s.rdn (Reg.refWindow n) % 4096 + 1

/-- SEL_PULL, ticks: the phase that remains to be pulled (R96). -/
def pull : Int :=
  let p := s.rd64i Reg.selPullLo
  if s.on Reg.selStatus Fld.selStatus_PULLING then p - (s.movedNow - s.time.moved) else p

/-- The phase to pull towards time reference `n`: its last sample, less TB_0's own motion since (R96). -/
def pullTarget (n : Nat) : Int :=
  match (s.ref n).samples with
  | (_, y) :: _ => y - s.movedNow
  | [] => s.rd64i (Reg.refPhaseLo n)

/-- Change the holdover engine. -/
def setHold (f : HoldSt → HoldSt) : State := { s with hold := f s.hold }

/-- The oscillator in use: false OSC_A, true OSC_B. -/
def oscB : Bool := s.bit Reg.oscStatus 0

/-- The model of the oscillator in use (R110). -/
def model : OscModel := if s.oscB then s.hold.b else s.hold.a

/-- Change the model of the oscillator in use. -/
def setModel (f : OscModel → OscModel) : State :=
  if s.oscB then s.setHold fun h => { h with b := f h.b } else s.setHold fun h => { h with a := f h.a }

/-- The holdover state (R116). -/
def holdState : Nat := s.fld Reg.holdStatus Fld.holdStatus_STATE

/-- Enter a holdover state. -/
def setHoldState (n : Nat) : State := s.put Reg.holdStatus Fld.holdStatus_STATE n

/-- HOLD_CTRL.ENTRY_AVG in seconds. -/
def entryAvg : Nat := s.fld Reg.holdCtrl Fld.holdCtrl_ENTRY_AVG + 1

/-- A class-3 fault is latched: only the grave sources have class 3 (R522, R524). -/
def class3 : Bool := [15, 17, 18, 19, 33, 39, 43].any s.faultLatched

/-- HOLD_TEMP.VALID (R113). -/
def tempValid : Bool := s.bit Reg.holdTemp 16

end State

/-! ### Temperature (R113, R114) -/

/-- The bin of a temperature in 1/256 °C (R114). -/
def tempBin (t : Int) : Nat := (max 0 (min 63 ((t + 40 * 256) / 512))).toNat

/-- The centre of bin `k` in 1/256 °C. -/
def binCentre (k : Nat) : Int := (2 * k - 39 : Int) * 256

/-- The correction at a temperature, in 2^-32 ppt: linear between the nearest learned bins; the one bin on one side; 0 with none (R114). -/
def OscModel.tcorr (m : OscModel) (t : Int) : Int :=
  let known := (List.range 64).filter fun k => 600 ≤ (m.bins.get {} k).n
  let below := (known.filter fun k => binCentre k ≤ t).getLast?
  let above := (known.filter fun k => t < binCentre k).head?
  match below, above with
  | some j, some k =>
    let a := (m.bins.get {} j).off
    let b := (m.bins.get {} k).off
    a + (b - a) * (t - binCentre j) / (binCentre k - binCentre j)
  | some j, none => (m.bins.get {} j).off
  | none, some k => (m.bins.get {} k).off
  | none, none => 0

/-- One sample in a bin (R114), `x` in 2^-32 ppt. -/
def TempBin.sample (b : TempBin) (x : Int) : TempBin :=
  let n := b.n + 1
  let off := b.off + rdiv (x - b.off) (min n 3600 : Nat)
  { n := n, off := off, res := max (b.res * 86399 / 86400) (x - off).natAbs }

namespace State

variable (s : State)

/-- HOLD_TUNC (R131). -/
def tunc : Nat :=
  let b := s.model.bins.get {} (tempBin s.hold.tempLast)
  if b.n < 600 || !s.tempValid || !s.on Reg.holdCtrl Fld.holdCtrl_TEMP_EN then s.rdn Reg.holdTempUnl
  else sat32 (cdiv b.res (2 ^ 32))

/-- HOLD_FUNC as shown: the class rate until the first lock (R126). -/
def funcShown : Nat := s.model.func.getD (s.rdn Reg.holdClassFrate)

/-- The ageing uncertainty in use (R115, R131). -/
def auncShown : Nat := if s.model.learned && s.model.fit then s.model.aunc else s.rdn Reg.holdClassAge

/-- Show the model in use in its registers (R140, R141). -/
def holdShow : State :=
  let m := s.model
  (((((((((s.wriSat Reg.holdFreq m.freq).wriSat Reg.holdAgeRate m.ageRate).wrnSat Reg.holdFunc s.funcShown).wrnSat
    Reg.holdAunc s.auncShown).wrnSat Reg.holdTunc s.tunc).wrnSat Reg.holdLearnA s.hold.a.learn).wrnSat Reg.holdLearnB
    s.hold.b.learn).put Reg.holdStatus Fld.holdStatus_LEARNED_A s.hold.a.learned.toNat).put Reg.holdStatus
    Fld.holdStatus_LEARNED_B s.hold.b.learned.toNat).put Reg.holdStatus Fld.holdStatus_AGE_FIT m.fit.toNat

end State

/-- TEMP_SENSOR_READ (R113): with EN set, the sensor at ADDR is read from POINTER: an acknowledged value or a failure; three failures in a row
clear VALID, three good reads set it. -/
def execTempSensorRead (value : Option (BitVec 16)) (s : State) : Res :=
  done (if s.on Reg.holdTempCfg Fld.holdTempCfg_EN then
    let c := Reg.holdTempCfg
    let s := s.send (.tempRead (s.fld c Fld.holdTempCfg_ADDR) (s.fld c Fld.holdTempCfg_POINTER) (s.on c Fld.holdTempCfg_FAST))
    match value with
    | none =>
      let s1 := s.setHold fun h => { h with bad := h.bad + 1, good := 0 }
      if 3 ≤ s1.hold.bad then s1.putBit Reg.holdTemp 16 false else s1
    | some v =>
      let s1 := (s.setHold fun h => { h with good := h.good + 1, bad := 0 }).put Reg.holdTemp ⟨0, 16⟩ v.toNat
      let s2 := if 3 ≤ s1.hold.good then s1.putBit Reg.holdTemp 16 true else s1
      if s2.tempValid then s2.setHold fun h => { h with tempLast := v.toInt } else s2
  else s)

/-! ### The ageing ring and fit (R115) -/

/-- The entries of the last 30 days that have locked minutes: day number, minutes and frequency (R115). -/
def OscModel.recent (m : OscModel) (idx : Nat) : List (Int × Int × Int) :=
  (((List.range 30).map fun j =>
    let e : DayEntry := m.ring.get {} ((idx + 10080 - j) % 10080)
    (-(Int.ofNat j), Int.ofNat e.mins, e.freq)).filter fun e => 0 < e.2.1)

/-- Sum of integers. -/
def sumI (l : List Int) : Int := l.foldl (· + ·) 0

/-- The weighted line through the recent entries (R115): slope in ppt per day, its AUNC and the span in days. -/
def OscModel.ageFit (m : OscModel) (idx : Nat) : OscModel :=
  let es := m.recent idx
  let w := sumI (es.map fun e => e.2.1)
  let sx := sumI (es.map fun e => e.2.1 * e.1)
  let sy := sumI (es.map fun e => e.2.1 * e.2.2)
  let sxx := sumI (es.map fun e => e.2.1 * e.1 * e.1)
  let sxy := sumI (es.map fun e => e.2.1 * e.1 * e.2.2)
  let syy := sumI (es.map fun e => e.2.1 * e.2.2 * e.2.2)
  -- sums of squares about the means, times the weight
  let cxx := w * sxx - sx * sx
  let cxy := w * sxy - sx * sy
  let cyy := w * syy - sy * sy
  if es.length < 2 ∨ cxx ≤ 0 then m
  else
    -- squared standard error = (cyy·cxx − cxy²) / (cxx² · (60·w − 2)), per learning second
    let num := (max 0 (cyy * cxx - cxy * cxy)).toNat
    let den := (cxx * cxx * (60 * w - 2)).toNat
    let se3 := cdiv (isqrt (9 * num * 2 ^ 32 / den)) (2 ^ 16)
    let span := match es.head?, es.getLast? with | some e, some f => (e.1 - f.1).toNat | _, _ => 0
    { m with ageRate := rdiv cxy cxx, aunc := sat32 (max 1 se3), fit := true, fitSpan := span }

/-- Write the daily entry of the day that ends at TAI second `sec`, then fit (R115). -/
def OscModel.daily (m : OscModel) (sec : Nat) : OscModel :=
  let day := sec - 86400
  let first := m.lastIdx.isNone
  let day0 := if first then day else m.day0
  let idx := (((day : Int) - day0) / 86400 % 10080).toNat
  let e : DayEntry :=
    if m.daySecs = 0 then {}
    else { freq := rdiv m.dayFreq (m.daySecs * binScale), temp := rdiv m.dayTemp m.daySecs, mins := min 1440 (m.daySecs / 60) }
  let m1 := { m with day0 := day0, lastIdx := some idx, ring := m.ring.set {} idx e, dayFreq := 0, dayTemp := 0, daySecs := 0 }
  if m1.learned then m1.ageFit idx else m1

/-- The ageing-corrected model frequency at second `sec`, in 2^-32 ppt (R115). -/
def OscModel.aged (m : OscModel) (sec : Nat) : Int :=
  m.freq * binScale - (if m.learned && m.fit then m.ageRate * binScale * ((sec : Int) - m.day0) / 86400 else 0)

namespace State

variable (s : State)

/-- The conditions of a learning second other than the holdover state (R111). -/
def learns : Bool :=
  s.on Reg.holdCtrl Fld.holdCtrl_LEARN &&
    (match s.selected with
     | some n => !s.on (Reg.refState n) Fld.refState_DRIFT_WARN
     | none => false)

/-- One learning second (R111, R112, R114, R115). -/
def learnSecond : State :=
  let sec := s.seconds 0
  let t := s.hold.tempLast
  let valid := s.tempValid
  s.setModel fun m =>
    let learn := min (m.learn + 1) 0xFFFFFFFF
    let m1 := { m with learn := learn, learned := m.learned || 86400 ≤ learn }
    let m2 := if valid then
        { m1 with bins := m1.bins.set ({} : TempBin) (tempBin t) ((m1.bins.get ({} : TempBin) (tempBin t)).sample (m.aged sec)) }
      else m1
    { m2 with dayFreq := m2.dayFreq + (m.freq * binScale - if m.learned then m.tcorr t else 0), dayTemp := m2.dayTemp + t, daySecs := m2.daySecs + 1 }

/-- A model starts the sums of a new day. -/
def newDay (m : OscModel) : OscModel := { m with dayFreq := 0, dayTemp := 0, daySecs := 0 }

/-- The daily entry at TAI midnight (R115): the model in use writes it, and both models start a new day. -/
def dailyEntry : State :=
  if s.seconds 0 % 86400 = 0 then
    (s.setModel fun m => m.daily (s.seconds 0)).setHold fun h => { h with a := newDay h.a, b := newDay h.b }
  else s

/-! ### Holdover states (R116–R119) -/

/-- The mean of the frequencies of `l`. -/
def meanOf (l : List Int) : Int := rdiv (l.foldl (· + ·) 0) l.length

/-- The frequency frozen at entry (R118). -/
def entryFreq : Int :=
  let at_ : Int := if s.hold.anchorId = 0x1F then (s.seconds 0 : Int) else s.hold.anchorT / secondTicks
  let hi := at_ - s.fld Reg.holdCtrl Fld.holdCtrl_ENTRY_GUARD
  let w := s.model.hist.filter fun e => hi - s.entryAvg < (e.1 : Int) && (e.1 : Int) ≤ hi
  if w.isEmpty then s.model.freq else meanOf (w.map (·.2))

/-- Start coasting at frequency `f` (R118, R119). -/
def startCoast (f : Int) : State :=
  let func := s.funcShown
  let sec := s.seconds 0
  (s.setHold fun h => { h with fEntry := f, funcEntry := func, entrySec := sec, tempEntry := h.tempLast }).setModel
    fun m => { m with freq := f }

/-- Enter holdover (R116, R118): the frequency is frozen, interrupt 3, in or out of spec by the computed bound. -/
def enterHoldover : State :=
  let out := s.rdn Reg.boundLimit < s.rdn Reg.ledgerSum
  ((((s.startCoast s.entryFreq).setHoldState (if out then 4 else 3)).raiseIrq 3).setHold fun h => { h with coastNew := true }).holdShow

/-- Request the automatic step of ACQUIRING when it is due (R97, R116). -/
def autoStep : State :=
  match s.selected with
  | some n =>
    if s.holdState == 1 && isTimeRef n && !s.bit Reg.ledgerSteps 16 && !s.on Reg.holdStatus Fld.holdStatus_EVER_LOCKED
        && !s.hold.autoPend && !s.stepPending 0 && !(s.ref n).samples.isEmpty then
      (s.requestStep 0 (.by (s.pullTarget n))).setHold fun h => { h with autoPend := true }
    else s
  | none => s

/-- The holdover state machine at a change of selection from `old` (R116). -/
def holdOnSelect (old : Option Nat) : State :=
  let s0 := s.setHold fun h => { h with lockSecs := 0, selNew := true, usedX := none }
  match s.selected with
  | none =>
    if s.holdState = 1 then s0.setHoldState 0
    else if s.holdState = 2 then s0.enterHoldover
    else s0
  | some _ =>
    let s1 := if old.isNone then s0.setHold fun h => { h with a := { h.a with hist := [] }, b := { h.b with hist := [] } } else s0
    let s2 := if s.holdState = 0 then s1.setHoldState 1 else s1
    s2.autoStep

/-- The frequency while coasting (R119). -/
def coastFreq : Int :=
  let m := s.model
  let h := s.hold
  let age := if m.learned && m.fit then m.ageRate * ((s.seconds 0 : Int) - h.entrySec) / 86400 else 0
  let tmp := if m.learned && s.on Reg.holdCtrl Fld.holdCtrl_TEMP_EN then rdiv (m.tcorr h.tempLast - m.tcorr h.tempEntry) binScale else 0
  h.fEntry + age + tmp

/-- Three times the standard error of the mean of the history, with the term of a time reference (R131), in ppt. -/
def lockedFunc (n : Nat) : Nat :=
  let l := ((s.model.hist.map (·.2)).take s.entryAvg)
  let k := l.length
  let s1 := l.foldl (· + ·) 0
  let s2 := l.foldl (fun a x => a + x * x) 0
  let var := (max 0 ((k : Int) * s2 - s1 * s1)).toNat
  let se := if k < 2 then 0 else isqrt (9 * var * 2 ^ 32 / (k * k * (k - 1)))
  let term := if isTimeRef n then 500 * (s.rdn Reg.ledgerRef + s.rdn Reg.ledgerPath) * 2 ^ 16 / s.entryAvg else 0
  sat32 (max 1 (cdiv (se + term) (2 ^ 16)))

/-- The sum of a stepwise frequency from instant `a` to `hi`, in ppt · ticks; `f` held before the list begins. -/
def steerSum : List (Int × Int) → Int → Int → Int → Int
  | [], a, hi, f => f * max 0 (hi - a)
  | (t, g) :: l, a, hi, _ => g * max 0 (hi - max t a) + if t ≤ a then 0 else steerSum l a (min t hi) g

/-- The mean frequency TB_0 was steered by from instant `a` to `b`. -/
def steerMean (a b : Int) : Int :=
  if b ≤ a then s.model.freq else rdiv (steerSum s.hold.steer a b s.model.freq) (b - a)

/-- The seconds of the model's frequency history that a window of R118 can still need: those of the last 4,111 s, and those before the anchor. -/
def histKeep (l : List (Nat × Int)) : List (Nat × Int) :=
  let now := s.seconds 0
  let at_ : Int := s.hold.anchorT / secondTicks
  l.filter fun e => decide (now < e.1 + 4112) || (s.hold.anchorId != 0x1F && decide (at_ < e.1 + 4112) && decide ((e.1 : Int) ≤ at_))

/-- One more second of lock criteria: within FTOL or not; the second in which the selection changed does not count (R117). -/
def lockCount (ok : Bool) : State :=
  s.setHold fun h => { h with lockSecs := if h.selNew || !ok then 0 else h.lockSecs + 1, selNew := false }

/-- The model is disciplined to the selected reference: the frequency that TB_0 was steered by over the samples of its one-second estimate,
less that estimate, once for each new sample; its frequency enters the history each second (R117, R118, R208). -/
def discipline : State :=
  match s.selected with
  | none => s.lockCount false
  | some n =>
    match (s.ref n).samples with
    | (x, _) :: _ :: _ =>
      let a := (s.windowSamples n 1).getLast?.map (·.1) |>.getD x
      if s.hold.oscSince.any fun c => decide (a < c) then s.lockCount false
      else
        let d := s.rdi (Reg.refFofsShort n)
        let f := if s.hold.usedX = some x then s.model.freq else s.steerMean a x - d
        let hist := s.histKeep ((s.seconds 0, f) :: s.model.hist)
        ((s.lockCount (decide (d.natAbs ≤ s.fld Reg.holdLockCfg Fld.holdLockCfg_FTOL))).setHold fun h => { h with usedX := some x }).setModel
          fun m => { m with freq := f, hist := hist }
    | _ => s.lockCount false

/-- The lock criteria (R117). -/
def lockMet : Bool :=
  match s.selected with
  | none => false
  | some n => max 1 (s.fld Reg.holdLockCfg Fld.holdLockCfg_SECS) ≤ s.hold.lockSecs
      && (s.holdState != 1 || !isTimeRef n || s.bit Reg.ledgerSteps 16)

/-- Enter LOCKED (R116). -/
def enterLocked : State :=
  ((((if s.holdState = 1 then s else s.raiseIrq 4).setHoldState 2).put Reg.holdStatus
    Fld.holdStatus_EVER_LOCKED 1).wrn Reg.holdCoast 0)

/-- Whole coasting seconds and the frequency while coasting (R116, R119). -/
def coastSecond : State :=
  if s.holdState == 3 || s.holdState == 4 then
    let t := (if s.hold.coastNew then s else s.countSat Reg.holdCoast).setHold fun h => { h with coastNew := false }
    match t.selected with
    | none => t.setModel fun m => { m with freq := t.coastFreq }
    | some _ => t
  else s

/-- HOLD_FUNC while LOCKED (R131). -/
def funcSecond : State :=
  match s.selected with
  | some n => if s.holdState == 2 then s.setModel fun m => { m with func := some (s.lockedFunc n) } else s
  | none => s

/-- LOCKED is entered when the criteria are met (R116, R117). -/
def lockSecond : State := if s.holdState != 2 && s.lockMet then s.enterLocked else s

/-- Learning in a second that began and ended LOCKED (R111). -/
def learnIf (was : Nat) : State := if was == 2 && s.holdState == 2 && s.learns then s.learnSecond else s

/-- The holdover state machine at a second boundary (R116–R119), with learning. -/
def holdSecond : State :=
  ((((s.discipline.autoStep.lockSecond).funcSecond).coastSecond).learnIf s.holdState).dailyEntry.holdShow

/-- TB_0 is steered by the frequency of the model in use from now on (R119, R208). -/
def steerModel : State :=
  let g := s.model.freq
  let t := if (s.hold.steer.head?.map (·.2)) = some g then s else s.setHold fun h => { h with steer := ((s.monitorNow, g) :: h.steer).take 64 }
  (t.setTime fun x => { x with coast := g }).showSteer

/-- The oscillator in use has changed: its model takes over at once, and steers TB_0 (R71, R110). -/
def oscTakeover : State :=
  let s1 := if s.selected.isNone then s.startCoast s.model.freq else s
  (((s1.setTime fun t => { t with watchOsc := true }).setHold fun h => { h with oscSince := some s.monitorNow }).steerModel).holdShow

/-! ### The ledger (R127–R137) -/

/-- The instant of the last phase sample of reference `n` in unwrapped TB_0 ticks; now when there is none. -/
def sampleInstant (n : Nat) : Int :=
  match (s.ref n).samples with
  | (x, _) :: _ => x + s.movedNow
  | [] => s.fullTicks 0

/-- Three times the standard deviation of the window's phase samples about their line, divisor N − 2, in 0.25 ns rounded up;
`none` with fewer than three (R130). -/
def phaseScatter (n : Nat) : Option Nat :=
  match s.windowSamples n (s.refWindowSecs n) with
  | [] => none
  | (x0, y0) :: _ =>
    let l := (s.windowSamples n (s.refWindowSecs n)).map fun e => (e.1 - x0, e.2 - y0)
    let k : Int := l.length
    let sx := l.foldl (fun a e => a + e.1) 0
    let sy := l.foldl (fun a e => a + e.2) 0
    let cxx := k * l.foldl (fun a e => a + e.1 * e.1) 0 - sx * sx
    let cxy := k * l.foldl (fun a e => a + e.1 * e.2) 0 - sx * sy
    let cyy := k * l.foldl (fun a e => a + e.2 * e.2) 0 - sy * sy
    if k < 3 ∨ cxx ≤ 0 then none
    else
      let num := (max 0 (cyy * cxx - cxy * cxy)).toNat
      let den := (cxx * k * (k - 2)).toNat
      let v := cdiv (9 * num) den
      let r := isqrt v
      some (cdiv (if r * r < v then r + 1 else r) quarterNs)

/-- The contributions of a selected time reference are taken live (R130). -/
def ledgerLive (n : Nat) : State :=
  let decl := s.rdn (Reg.refDeclared n)
  let refc := if 12 ≤ n then decl + (s.ref n).accUnc
    else match s.phaseScatter n with | some v => decl + v | none => 0xFFFFFFFF
  let meas := if n < 4 then s.rdn (Reg.loupeMeas n) else 0
  let dev := ((s.rd64i (Reg.refPhaseLo n) - s.pull).natAbs :: (if s.hold.anchorId = n && s.hold.wasTime then s.sel.dev else [])).take 16
  let s1 := { s with sel := { s.sel with dev := dev } }
  s1.setHold fun h => { h with
    anchorId := n, anchorT := if h.anchorId = n then max h.anchorT (s.sampleInstant n) else s.sampleInstant n, wasTime := true,
    fzRef := sat32 refc, fzPath := s.rdn (Reg.refPathUnc n), fzMeas := meas,
    fzPair := if n = 18 then h.pairBound else 0,
    fzPull := s.pull.natAbs, fzDev := dev.foldl max 0,
    holdAcc := 0, holdTo := none, absorb := 0 }

/-- The growth rate of this second in ppt, and whether it is a frequency reference's or the learned model's (R131). -/
def growthRate : Nat × Bool × Bool :=
  match s.selected with
  | some n => if isTimeRef n then (0, false, false) else (s.rdn (Reg.holdFacc (n - 4)) + s.funcShown, true, false)
  | none =>
    if s.holdState = 0 || !s.model.learned then (s.rdn Reg.holdClassFrate, false, false)
    else (s.hold.funcEntry + s.tunc, false, true)

/-- HOLD in 0.25 ns (R128, R131). -/
def holdTerm : Nat := sat32 (cdiv s.hold.holdAcc (250 * secondTicks) + s.hold.absorb)

/-- AGE in 0.25 ns at full-tick instant `nb` (R131). -/
def ageTerm (nb : Int) : Nat :=
  if s.hold.anchorId = 0x1F then 0
  else
    let t := (nb - s.hold.anchorT).toNat
    sat32 (cdiv (s.auncShown * t * t) (43200000 * secondTicks * secondTicks))

/-- HOLD grows up to instant `nb` (R131). -/
def ledgerGrow (nb : Int) : State :=
  let s1 := s.setHold fun h => { h with wasTime := false }
  if s.hold.anchorId = 0x1F then s1
  else
    let rate := s.growthRate.1
    s1.setHold fun h =>
      let from_ := h.holdTo.getD h.anchorT
      { h with holdAcc := h.holdAcc + rate * (nb - from_).toNat, holdTo := some (max nb from_) }

/-- The drift term of reference `n` (R77, R132): 0 once it has been out of use for a whole window; |FOFS| × S_n while DRIFT_WARN is set, and so 0
after it has entered DISQUALIFIED or FORCED_OFF with DRIFT_WARN set, where FOFS reads 0 (DESIGN CHOICE, log entry 52); otherwise its last value. -/
def driftTerm (n : Nat) : Nat :=
  let r := s.ref n
  if r.outOfUse.any fun k => decide (s.refWindowSecs n ≤ k) then 0
  else if s.on (Reg.refState n) Fld.refState_DRIFT_WARN then
    sat32 (cdiv ((s.rdi (Reg.refFofs n)).natAbs * r.warnSecs.length) 250)
  else s.rdn (Reg.ledgerDriftOf n)

/-- Show the bound, saturated when `grave` (R135, R136). -/
def showBoundIf (grave : Bool) : State :=
  let b := if grave then 0xFFFFFFFF else s.rdn Reg.ledgerSum
  ((s.wrn Reg.ledgerBound b).put Reg.ledgerStatus Fld.ledgerStatus_UNTRACEABLE grave.toNat).put Reg.ledgerStatus
    Fld.ledgerStatus_SATURATED (b == 0xFFFFFFFF).toNat

/-- Show the bound: saturated while a class-3 fault is latched (R135). -/
def showBound : State := s.showBoundIf s.class3

/-- OVER_LIMIT follows the published bound; each change raises interrupt 5 (R139). -/
def overLimit : State :=
  let ovr : Bool := s.rdn Reg.boundLimit < s.rdn Reg.ledgerBound
  let was := s.on Reg.ledgerStatus Fld.ledgerStatus_OVER_LIMIT
  (s.put Reg.ledgerStatus Fld.ledgerStatus_OVER_LIMIT ovr.toNat).raiseIrqIf (ovr != was) 5

/-- The eight contributions at an update, in register order: REF, PATH, MEAS, HOLD, STEER, AGE, DRIFT, PAIR (R130). -/
def contributions (timeSel : Bool) (nb : Int) : List Nat :=
  let h := s.hold
  [h.fzRef, h.fzPath, h.fzMeas, if timeSel then 0 else s.holdTerm, sat32 (cdiv (h.fzPull + h.fzDev) quarterNs),
   if timeSel then 0 else s.ageTerm nb, sat32 (((List.range 20).map s.driftTerm).foldl (· + ·) 0), h.fzPair]

/-- The ledger update (R129–R136); `differ` says that its two copies differ. -/
def ledgerUpdate (differ : Bool) : State :=
  let nb : Int := ((s.seconds 0 + 1) * secondTicks : Nat)
  let timeSel := match s.selected with | some n => isTimeRef n | none => false
  let s1 := match s.selected with
    | some n => if isTimeRef n then s.ledgerLive n else s.ledgerGrow nb
    | none => s.ledgerGrow nb
  let c := s1.contributions timeSel nb
  let total := sat32 (c.foldl (· + ·) 0)
  let drifts := (List.range 20).map s1.driftTerm
  let s2 := (List.range 20).foldl (fun t n => t.wrn (Reg.ledgerDriftOf n) (drifts.getD n 0)) s1
  let s3 := (s2.wrRun Reg.ledgerRef (c.map (BitVec.ofNat 32))).wrn Reg.ledgerSum total
  let hold := c.getD 3 0
  let age := c.getD 5 0
  let fell : Bool := match s1.hold.last with
    | some (i, t, h, a) => s.selected.isNone && i == s1.hold.anchorId && t == s1.hold.anchorT && (hold < h || age < a)
    | none => false
  let s4 := ((s3.raiseFaultIf differ 17 0).raiseFaultIf fell 17 1).setHold fun h =>
    { h with last := if s.selected.isNone then some (h.anchorId, h.anchorT, hold, age) else none }
  let g := s.growthRate
  let trace := s1.hold.anchorId * 2 ^ 24 + s.selId * 2 ^ 16 +
    (if timeSel then 0 else (if g.2.1 then 4 else 0) + (if g.2.2 && s.model.learned && s.model.fit then 2 else 0)) + s.oscB.toNat
  let at_ := if s1.hold.anchorId = 0x1F then 0 else uns 64 s1.hold.anchorT
  let s5 := ((s4.wrn Reg.ledgerTrace trace).wr64 Reg.ledgerAnchorTimeLo at_).incWrap Reg.ledgerStatus Fld.ledgerStatus_SEQ
  s5.showBoundIf (s.class3 || fell || differ)

/-- The BOUND_LIMIT test (R116, R139): interrupt 5 at each change of OVER_LIMIT; the holdover states follow the computed bound. -/
def boundLimitTest : State :=
  let s1 := s.overLimit
  let big : Bool := s.rdn Reg.boundLimit < s.rdn Reg.ledgerSum
  if s1.holdState = 3 && big then s1.setHoldState 4
  else if s1.holdState = 4 && !big then s1.setHoldState 3
  else s1

/-- Which rule of R138 applies, 1–6. -/
def classOrder : Nat :=
  if s.on Reg.ledgerStatus Fld.ledgerStatus_UNTRACEABLE || s.rdn Reg.ledgerBound == 0xFFFFFFFF then 1
  else if s.holdState = 0 then 2
  else if s.holdState = 4 then 3
  else if s.holdState = 3 then 4
  else
    match s.selected with
    | some n => if s.holdState = 2 && isTimeRef n && s.bit Reg.holdTraceMask n && s.rdn Reg.ledgerBound ≤ s.rdn Reg.boundLimit then 5 else 6
    | none => 6

/-- The clockClass of a rule of R138 from the class maps. -/
def classOf (order : Nat) : Nat :=
  let m := s.rdn Reg.holdClassMap0
  if order = 1 ∨ order = 2 then s.rdn Reg.holdClassMap1 % 256
  else if order = 3 then m / 2 ^ 24
  else if order = 4 then m / 2 ^ 8 % 256
  else if order = 5 then m % 256
  else m / 2 ^ 16 % 256

/-- Choose the published class (R138). -/
def classRule : State := s.put Reg.holdStatus Fld.holdStatus_CLASS (s.classOf s.classOrder)

/-- A class-3 fault has been latched or released: the bound, OVER_LIMIT and the class follow at once (R135, R138, R139). -/
def graveShow : State := ((s.showBound).overLimit).classRule

/-- A step of TB_0 of `d` ticks at tick time `now` is recorded (R134, R214); `auto` for the automatic step. -/
def recordStep (d : Int) (auto : Bool) : State :=
  let lim := max (-(2 ^ 63 - 1 : Int)) (min (2 ^ 63 - 1) d)
  let now := s.tick 0
  let s1 := (s.wr64i Reg.ledgerLastStepLo lim).wr64 Reg.ledgerLastStepTimeLo now
  let s2 := if auto then s1.putBit Reg.ledgerSteps 16 true else s1.incSat Reg.ledgerSteps ⟨0, 16⟩
  let timeSel := match s.selected with | some n => isTimeRef n | none => false
  let full : Int := s.fullTicks 0
  let s3 := if timeSel then
      if auto then s2.setHold fun h => { h with anchorId := s.selId, anchorT := full }
      else s2.setHold fun h => { h with anchorT := h.anchorT + d }
    else
      let unc := s.rdn Reg.ledgerStepUnc
      s2.setHold fun h => { h with
        anchorId := 0x1E, anchorT := full, wasTime := false, fzRef := unc, fzPath := 0, fzMeas := 0, fzPair := 0,
        fzPull := 0, fzDev := 0, holdAcc := 0, holdTo := none, absorb := 0, last := none }
  if auto then s3 else s3.wrn Reg.ledgerStepUnc 0xFFFFFFFF

end State

/-! ### History store and snapshots (R122–R126, R635) -/

/-- The model header of 256 octets (R635); `age` is the class ageing, which stands until a fit exists. -/
def OscModel.header (m : OscModel) (func age : Nat) : List Byte :=
  leBytesI 4 m.freq ++ leBytesI 4 m.ageRate ++ leBytes 4 (if m.learned && m.fit then m.aunc else age) ++ leBytes 4 func ++ leBytes 4 m.learn
    ++ leBytes 4 m.fitSpan ++ leBytes 4 (m.lastIdx.getD 0xFFFFFFFF) ++ leBytes 4 0 ++ leBytes 8 m.day0 ++ List.replicate 216 0

/-- A temperature table entry (R122). -/
def TempBin.octets (b : TempBin) : List Byte :=
  leBytesI 4 (rdiv b.off binScale) ++ leBytes 4 (sat32 (cdiv b.res (2 ^ 32))) ++ leBytes 4 b.n ++ leBytes 4 0

/-- A daily entry (R122). -/
def DayEntry.octets (e : DayEntry) : List Byte := leBytesI 4 e.freq ++ leBytesI 2 e.temp ++ leBytes 2 e.mins

/-- Half of the history store: 81,920 octets (R122). -/
def OscModel.octets (m : OscModel) (func age : Nat) : List Byte :=
  m.header func age ++ ((List.range 64).map fun k => (m.bins.get {} k).octets).flatten
    ++ ((m.ring.slurp {} 0 10080).map DayEntry.octets).flatten

/-- A snapshot header before BODY_DIGEST (R123). -/
def State.snapHead (s : State) : List Byte :=
  [0x54, 0x53, 0x48, 0x53] ++ leBytes 2 1 ++ leBytes 2 128 ++ leBytes 8 s.otp.uid.toNat ++ leBytes 8 (s.seconds 0)
    ++ leBytes 8 (s.tick 0) ++ [0xA2] ++ leBytes 1 s.oscB.toNat ++ leBytes 2 0 ++ leBytes 4 s.hold.a.learn
    ++ leBytes 4 s.hold.b.learn ++ leBytes 4 0

/-- The snapshot of the present state, signed (R123). -/
def State.snapshot (s : State) : List Byte :=
  let frate := s.rdn Reg.holdClassFrate
  let age := s.rdn Reg.holdClassAge
  let body := s.wearRecord ++ s.hold.a.octets (s.hold.a.func.getD frate) age ++ s.hold.b.octets (s.hold.b.func.getD frate) age
  let head := s.snapHead ++ leBytes 32 (Config.sha256 body).toNat ++ List.replicate 48 0
  head ++ body ++ leBytes 64 (Config.ed25519Sign head).toNat

/-- Set HOLD_SNAP_STATUS.RESULT. -/
def State.snapResult (s : State) (r : Nat) : State := s.put Reg.holdSnapStatus Fld.holdSnapStatus_RESULT r

/-- HOLD_SNAP_EXPORT (R124): refused as busy (6) or without the identity key (5); otherwise a snapshot of this update is built. -/
def execHoldSnapExport (s : State) : Res :=
  done (if s.on Reg.holdSnapStatus Fld.holdSnapStatus_BUSY then s.snapResult 6
  else if s.on Reg.keysStatus Fld.keysStatus_ID_OK then
    (s.setHold fun h => { h with building := s.snapshot, restoring := false }).put Reg.holdSnapStatus Fld.holdSnapStatus_BUSY 1
  else s.snapResult 5)

/-- HOLD_SNAP_EXPORT_DONE (R124): the window holds the snapshot and zeros beyond it, and RESULT reads 1. -/
def execHoldSnapExportDone (s : State) : Res :=
  done (if s.on Reg.holdSnapStatus Fld.holdSnapStatus_BUSY && !s.hold.restoring then
    ((s.setHold fun h => { h with window := SMap.ofList 0 0 h.building, building := [] }).put Reg.holdSnapStatus
      Fld.holdSnapStatus_BUSY 0).snapResult 1
  else s)

/-- The checks of a restore in the order of R125: 0 accepted, otherwise the RESULT. -/
def State.restoreCheck (s : State) : Nat :=
  let w := s.hold.window
  let head := SMap.slurp 0 w 0 128
  if slice head 0 8 ≠ [0x54, 0x53, 0x48, 0x53, 1, 0, 128, 0] then 4
  else if s.on Reg.holdSnapStatus Fld.holdSnapStatus_BUSY then 6
  else if 2 < s.holdState then 5
  else if leAt head 8 8 ≠ s.otp.uid.toNat
      || leAt head 0x30 32 ≠ (Config.sha256 (SMap.slurp 0 w 0x80 0x28100)).toNat
      || !Config.ed25519Verify s.otp.idPub head (BitVec.ofNat 512 (leNat (SMap.slurp 0 w 0x28180 64))) then 3
  else 0

/-- HOLD_SNAP_RESTORE (R125): the checks in order; the first failure sets RESULT and changes nothing else. -/
def execHoldSnapRestore (s : State) : Res :=
  done (
    let s1 := s.put Reg.holdSnapStatus Fld.holdSnapStatus_REFUSED 0
    match s.restoreCheck with
    | 0 => (s1.setHold fun h => { h with restoring := true, building := SMap.slurp 0 h.window 0 0x281C0 }).put
        Reg.holdSnapStatus Fld.holdSnapStatus_BUSY 1
    | 3 => (s1.put Reg.holdSnapStatus Fld.holdSnapStatus_REFUSED 1).snapResult 3
    | r => s1.snapResult r)

/-- The bins of a temperature table. -/
def readBins : Nat → List Byte → Nat → SMap TempBin
  | _, _, 0 => []
  | k, bs, n + 1 =>
    let b : TempBin := { off := leInt (slice bs 0 4) * binScale, res := leAt bs 4 4 * 2 ^ 32, n := leAt bs 8 4 }
    let rest := readBins (k + 1) (bs.drop 16) n
    if b = {} then rest else (k, b) :: rest

/-- The daily entries of an ageing ring. -/
def readRing : Nat → List Byte → Nat → SMap DayEntry
  | _, _, 0 => []
  | k, bs, n + 1 =>
    let e : DayEntry := { freq := leInt (slice bs 0 4), temp := leInt (slice bs 4 2), mins := leAt bs 6 2 }
    let rest := readRing (k + 1) (bs.drop 8) n
    if e = {} then rest else (k, e) :: rest

/-- A model after a restore from its half of the history store (R126): everything but its frequency and its uncertainty. -/
def OscModel.restored (m : OscModel) (bs : List Byte) : OscModel :=
  let last := leAt bs 0x18 4
  { m with
    ageRate := leInt (slice bs 4 4), aunc := leAt bs 8 4, func := none, learn := leAt bs 0x10 4,
    learned := 86400 ≤ leAt bs 0x10 4, fitSpan := leAt bs 0x14 4, fit := leAt bs 0x14 4 != 0,
    lastIdx := if last = 0xFFFFFFFF then none else some (last % 10080), day0 := leAt bs 0x20 6,
    bins := readBins 0 (bs.drop 0x100) 64, ring := readRing 0 (bs.drop 0x500) 10080, dayFreq := 0, dayTemp := 0, daySecs := 0 }

/-- The frequency of the last daily entry with locked minutes (R126). -/
def OscModel.lastFreq (m : OscModel) : Option Int :=
  match m.lastIdx with
  | none => none
  | some i => (((List.range 10080).map fun j => m.ring.get ({} : DayEntry) ((i + 10080 - j) % 10080)).find? fun e => decide (0 < e.mins)).map (·.freq)

/-- HOLD_SNAP_RESTORE_DONE (R126): both models and the wear record are replaced; in FREE_RUN the frequency is that of the last locked day. -/
def execHoldSnapRestoreDone (s : State) : Res :=
  done (if s.on Reg.holdSnapStatus Fld.holdSnapStatus_BUSY && s.hold.restoring then
    let bs := s.hold.building
    let free := s.holdState == 0
    let up (m : OscModel) (o : Nat) : OscModel :=
      let m1 := m.restored (slice bs o 81920)
      if free then { m1 with freq := m1.lastFreq.getD m1.freq } else m1
    let s1 := s.setHold fun h => { h with a := up h.a 0x180, b := up h.b 0x14180, building := [], restoring := false }
    (((s1.wearRestore (slice bs 0x80 256)).put Reg.holdSnapStatus Fld.holdSnapStatus_BUSY 0).snapResult 2).holdShow
  else s)

end Sys2Proof.Machine
end

