-- ==== Sys2Proof/Machine/Refs.lean ====
section
/-!
DEFINITION. References, the selector and the oscillators (R68–R109): monitors, qualification, ranks, disagreement and
votes, pulls, offset commits and the change of oscillator.
-/

namespace Sys2Proof.Machine

namespace State

variable (s : State)

/-! ### Estimates (R75) -/

/-- The least-squares slope of phase samples, in ppt. -/
def slope (l : List (Int × Int)) : Int :=
  match l with
  | [] => 0
  | (x0, y0) :: _ =>
    let d := l.map fun e => (e.1 - x0, e.2 - y0)
    let k : Int := d.length
    let sx := d.foldl (fun a e => a + e.1) 0
    let sy := d.foldl (fun a e => a + e.2) 0
    let cxx := k * d.foldl (fun a e => a + e.1 * e.1) 0 - sx * sx
    let cxy := k * d.foldl (fun a e => a + e.1 * e.2) 0 - sx * sy
    rdiv (1000000000000 * cxy) cxx

/-- The samples of reference `n` that a test can still need: those of its window and of the last second, and the newest two (R75). -/
def keepSamples (n : Nat) : State :=
  let lo := s.monitorNow - s.refWindowSecs n * secondTicks
  s.setRef n fun r => { r with samples := r.samples.take 2 ++ (r.samples.drop 2).filter fun e => decide (lo < e.1) }

/-- Recompute FOFS and FOFS_SHORT of reference `n`: the slopes over its window and over one second (R75). -/
def updateFofs (n : Nat) : State :=
  let t := s.keepSamples n
  if (t.ref n).samples.length < 2 then (t.wr (Reg.refFofs n) 0).wr (Reg.refFofsShort n) 0
  else (t.wriSat (Reg.refFofs n) (slope (t.windowSamples n (s.refWindowSecs n)))).wriSat (Reg.refFofsShort n) (slope (t.windowSamples n 1))

/-- The reference has the samples that R75 asks for before any test. -/
def hasEstimate (n : Nat) : Bool := 2 ≤ (s.ref n).samples.length

/-- The samples since the restart span at least one second (R75, R81). -/
def spansSecond (n : Nat) : Bool :=
  match (s.ref n).samples, (s.ref n).first with
  | (x, _) :: _ :: _, some y => (secondTicks : Int) ≤ x - y
  | _, _ => false

/-- HARD_LIMIT in ppt. -/
def hardLimit (n : Nat) : Nat := s.rdn (Reg.refHardLimit n)

/-- SOFT_LIMIT, at most HARD_LIMIT (R76). -/
def softLimit (n : Nat) : Nat := min (s.rdn (Reg.refSoftLimit n)) (s.hardLimit n)

/-! ### State changes (R81) -/

/-- Put reference `n` in state `st`; a change raises interrupt 1. -/
def enterRef (n st : Nat) : State :=
  (s.put (Reg.refState n) Fld.refState_STATE st).raiseIrqIf (s.refState n != st) 1

/-- Set the history bit of reference `n`. -/
def history (n : Nat) (f : Bits) : State := s.put (Reg.refHistory n) f 1

/-- Set KIND. -/
def setKind (n k : Nat) : State := s.put (Reg.refState n) Fld.refState_KIND k

/-- The monitor discards its samples (R75). -/
def discardSamples (n : Nat) : State :=
  ((s.setRef n fun r => { r with samples := [], first := none, agree := [], warnClear := 0 }).wr (Reg.refFofs n) 0).wr (Reg.refFofsShort n) 0

/-- Enter DISQUALIFIED (R75, R81).  WTR_LEFT keeps the seconds that remained where a wait ends by a fault, and at FORCED_OFF where it ends by a
disable (DESIGN CHOICE, log entry 52). -/
def disqualify (n : Nat) : State := ((s.setKind n 0).discardSamples n).enterRef n 0

/-- Enter WAIT_TO_RESTORE with WTR_LEFT loaded. -/
def waitRestore (n : Nat) : State :=
  ((s.setKind n 0).wrn (Reg.refWtrLeft n) (s.rdn (Reg.refWtr n) % 65536)).enterRef n 1

/-- Enter INCONSISTENT with a KIND: 1 PHASE, 2 FREQUENCY; reference 16 also raises fault 31 (R81, R94). -/
def inconsistent (n k : Nat) : State :=
  ((((s.setKind n k).history n Fld.refHistory_EVER_INCONSISTENT).setRef n fun r => { r with agree := [] }).enterRef n 4).raiseFaultIf (n == 16) 31 0

/-- Three times the bound on TB_0, in ticks (R83). -/
def bound3 : Nat := 3 * s.rdn Reg.ledgerBound * quarterNs

/-- The phase rule: it applies once LOCKED has been reached (R83). -/
def failsPhase (n : Nat) : Bool :=
  isTimeRef n && s.on Reg.holdStatus Fld.holdStatus_EVER_LOCKED && s.bound3 < (s.rd64i (Reg.refPhaseLo n)).natAbs

/-! ### The selector (R87–R98) -/

/-- The rank of reference `n`. -/
def rank (n : Nat) : Nat := s.fld (Reg.refCtrl n) Fld.refCtrl_RANK

/-- The reference is blocked by a disagreement (R91). -/
def blocked (n : Nat) : Bool := s.bit Reg.selDisagree n

/-- QUALIFIED or SELECTED. -/
def usable (n : Nat) : Bool := s.refState n == 2 || s.refState n == 3

/-- Eligible (R87). -/
def eligible (n : Nat) : Bool := s.usable n && !s.blocked n

/-- The eligible reference of least rank, the lowest ID among equals (R87). -/
def best : Option Nat :=
  (List.range 20).foldl (fun b n =>
    if s.eligible n then
      match b with
      | none => some n
      | some m => if s.rank n < s.rank m then some n else b
    else b) none

/-- The AUTO decision (R87). -/
def autoChoice : Option Nat :=
  match s.selected with
  | some c =>
    if s.refState c == 3 && s.blocked c then some c
    else
      match s.best with
      | none => none
      | some b => if s.eligible c && (!s.on Reg.selCtrl Fld.selCtrl_REVERTIVE || s.rank c == s.rank b) then some c else some b
  | none => s.best

/-- The decision of the mode in force (R87, R109). -/
def choice : Option Nat :=
  match s.fld Reg.selCtrl Fld.selCtrl_MODE with
  | 0 => s.autoChoice
  | 1 =>
    let m := s.fld Reg.selCtrl Fld.selCtrl_MANUAL_ID
    if m < 20 && s.usable m then some m else none
  | _ => none

/-- A time reference `n` that is selected leaves its last sample as the anchor, which may be later than the last update; a new anchor restarts
HOLD and AGE (R127, R131). -/
def keepAnchor (n : Nat) : State :=
  if s.selected == some n && isTimeRef n && !(s.ref n).samples.isEmpty then
    let x := s.sampleInstant n
    s.setHold fun h =>
      if h.anchorId = n then { h with anchorT := max h.anchorT x, wasTime := false }
      else { h with anchorId := n, anchorT := x, wasTime := false, holdAcc := 0, holdTo := none, absorb := 0, last := none }
  else s

/-- Leave the old selection: QUALIFIED again when it was still SELECTED (R81, R127). -/
def leaveSelection (old : Option Nat) : State :=
  match old with
  | none => s
  | some o => (s.keepAnchor o).put (Reg.refState o) Fld.refState_STATE (if s.refState o = 3 then 2 else s.refState o)

/-- What the pull has moved so far is counted, and SEL_PULL holds what remains (R96). -/
def holdPull : State := (s.wr64i Reg.selPullLo s.pull).settleMotion

/-- The pull of a new selection: towards a time reference's phase; absorbed for a frequency reference (R95, R96, R190). -/
def startPull (old new : Option Nat) : State :=
  let s := s.holdPull
  match new with
  | none => s.put Reg.selStatus Fld.selStatus_PULLING 0
  | some n =>
    if isTimeRef n then
      let p := s.pullTarget n
      (s.wr64i Reg.selPullLo p).put Reg.selStatus Fld.selStatus_PULLING (p != 0).toNat
    else
      let m := s.rdn (Reg.loupeMeas n) + (match old with | some o => if o < 12 then s.rdn (Reg.loupeMeas o) else 0 | none => 0)
      ((s.wr64i Reg.selPullLo 0).put Reg.selStatus Fld.selStatus_PULLING 0).setHold fun h => { h with absorb := h.absorb + m }

/-- Record a switch (R88); OSC_FOFS reads 0 with no selection (R108). -/
def recordSwitch (old new : Option Nat) (reason : Nat) : State :=
  let f := old.getD 0x1F
  let t := new.getD 0x1F
  let s := if new.isNone then s.wr Reg.oscFofs 0 else s
  ((((s.put Reg.selStatus Fld.selStatus_SELECTED_ID t).wrn Reg.selLast (f * 2 ^ 24 + t * 2 ^ 16 + reason)).wr64
    Reg.selLastTimeLo (s.tick 0)).incSat Reg.selStatus Fld.selStatus_SWITCHES).raiseIrq 2

/-- Change the selection (R88, R95–R98, R116, R138). -/
def switchTo (old new : Option Nat) (reason : Nat) : State :=
  let s1 := (((s.leaveSelection old).startPull old new).recordSwitch old new reason).raiseIrqIf
    (match old with | some o => s.refState o == 3 | none => false) 1
  let s2 := match new with
    | some n => (s1.history n Fld.refHistory_EVER_SELECTED).enterRef n 3
    | none => s1
  (s2.holdOnSelect old).classRule

/-- Decide again; `cause` is the REASON of the event, 0 when it names none (R87, R109).  The spec names no REASON for a selection that follows no
selection, nor for one that a lifted block allows: the model writes 0 (DESIGN CHOICE, log entry 52). -/
def selDecide (cause : Nat) : State :=
  let old := s.selected
  let new := s.choice
  if new == old then s
  else
    let reason :=
      if cause ≠ 0 then cause
      else match old, new with
        | some o, some _ => if s.refState o = 3 then 3 else 0
        | some _, none => if s.rdn Reg.selDisagree ≠ 0 then 6 else 0
        | none, _ => 0
    s.switchTo old new reason

/-- Where `n` is the selected time reference, its loss stops the pull at once: SEL_PULL keeps what remains, which STEER carries (R98, R130, R209). -/
def stopPull (n : Nat) : State :=
  if s.selected == some n && isTimeRef n then
    let t := s.holdPull
    ((t.setTime fun x => { x with pullRate := 0 }).setHold fun h => { h with fzPull := t.pull.natAbs }).showSteer
  else s

/-- A fault of reference `n`, a loss of activity or a phase hit, or a hard-limit crossing: what it does to the reference (R76, R81). -/
def loseRef (n : Nat) (hard : Bool) : State :=
  let st := s.refState n
  if st == 1 || st == 2 || st == 3 || st == 4 then
    let s1 := s.history n Fld.refHistory_EVER_LOST
    let s2 := if hard then s1.history n Fld.refHistory_EVER_DRIFT_HARD else s1
    ((s2.stopPull n).keepAnchor n).disqualify n
  else s

/-- A fault of reference `n`, on which the selector decides (R81, R87). -/
def refFault (n : Nat) : State :=
  if s.refState n == 0 || s.refState n == 5 then s
  else (s.loseRef n false).selDecide (if s.selected == some n then 1 else 0)

/-- A loss of activity (R74). -/
def activityLoss (n : Nat) : State := (s.put (Reg.refState n) Fld.refState_ACTIVITY 0).refFault n

/-! ### Phase samples (R78, R79, R99) -/

/-- Whether a new sample is a phase hit (R78). -/
def isPhaseHit (n : Nat) (x y : Int) : Bool :=
  let th := s.rdn (Reg.refPhaseHit n) % 2 ^ 24
  match (s.ref n).samples with
  | (x0, y0) :: _ =>
    th != 0 && th * 65536 < (y - y0 - s.rdi (Reg.refFofs n) * (x - x0) / 1000000000000).natAbs
  | [] => false

/-- Reference `n` shows activity (R74). -/
def active (n : Nat) : State :=
  (s.put (Reg.refState n) Fld.refState_ACTIVITY 1).setRef n fun r => { r with lastAct := some s.monitorNow }

/-- A phase sample of reference `n`: a hit counts as a loss of activity, otherwise the sample is kept (R75, R78).  In DISQUALIFIED a hit also
discards the history, which restarts with the next sample (DESIGN CHOICE, log entry 52). -/
def phaseSample (n : Nat) (x y : Int) : State :=
  let s1 := s.setRef n fun r => { r with lastStamp := some s.monitorNow }
  if s.isPhaseHit n x y then
    (if s.refState n == 0 then (s1.discardSamples n).put (Reg.refState n) Fld.refState_ACTIVITY 0 else s1.activityLoss n)
  else (s1.setRef n fun r => { r with samples := (x, y) :: r.samples, first := some (r.first.getD x) }).active n

/-- Whether the monitor of reference `n` runs (R80). -/
def monitored (n : Nat) : Bool := s.refState n != 5

end State

/-! ### Commands of the references -/

/-- REF_ENABLE (R81): a FORCED_OFF reference starts its monitors in DISQUALIFIED. -/
def execRefEnable (n : Fin 20) (s : State) : Res :=
  done (
    let s1 := s.put (Reg.refCtrl n) Fld.refCtrl_ENABLE 1
    if s.refState n = 5 then
      (((s1.setRef n fun r => { r with lastAct := none, lastStamp := some s.monitorNow, evt := none }).discardSamples n).enterRef n 0).selDecide 0
    else s1)

/-- REF_DISABLE (R81): any state becomes FORCED_OFF with KIND NONE; a selected reference is left with reason 8. -/
def execRefDisable (n : Fin 20) (s : State) : Res :=
  done (
    let s1 := s.put (Reg.refCtrl n) Fld.refCtrl_ENABLE 0
    if s.refState n = 5 then s1
    else
      let sel := s.selected == some n.val
      let s2 := (s1.stopPull n).keepAnchor n
      let s3 := (((s2.setKind n 0).discardSamples n).put (Reg.refState n) Fld.refState_ACTIVITY 0).setRef n fun r =>
        { r with lastLabel := none, labelWritten := false, unlabelled := 0, waiting := none }
      (s3.enterRef n 5).selDecide (if sel then 8 else 0))

/-- REF_ACCEPT (R81, R103): an INCONSISTENT reference becomes QUALIFIED; no effect in other states. -/
def execRefAccept (n : Fin 20) (s : State) : Res :=
  done (if s.refState n = 4 then ((s.setKind n 0).enterRef n 2).selDecide 0 else s)

/-- The monitor divider of reference 4–11: N of R73 for CLKIN_n, and 1 for LINE_n, which arrives divided to 1 kHz. -/
def State.monitorDiv (s : State) (n : Nat) : Nat := if n < 8 then max 1 (s.rdn (Reg.refNominal n) / 1000) else 1

/-- The nominal time of `k` monitor events of reference 4–11, in ticks (R73). -/
def State.eventTime (s : State) (n k : Nat) : Nat :=
  if n < 8 then k * s.monitorDiv n * secondTicks / max 1 (s.rdn (Reg.refNominal n)) else k * secondTicks / 1000

/-- REF_MONITOR_EVENT (R73, R78, R184): the monitor of a frequency reference takes the event that its channel has counted out: activity, and where
the channel stamped it a phase sample, the nominal time of the events counted less TB_0 without its deliberate motion. -/
def execRefMonitorEvent (n : Fin 8) (s : State) : Res :=
  done (
    let m := 4 + n.val
    match (s.ref m).evt with
    | none => s
    | some (at_, k) =>
      let s1 := s.setRef m fun r => { r with evt := none }
      if s.monitored m then
        match at_ with
        | none => s1.active m
        | some c =>
          let x := c - s.movedAt c
          s1.phaseSample m x (s.eventTime m k - x)
      else s1)

/-- PPSIN_PULSE (R79, R184): the pulse that the channel has seen takes the label written before it, or the previous label plus one; where the
channel stamped it and a label exists, it gives a phase sample. -/
def execPpsinPulse (n : Fin 4) (s : State) : Res :=
  done (
    match (s.ref n).evt with
    | none => s
    | some (at_, _) =>
      let s0 := s.setRef n fun r => { r with evt := none }
      if s.monitored n then
        let r := s.ref n
        let wl := r.labelWritten
        let label := if wl then some (s.rdn (Reg.refTodSecLo n) + s.rdn (Reg.refTodSecHi n) % 65536 * 2 ^ 32) else r.lastLabel.map (· + 1)
        let un := if wl then 0 else r.unlabelled + 1
        let s1 := ((s0.put (Reg.refState n) Fld.refState_TOD_OK wl.toNat).setRef n fun r =>
          { r with lastLabel := label, labelWritten := false, unlabelled := un }).active n
        let s2 := match label, at_ with
          | some l, some c =>
            let p : Int := (l * secondTicks : Nat) + s1.rd64i (Reg.refDelayLo n) - c
            (s1.wr64i (Reg.refPhaseLo n) p).phaseSample n (c - s1.movedAt c) (p + s1.movedAt c)
          | _, _ => s1
        if max 1 (s.fld (Reg.refTodCfg n) Fld.refTodCfg_TIMEOUT) ≤ un then s2.activityLoss n else s2
      else s0)

/-- The time in ticks without an event or an offset after which reference `n` is lost (R74). -/
def State.lossTime (s : State) (n : Nat) : Nat :=
  if n < 4 then secondTicks + secondTicks / 1000
  else if n < 8 then 2 * s.eventTime n 1
  else if n < 12 then 2 * (secondTicks / 1000)
  else max 1 (s.rdn (Reg.refOfsTimeout n) % 256) * secondTicks

/-- Reference `n` is lost now: no event for its detection time, or no stamp of its channel for 2 s (R74, R184). -/
def State.lossDue (s : State) (n : Nat) : Bool :=
  (match (s.ref n).lastAct with | some x => decide (x + s.lossTime n ≤ s.monitorNow) | none => true) ||
    (decide (n < 12) && (s.ref n).lastStamp.any fun x => decide (x + 2 * secondTicks ≤ s.monitorNow))

/-- REF_ACTIVITY_LOSS (R74, R98): a reference whose detection time has passed is lost. -/
def execRefActivityLoss (n : Fin 20) (s : State) : Res :=
  done (if s.monitored n && s.lossDue n then s.activityLoss n else s)

/-- TOD_RX_OCTET (R79, R551): the octet enters the 256-octet FIFO; interrupt 10 at a crossing of the level; fault 40 when full. -/
def execTodRxOctet (n : Fin 4) (octet : Byte) (s : State) : Res :=
  done (
    let r := s.ref n
    if r.tod.length < 256 then
      (s.setRef n fun r => { r with tod := r.tod ++ [octet.toNat] }).raiseIrqIf
        (Fifo.crosses (s.fld (Reg.refTodCfg n) Fld.refTodCfg_LEVEL) r.tod.length (r.tod.length + 1)) 10
    else (s.setRef n fun r => { r with todOver := true }).raiseFault 40 (n * 256 + 6))

/-- TOD_DATA_READ (R106, R551): the oldest octet leaves and the register shows it with OVERRUN; an empty FIFO shows the last with UNDERRUN. -/
def execTodDataRead (n : Fin 4) (s : State) : Res :=
  done (
    let r := s.ref n
    match r.tod with
    | o :: os =>
      (s.setRef n fun r => { r with tod := os, todLast := o, todOver := false }).wrn (Reg.refTodData n) (o + r.todOver.toNat * 512)
    | [] => (s.setRef n fun r => { r with todOver := false }).wrn (Reg.refTodData n) (r.todLast + 256 + r.todOver.toNat * 512))

namespace State

variable (s : State)

/-- The structure gives the part a GNSS_LOOP lane, which then writes the offsets of reference 16 (R101). -/
def hasGnssLane : Bool := (List.range 256).any fun n => s.param 0x30 n / 16 % 4 == 2

/-- An offset set is handed to the monitor of reference `m` (R99, R100). -/
def ofsOffer (m : Nat) (ofs : Int) (time unc : Nat) : State :=
  match ofsVerdict (s.tick 0) time with
  | 1 => s.incSat (Reg.refOfsStatus m) Fld.refOfsStatus_STALE
  | 2 => s.incSat (Reg.refOfsStatus m) Fld.refOfsStatus_FUTURE
  | _ => (s.incWrap (Reg.refOfsStatus m) Fld.refOfsStatus_ACCEPTED).setRef m fun r =>
      { r with waiting := some ⟨ofs, time, unc⟩, accUnc := unc, lastAct := some s.monitorNow }

/-- An offset set from hardware: accepted ones show in the offset registers (R101). -/
def ofsFromHardware (m : Nat) (ofs : Int) (time unc : Nat) : State :=
  let s1 := s.ofsOffer m ofs time unc
  if ofsVerdict (s.tick 0) time = 0 then
    ((s1.wr64i (Reg.refOfsLo m) ofs).wr64 (Reg.refOfsTimeLo m) time).wrnSat (Reg.refOfsUnc m) unc
  else s1

end State

/-- REF_OFS_COMMIT (R99–R101): 1 written for reference 19, or 16 without a GNSS_LOOP lane, commits the set; other values and references ignore it. -/
def execRefOfsCommit (n : Fin 8) (value : Word) (s : State) : Res :=
  done (
    let m := 12 + n.val
    if value = 1 ∧ (m = 19 ∨ (m = 16 ∧ s.hasGnssLane = false)) then
      s.ofsOffer m (s.rd64i (Reg.refOfsLo m)) (s.rd64 (Reg.refOfsTimeLo m)) (s.rdn (Reg.refOfsUnc m))
    else s)

/-- REF_OFS_TAKE (R100): the monitor takes the waiting offset as one phase sample, at most 1,024 of them in a second. -/
def execRefOfsTake (n : Fin 8) (s : State) : Res :=
  done (
    let m := 12 + n.val
    match (s.ref m).waiting with
    | none => s
    | some w =>
      if 1024 ≤ (s.ref m).takes then s
      else
        let s1 := s.setRef m fun r => { r with waiting := none, takes := r.takes + 1 }
        if s.monitored m then
          let x := (s.fullTicks 0 : Int) - State.tickDiff (s.tick 0) w.time
          (s1.wr64i (Reg.refPhaseLo m) w.ofs).phaseSample m (x - s.movedAt x) (w.ofs + s.movedAt x)
        else s1)

/-- The wait-to-restore time of reference `n` has run out (R81, R83): QUALIFIED, or INCONSISTENT when it fails the phase rule. -/
def State.wtrEnd (s : State) (n : Nat) : State :=
  let t := s.wrn (Reg.refWtrLeft n) 0
  if t.failsPhase n then t.inconsistent n 1 else t.enterRef n 2

/-- REF_WTR_EXPIRE (R81): the last second of WTR_LEFT ends; the selector decides on the result. -/
def execRefWtrExpire (n : Fin 20) (s : State) : Res :=
  done (if s.refState n = 1 ∧ s.rdn (Reg.refWtrLeft n) % 65536 ≤ 1 then (s.wtrEnd n).selDecide 0 else s)

/-- SEL_CTRL_WRITE (R87, R109): mode, MANUAL_ID and REVERTIVE are stored; a change of mode or MANUAL_ID makes the selector decide, with reason 4. -/
def execSelCtrlWrite (value : Word) (s : State) : Res :=
  done (
    let s1 := s.wr Reg.selCtrl (value &&& 0x1F23)
    let eff (t : State) := (min 2 (t.fld Reg.selCtrl Fld.selCtrl_MODE), t.fld Reg.selCtrl Fld.selCtrl_MANUAL_ID)
    if eff s = eff s1 then s1 else s1.selDecide 4)

/-! ### Oscillators (R70–R72) -/

namespace State

variable (s : State)

/-- Whether an oscillator is fitted: OSC_A always, OSC_B by B_FITTED. -/
def oscFitted (o : Nat) : Bool := o == 0 || s.bit Reg.oscCtrl 1

/-- Whether an oscillator is judged failed. -/
def oscFailed (o : Nat) : Bool := s.bit Reg.oscStatus (1 + o)

/-- Take oscillator `o` into use, hitlessly (R71, R72, R110, R151); where there was none, the levels of faults 14 and 15 end. -/
def useOsc (o : Nat) : State :=
  let s0 := if s.sel.oscNone then (((s.dropLevel 14).dropLevel 15).setTime fun t => { t with watchOsc := true }) else s
  let s1 := { s0 with sel := { s0.sel with oscNone := false } }
  if s.oscB == (o == 1) then s1 else (s1.putBit Reg.oscStatus 0 (o == 1)).oscTakeover

/-- Oscillator `o` fails (R70, R71, R151): when it is in use, fault 14; the other is taken when fitted and not failed, otherwise fault 15, and none is in
use until host software selects one. -/
def oscFail (o : Nat) : State :=
  if s.oscFailed o then s
  else
    let s1 := s.putBit Reg.oscStatus (1 + o) true
    if !s.sel.oscNone && s.oscB == (o == 1) then
      let other := 1 - o
      if s.oscFitted other && !s.oscFailed other then (s1.raiseFault 14 o).useOsc other
      else (({ s1 with sel := { s1.sel with oscNone := true } } : State).raiseHeld 14 o).raiseHeld 15 0
    else s1

/-- Oscillator `o` recovers (R70). -/
def oscRecover (o : Nat) : State := s.putBit Reg.oscStatus (1 + o) false

/-- The verdict on oscillator `o` over 16 s with its offset from the selected reference (R70). -/
def judgeOsc (o : Nat) (ofs : Int) (edges : Bool) : State :=
  let far := s.selected.isSome && s.rdn Reg.oscFlimit < ofs.natAbs
  if !s.oscFitted o then s
  else if s.oscFailed o then (if edges && !far then s.oscRecover o else s)
  else if far then s.oscFail o else s

end State

/-! ### The second boundary of the monitors and the selector (R75–R93, R137 steps 1 and 2) -/

namespace State

variable (s : State)

/-- The drift limits of reference `n` (R76): the soft limit warns, the hard limit disqualifies. -/
def driftLimits (n : Nat) : State :=
  if !s.monitored n || !s.hasEstimate n then s
  else
    let f := (s.rdi (Reg.refFofs n)).natAbs
    let warn := s.on (Reg.refState n) Fld.refState_DRIFT_WARN
    let s1 :=
      if s.softLimit n < f then
        ((s.put (Reg.refState n) Fld.refState_DRIFT_WARN 1).history n Fld.refHistory_EVER_DRIFT_WARN).setRef n fun r => { r with warnClear := 0 }
      else if warn then
        let k := if f * 10 < s.softLimit n * 8 then (s.ref n).warnClear + 1 else 0
        let t := s.setRef n fun r => { r with warnClear := k }
        if s.refWindowSecs n < k then (t.put (Reg.refState n) Fld.refState_DRIFT_WARN 0).setRef n fun r => { r with warnClear := 0 } else t
      else s
    if s.hardLimit n < f then s1.loseRef n true else s1

/-- A DISQUALIFIED reference with a second of good samples starts its wait, and a wait counts down (R81). -/
def qualifyStart (n : Nat) : State :=
  if s.refState n == 0 && s.on (Reg.refState n) Fld.refState_ACTIVITY && s.spansSecond n
      && decide ((s.rdi (Reg.refFofsShort n)).natAbs ≤ s.hardLimit n) then s.waitRestore n
  else if s.refState n == 1 then
    let left := s.rdn (Reg.refWtrLeft n) % 65536 - 1
    if left = 0 then s.wtrEnd n else s.wrn (Reg.refWtrLeft n) left
  else s

/-- The phase rule on a QUALIFIED time reference (R83). -/
def phaseRule (n : Nat) : State := if s.refState n == 2 && s.failsPhase n then s.inconsistent n 1 else s

/-- Count for how long the FOFS of each other usable reference has agreed with an INCONSISTENT one (R84). -/
def countAgree (n : Nat) : State :=
  if s.refState n == 4 then
    let lim := s.rdn (Reg.selAgree (s.rank n))
    s.setRef n fun r => { r with agree := (List.range 20).foldl (fun m k =>
      m.set 0 k (if k != n && s.usable k && s.hasEstimate k && s.hasEstimate n
          && decide ((s.rdi (Reg.refFofs k) - s.rdi (Reg.refFofs n)).natAbs ≤ lim) then m.get 0 k + 1 else 0)) r.agree }
  else s

/-- An INCONSISTENT reference that another agrees with returns to its wait (R84). -/
def clearInconsistent (n : Nat) : State :=
  if s.refState n == 4 then
    let byPhase := s.fld (Reg.refState n) Fld.refState_KIND == 1
    let agrees (k : Nat) : Bool := k != n && s.usable k &&
      (if byPhase then isTimeRef k && decide ((s.rd64i (Reg.refPhaseLo k) - s.rd64i (Reg.refPhaseLo n)).natAbs ≤ s.bound3)
       else s.refWindowSecs n < (s.ref n).agree.get 0 k)
    if (List.range 20).any agrees then s.waitRestore n else s
  else s

/-- The pairs of equal rank that disagree (R91). -/
def disputes : List (Nat × Nat) :=
  let us := (List.range 20).filter s.usable
  (us.map fun a => (us.filter fun b => a < b && s.rank a == s.rank b
    && decide (s.rdn (Reg.selAgree (s.rank a)) < (s.rdi (Reg.refFofs a) - s.rdi (Reg.refFofs b)).natAbs)).map fun b => (a, b)).flatten

/-- The vote of an estimate `f` on a pair: 1 for the first, 2 for the second, 0 none (R92, R93). -/
def voteOf (lim : Nat) (f a b : Int) : Nat :=
  let ya : Bool := (f - a).natAbs ≤ lim
  let yb : Bool := (f - b).natAbs ≤ lim
  if ya && !yb then 1 else if yb && !ya then 2 else 0

/-- The votes on a disputed pair: for the first and for the second (R92). -/
def votes (p : Nat × Nat) (voters : List Nat) : Nat × Nat :=
  let lim := s.rdn (Reg.selAgree (s.rank p.1))
  let fa := s.rdi (Reg.refFofs p.1)
  let fb := s.rdi (Reg.refFofs p.2)
  let vs := (voters.map fun v => voteOf lim (s.rdi (Reg.refFofs v)) fa fb) ++ (if s.model.learned then [voteOf lim 0 fa fb] else [])
  (vs.count 1, vs.count 2)

/-- One disputed pair: the minority becomes INCONSISTENT, or the pair stays blocked (R92, R93). -/
def resolvePair (p : Nat × Nat) (voters : List Nat) : State × Bool :=
  if s.usable p.1 && s.usable p.2 then
    let v := s.votes p voters
    if v.1 == v.2 then (s, true)
    else
      let loser := if v.2 < v.1 then p.2 else p.1
      (((s.stopPull loser).keepAnchor loser).inconsistent loser 2, false)
  else (s, false)

/-- The disagreement check and the votes of one second (R91–R93). -/
def disagreeSecond : State :=
  let ps := s.disputes
  let hot := ps.map (·.1) ++ ps.map (·.2)
  let voters := (List.range 20).filter fun n => s.usable n && !hot.contains n
  let r := ps.foldl (fun (acc : State × List (Nat × Nat)) p =>
    let q := acc.1.resolvePair p voters
    (q.1, if q.2 then acc.2 ++ [p] else acc.2)) (s, [])
  let open_ := r.2
  let bits := (open_.map (·.1) ++ open_.map (·.2)).foldl (fun m n => m ||| 2 ^ n) 0
  let s1 := (r.1.wrn Reg.selDisagree bits).put Reg.selStatus Fld.selStatus_DISAGREE (bits != 0).toNat
  let s2 := (List.range 20).foldl (fun t n => (t.put (Reg.refState n) Fld.refState_BLOCKED (bits.testBit n).toNat).setRef n fun r =>
    { r with voter := !ps.isEmpty && voters.contains n }) s1
  let new := open_.filter fun p => !s.sel.noVote.contains p
  let s3 := new.foldl (fun t _ => t.raiseIrq 1) s2
  { s3 with sel := { s3.sel with noVote := open_ } }

/-- The seconds in which reference `n` was SELECTED with DRIFT_WARN set, within its window (R132), as the second that ends finds it; `sel` says that
it was SELECTED in that second. -/
def warnSecond (n : Nat) (sel : Bool) : State :=
  let sec := s.seconds 0
  let add := sel && s.on (Reg.refState n) Fld.refState_DRIFT_WARN
  s.setRef n fun r =>
    { r with takes := 0, warnSecs := (if add then sec :: r.warnSecs else r.warnSecs).filter fun t => decide (sec < t + s.refWindowSecs n) }

/-- Whole seconds for which reference `n` has been neither SELECTED nor a voter (R77). -/
def driftUse (n : Nat) : State :=
  s.setRef n fun r => { r with outOfUse := if s.refState n == 3 || r.voter then none else some (r.outOfUse.elim 0 (· + 1)) }

/-- Apply `f` to every reference in order of ID (R85). -/
def eachRef (f : State → Nat → State) : State := (List.range 20).foldl f s

/-- The monitor of reference `n` at a second boundary: its drift limits, else the change of the state it is in (R76, R81, R83, R84). -/
def monitorOne (n : Nat) : State :=
  let st := s.refState n
  let t := (s.driftLimits n).warnSecond n (st == 3)
  if t.refState n != st then t
  else
    match st with
    | 0 => t.qualifyStart n
    | 1 => t.qualifyStart n
    | 2 => t.phaseRule n
    | 4 => (t.countAgree n).clearInconsistent n
    | _ => t

/-- Monitors at a second boundary: the estimates, then every state change in order of reference ID (R85, R137 step 1). -/
def monitorSecond : State := (s.eachRef updateFofs).eachRef monitorOne

/-- The pull of the second that begins: SEL_PULL per second, at most SEL_SLOPE, from the phase measured again (R96, R208). -/
def pullSecond : State :=
  match s.selected with
  | some n =>
    if isTimeRef n then
      let p := s.pullTarget n
      let sl : Int := (max 1 (min 1000 (s.rdn Reg.selSlope % 1024))) * 65536
      ((s.wr64i Reg.selPullLo p).put Reg.selStatus Fld.selStatus_PULLING (p != 0).toNat).setTime fun t =>
        { t with pullRate := max (-sl) (min sl p) }
    else s.setTime fun t => { t with pullRate := 0 }
  | none => (s.put Reg.selStatus Fld.selStatus_PULLING 0).setTime fun t => { t with pullRate := 0 }

/-- The motion a pull has made in the second that ends (R96). -/
def pulledSecond : State := s.holdPull

/-- Disputes and the one decision of a second boundary (R85, R87, R91, R137 step 2): the selected reference has crossed its hard limit, or lost a
vote, or the decision has another cause. -/
def selectorSecond : State :=
  let s1 := s.disagreeSecond
  let cause := match s1.selected with
    | some n => if s1.refState n == 0 then 2 else if s1.refState n == 4 then 5 else 0
    | none => 0
  ((s1.selDecide cause).eachRef driftUse).pullSecond

end State

end Sys2Proof.Machine
end

