-- ==== Sys2Proof/Machine/Gnss.lean ====
section
/-!
DEFINITION. The GNSS baseband (ch. 8): the sample clock, front-end monitors, tracking channels, the record FIFOs, acquisition captures and
jobs, and the antenna supply.
-/

namespace Sys2Proof.Machine

/-- A signal of R235: band (0 L1, 1 L5), code length in chips, primary period in ms, the PRNs, and its navigation format (0 LNAV, 1 CNAV, 2 I/NAV,
3 F/NAV, 4 SYMBOLS). -/
structure GnssSig where
  band : Nat
  chips : Nat
  period : Nat
  prnLo : Nat
  prnHi : Nat
  nav : Option Nat
deriving DecidableEq, Repr

/-- The signals by SIG (R235); codes 14 and 15 are invalid. -/
def gnssSig : Nat → Option GnssSig
  | 0 => some ⟨0, 1023, 1, 1, 32, some 0⟩
  | 1 => some ⟨1, 10230, 1, 1, 32, some 1⟩
  | 2 => some ⟨1, 10230, 1, 1, 32, none⟩
  | 3 => some ⟨0, 4092, 4, 1, 50, some 2⟩
  | 4 => some ⟨0, 4092, 4, 1, 50, none⟩
  | 5 => some ⟨1, 10230, 1, 1, 50, some 3⟩
  | 6 => some ⟨1, 10230, 1, 1, 50, none⟩
  | 7 => some ⟨0, 10230, 10, 1, 63, some 4⟩
  | 8 => some ⟨0, 10230, 10, 1, 63, none⟩
  | 9 => some ⟨1, 10230, 1, 1, 63, some 4⟩
  | 10 => some ⟨1, 10230, 1, 1, 63, none⟩
  | 11 => some ⟨0, 1023, 1, 193, 202, some 0⟩
  | 12 => some ⟨1, 10230, 1, 193, 202, some 1⟩
  | 13 => some ⟨1, 10230, 1, 193, 202, none⟩
  | _ => none

/-- The duration of a capture in µs by DECIM, from its samples and rate (R247). -/
def captureUs (decim : Nat) : Nat :=
  match decim with
  | 0 | 1 => 6710
  | 2 => 13421
  | 3 => 26843
  | _ => 53687

/-- The samples of a full capture by DECIM (R247). -/
def captureSamples (decim : Nat) : Nat := if decim = 0 then 524288 else 262144

/-- The signals whose replica carries a BOC(1,1) subcarrier (R235). -/
def bocSig (sig : Nat) : Bool := sig == 3 || sig == 4 || sig == 7 || sig == 8

/-- One component of a sample (R230): by FORMAT, the sign and the magnitude bit. -/
def ifCode (format sign mag : Bool) : Int :=
  match sign, mag with
  | false, false => 1
  | false, true => 3
  | true, m => if m == format then -1 else -3

/-- The sample multiplied by the carrier replica at a phase of 2^-32 cycle (R236, R247). -/
def carrierMix (capture : Bool) (phase : Nat) (v : Int × Int) : Int × Int :=
  let r := Config.carrierReplica capture (phase / 2 ^ 28 % 16)
  (v.1 * r.1 - v.2 * r.2, v.1 * r.2 + v.2 * r.1)

/-- The code replica at a phase of 2^-32 chip, ±1 (R235): a BOC(1,1) subcarrier inverts the second half of each chip. -/
def codeReplica (g : GnssSig) (sig prn phase : Nat) : Int :=
  let p := phase % (g.chips * 2 ^ 32)
  if Config.primaryCode sig prn (p / 2 ^ 32) != (bocSig sig && p / 2 ^ 31 % 2 == 1) then -1 else 1

/-- The offsets from P of the taps P, E, L, VE, VL and N in 2^-32 chip, the code's length added (R237). -/
def tapOffsets (g : GnssSig) (taps : Word) : List Nat :=
  let len := g.chips * 2 ^ 32
  let sp := max 1 (taps.toNat % 16) * 2 ^ 28
  let vs := taps.toNat / 256 % 16 * 2 ^ 28
  [len, len - sp, len + sp, len - vs, len + vs, len + len / 2]

/-- The record words of an integration (R237, R241): I and Q of six taps, shifted and saturated, and SAT. -/
def tapWords (taps : Word) (acc : List Int) : List Word × Bool :=
  let sh := taps.toNat / 65536 % 16
  let off := taps.toNat / 256 % 16 == 0
  let v (i : Nat) : Int := if off && 6 ≤ i && i ≤ 9 then 0 else acc.getD i 0 / 2 ^ sh
  ((List.range 6).map fun k => BitVec.ofNat 32 (uns 16 (satI 16 (v (2 * k))) * 65536 + uns 16 (satI 16 (v (2 * k + 1)))),
   (List.range 12).any fun i => satI 16 (v i) != v i)

/-- The length of a symbol in primary periods (R244). -/
def navSymbol (sig : Nat) : Nat :=
  match sig with
  | 0 | 5 | 11 => 20
  | 1 | 12 => 10
  | 9 => 5
  | _ => 1

/-- The data component carries a secondary code that the navigation unit removes (R244). -/
def navSecondary (sig : Nat) : Bool := sig == 1 || sig == 12 || sig == 5 || sig == 9

/-- The symbols of an entry by format, its bits, and the further symbols of decoding depth (R244, R246). -/
def navSize : Nat → Nat × Nat × Nat
  | 0 => (300, 300, 0)
  | 1 => (600, 300, 35)
  | 2 => (500, 240, 35)
  | 3 => (500, 244, 35)
  | _ => (384, 384, 0)

/-- Twelve words of bits, the first in bit 31 of the first word (R245). -/
def navWords (bits : List Bool) : List Word :=
  (List.range 12).map fun w => BitVec.ofNat 32 (((bits.drop (32 * w)).take 32 ++ List.replicate 32 false).take 32 |>.foldl (fun n b => 2 * n + b.toNat) 0)

/-- The words of an LNAV subframe from its hard bits (R244): D30 of the word before inverts the 24 data bits of each; with PARITY, and D29 and D30 of
the last word. -/
def lnavWords : Nat → Bool × Bool → List Bool → List Bool × Nat × (Bool × Bool)
  | 0, tail, _ => ([], 0, tail)
  | k + 1, tail, bits =>
    let w := bits.take 30
    let r := lnavWords k (w.getD 28 false, w.getD 29 false) (bits.drop 30)
    ((w.take 24).map (· != tail.2) ++ w.drop 24 ++ r.1, (Config.lnavParity tail w).toNat + 2 * r.2.1, r.2.2)

namespace State

variable (s : State)

/-- Change the GNSS baseband. -/
def setGnss (f : GnssSt → GnssSt) : State := { s with gnss := f s.gnss }

/-- Channel `c` beyond its registers. -/
def gch (c : Nat) : GnssCh := s.gnss.ch.get {} c

/-- MAG_FRAC of the samples of input `n` (R234): the percentage of I and Q components with the magnitude bit set. -/
def magFrac (_ : State) (n : Nat) (balls : List (BitVec 16)) : Nat :=
  ((balls.map fun b => (b.getLsbD (2 * n)).toNat + (b.getLsbD (8 + 2 * n)).toNat).foldl (· + ·) 0 * 50) / balls.length

/-- One of the four bits of input `n` holds one level throughout (R234). -/
def ifStuck (_ : State) (n : Nat) (balls : List (BitVec 16)) : Bool :=
  [2 * n, 2 * n + 1, 8 + 2 * n, 8 + 2 * n + 1].any fun k => balls.all (·.getLsbD k) || balls.all fun b => !b.getLsbD k

/-- Change channel `c` beyond its registers. -/
def setGch (c : Nat) (f : GnssCh → GnssCh) : State := s.setGnss fun g => { g with ch := g.ch.set {} c (f (g.ch.get {} c)) }

/-- The baseband is enabled and its group ACTIVE (R253). -/
def gnssOn : Bool := s.bit Reg.gnssCtrl 0 && s.pgActive 20

/-- SCLK_MODE: 0 off, 1 drive, 2 listen (R231). -/
def sclkMode : Nat := let m := s.fld Reg.gnssCtrl ⟨1, 2⟩; if m = 3 then 0 else m

/-- GNSS_SCLK runs. -/
def sclkRuns : Bool := s.bit Reg.gnssStatus 0

/-- The GNSS_LOOP lane is the only reader of the record FIFOs (R242, R431). -/
def laneReads : Bool := s.bit Reg.gnssCtrl 3 && s.loader.built && s.hasGnssLane

/-- DECIM of the capture, 5–7 acting as 4 (R258). -/
def acqDecim : Nat := min 4 (s.fld Reg.gnssAcqCtrl Fld.gnssAcqCtrl_DECIM)

/-- The delay of IF input `n` (R232). -/
def ifDelay (n : Nat) : Nat := s.rd64 (Reg.gnssIfDelayLo n)

/-- The tick time of a GNSS_SCLK edge (R231): in drive mode the nearest whole multiple of 12.8 ns after a TB_0 second boundary, in listen mode as
measured. -/
def sclkEdge (edge : Nat) : Nat :=
  if s.sclkMode = 1 then
    let full := (s.fullTicks 0 + tickDiff edge (s.tick 0)).toNat
    (full * 5 + 2097152) / 4194304 * 4194304 / 5 % 2 ^ 64
  else edge

/-- The sample time of what input `n` delivers at a clock edge (R230, R232): the edge PIPE sample periods earlier, less the delay of the input. -/
def sampleTime (n edge : Nat) : Nat :=
  (s.sclkEdge edge + 2 ^ 65 - s.fld (Reg.gnssIfCfg n) Fld.gnssIfCfg_PIPE * 8388608 / 10 - s.ifDelay n) % 2 ^ 64

/-- The I and Q sample that input `n` takes from the levels of the IF balls (R229, R230). -/
def ifSample (n : Nat) (balls : BitVec 16) : Int × Int :=
  let f := s.on (Reg.gnssIfCfg n) Fld.gnssIfCfg_FORMAT
  let i := ifCode f (balls.getLsbD (2 * n + 1)) (balls.getLsbD (2 * n))
  let q := ifCode f (balls.getLsbD (8 + 2 * n + 1)) (balls.getLsbD (8 + 2 * n))
  if s.on (Reg.gnssIfCfg n) Fld.gnssIfCfg_SWAP_IQ then (q, i) else (i, q)

/-- Input `n` takes samples (R230, R253). -/
def ifOn (n : Nat) : Bool := s.gnssOn && s.sclkRuns && s.on (Reg.gnssIfCfg n) Fld.gnssIfCfg_EN

/-- The band of IF input `n`. -/
def ifBand (n : Nat) : Nat := s.fld (Reg.gnssIfCfg n) Fld.gnssIfCfg_BAND

/-! ### The record FIFOs (R242, R245) -/

/-- Show the fills and losses of both FIFOs. -/
def gnssFill : State :=
  (s.wrn Reg.gnssDumpStatus (s.gnss.dump.lost * 65536 + s.gnss.dump.entries.length)).wrn Reg.gnssNavStatus
    (s.gnss.nav.lost * 65536 + s.gnss.nav.entries.length)

/-- Post a dump record (R242): interrupt 40 at a crossing of LEVEL, fault 40 when it is lost. -/
def postDump (e : List Word) : State :=
  let r := Fifo.push 2048 s.gnss.dump e
  let rise := Fifo.crosses (s.rdn Reg.gnssDumpCtrl % 2048) s.gnss.dump.entries.length r.1.entries.length
  let s := (s.setGnss fun g => { g with dump := r.1 }).gnssFill
  (s.raiseFaultIf r.2 40 4).raiseIrqIf rise 40

/-- Post a navigation entry (R245): interrupt 41 at a crossing of LEVEL, fault 40 when it is lost. -/
def postNav (e : List Word) : State :=
  let r := Fifo.push 256 s.gnss.nav e
  let rise := Fifo.crosses (s.rdn Reg.gnssNavCtrl % 256) s.gnss.nav.entries.length r.1.entries.length
  let s := (s.setGnss fun g => { g with nav := r.1 }).gnssFill
  (s.raiseFaultIf r.2 40 5).raiseIrqIf rise 41

/-- Words from numbers. -/
def wordsNat (l : List Nat) : List Word := l.map (BitVec.ofNat 32)

/-! ### Jobs (R248–R250) -/

/-- STATE of job `j`: 0 FREE, 1 PENDING, 2 RUNNING, 3 DONE, 4 FAILED. -/
def jobState (j : Nat) : Nat := s.rdn (Reg.jobStatus j) % 8

/-- Put the state and lane of job `j`. -/
def jobPut (j st lane : Nat) : State := (s.put (Reg.jobStatus j) ⟨0, 3⟩ st).put (Reg.jobStatus j) ⟨24, 8⟩ lane

/-- Fail job `j` with an error (R258). -/
def jobFail (j err : Nat) : State := (s.put (Reg.jobStatus j) ⟨8, 4⟩ err).jobPut j 4 255

/-- The signal of job `j`. -/
def jobSig (j : Nat) : Option GnssSig := gnssSig (s.rdn (Reg.jobCfg j) / 2 ^ 28)

/-- The immediate errors of job `j` (R248): 1 the capture is too short, 2 the wrong band, 0 none. -/
def jobError (j : Nat) : Nat :=
  match s.jobSig j with
  | none => 2
  | some g =>
    let coh := max 1 (min 20 (s.rdn (Reg.jobCfg j) / 2 ^ 15 % 32))
    let non := max 1 (s.rdn (Reg.jobCfg j) / 64 % 512)
    if captureUs s.acqDecim < (coh * non + 1) * g.period * 1000 then 1
    else if g.band ≠ s.ifBand (s.fld Reg.gnssAcqCtrl Fld.gnssAcqCtrl_IF) then 2 else 0

/-- The lowest PENDING job, once the capture is READY (R248, R249). -/
def nextJob : Option Nat :=
  if s.rdn Reg.gnssAcqStatus % 8 = 3 then (List.range 16).find? fun j => s.jobState j == 1 else none

/-- The lane that ran job `j` is taken back (R249): PENDING again, one more restart. -/
def jobReclaim (j : Nat) : State :=
  if s.jobState j = 2 then (s.incSat (Reg.jobStatus j) ⟨16, 4⟩).jobPut j 1 255 else s

/-- Job `j` completes (R250): its results, its KIND 1 record, DONE. -/
def jobComplete (j : Nat) (code freq metric : Word) : State :=
  let s := ((s.wr (Reg.jobCode j) code).wr (Reg.jobFreq j) freq).wr (Reg.jobMetric j) (metric &&& 0xFFFF)
  let s := s.postDump ([BitVec.ofNat 32 (127 * 512 + 128), s.rd Reg.gnssAcqT0Lo, s.rd Reg.gnssAcqT0Hi, code, freq, metric &&& 0xFFFF,
    BitVec.ofNat 32 (j + s.fld (Reg.jobStatus j) ⟨8, 4⟩ * 256)] ++ List.replicate 3 0)
  s.jobPut j 3 255

/-! ### Captures (R247) -/

/-- STATE of the capture: 0 EMPTY, 1 ARMED, 2 CAPTURING, 3 READY, 4 ENDED early. -/
def acqState : Nat := s.rdn Reg.gnssAcqStatus % 8

/-- A capture ends early (R233, R247): END 1 aborted, 2 clock lost. -/
def acqEnd (why : Nat) : State :=
  if s.acqState = 1 ∨ s.acqState = 2 then (s.put Reg.gnssAcqStatus Fld.gnssAcqStatus_END why).put Reg.gnssAcqStatus ⟨0, 3⟩ 4 else s

/-- The capture stores a sample `v` of `width` bits (R247); sample 0 lies in the lowest bits of word 0, with I below Q. -/
def capStore (width v : Nat) : State :=
  let per := 32 / width
  let k := s.gnss.capN
  let t := s.setGnss fun g =>
    { g with
      cap := g.cap.set 0 (k / per) ((g.cap.get 0 (k / per)) ||| BitVec.ofNat 32 (v * 2 ^ (width * (k % per))))
      capN := k + 1, capCount := 0, capI := 0, capQ := 0 }
  t.put Reg.gnssAcqStatus Fld.gnssAcqStatus_SAMPLES (k + 1)

/-- The capture takes a sample (R247): mixed by GNSS_ACQ_MIX, summed over DECIM, stored as 2 + 2 bits or as 4 + 4 bits saturated; READY when the memory
is full. -/
def capTake (balls : BitVec 16) : State :=
  if s.acqState ≠ 2 then s
  else
    let v := carrierMix true s.gnss.capPhase.toNat (s.ifSample (s.fld Reg.gnssAcqCtrl Fld.gnssAcqCtrl_IF) balls)
    let t := s.setGnss fun g =>
      { g with capPhase := g.capPhase + s.rd Reg.gnssAcqMix, capCount := g.capCount + 1, capI := g.capI + v.1, capQ := g.capQ + v.2 }
    if t.gnss.capCount < 2 ^ s.acqDecim then t
    else
      let g := t.gnss
      let t := if s.acqDecim = 0 then t.capStore 4 ((Config.captureCode g.capI).toNat + 4 * (Config.captureCode g.capQ).toNat)
        else t.capStore 8 (uns 4 (satI 4 g.capI) + 16 * uns 4 (satI 4 g.capQ))
      if captureSamples s.acqDecim ≤ t.gnss.capN then t.put Reg.gnssAcqStatus ⟨0, 3⟩ 3 else t

/-! ### Channels (R236–R244) -/

/-- STATE of channel `c`: 0 IDLE, 1 WAIT_START, 2 RUN. -/
def chState (c : Nat) : Nat := s.fld (Reg.chStatus c) Fld.chStatus_STATE

/-- The IF input of channel `c`. -/
def chIf (c : Nat) : Nat := s.rdn (Reg.chSig c) / 65536 % 4

/-- The signal of channel `c`, if it is valid for its input and PRN (R235). -/
def chSig? (c : Nat) : Option GnssSig :=
  (gnssSig (s.rdn (Reg.chSig c) / 2 ^ 28)).filter fun g =>
    let prn := s.rdn (Reg.chSig c) / 2 ^ 20 % 256
    decide (g.band = s.ifBand (s.chIf c) ∧ g.prnLo ≤ prn ∧ prn ≤ g.prnHi)

/-- SIG of channel `c`. -/
def chSigNo (c : Nat) : Nat := s.rdn (Reg.chSig c) / 2 ^ 28

/-- PRN of channel `c`. -/
def chPrn (c : Nat) : Nat := s.rdn (Reg.chSig c) / 2 ^ 20 % 256

/-- The navigation format of channel `c`. -/
def chFormat (c : Nat) : Option Nat := (gnssSig (s.chSigNo c)).bind (·.nav)

/-- NAV_STATE follows NAV.EN, the format and the channel (R244, R246); a channel that stops, or loses EN, discards its partial entry. -/
def navRefresh (c : Nat) : State :=
  let on := s.bit (Reg.chNav c) 0 && s.chState c == 2
  let st := s.fld (Reg.chStatus c) Fld.chStatus_NAV_STATE
  match s.chFormat c with
  | some f =>
    if !on then
      (s.put (Reg.chStatus c) Fld.chStatus_NAV_STATE 0).setGch c fun x => { x with navFails := 0, navPart := none, navSyms := [], navTail := (false, false) }
    else if st = 0 then s.put (Reg.chStatus c) Fld.chStatus_NAV_STATE (if f = 4 then 2 else 1)
    else s
  | none => s.put (Reg.chStatus c) Fld.chStatus_NAV_STATE 0

/-- The staged registers of channel `c` transfer (R239). -/
def chLoad (c : Nat) : State :=
  s.setGch c fun x => { x with carrInc := s.rd (Reg.chCarrInc c), codeInc := s.rd (Reg.chCodeInc c), taps := s.rd (Reg.chTaps c), dump := s.rd (Reg.chDump c) }

/-- Channel `c` returns to IDLE and discards its partial integration (R240). -/
def chIdle (c : Nat) (lost : Bool) : State :=
  let s := (s.put (Reg.chStatus c) Fld.chStatus_STATE 0).put (Reg.chStatus c) Fld.chStatus_UPD_PEND 0
  let s := if lost then s.put (Reg.chStatus c) Fld.chStatus_CLOCK_LOST 1 else s
  (s.setGch c fun _ => {}).navRefresh c

/-- Channel `c` correlates a sample at its present phases (R236, R237). -/
def chCorrelate (c : Nat) (g : GnssSig) (balls : BitVec 16) : State :=
  s.setGch c fun x =>
    let v := carrierMix false (x.carr / 2 ^ 16) (s.ifSample (s.chIf c) balls)
    let w := (tapOffsets g x.taps).map fun o => codeReplica g (s.chSigNo c) (s.chPrn c) (x.code + o)
    let sums := w.flatMap fun k => [k * v.1, k * v.2]
    { x with
      acc := (List.range 12).map fun i => x.acc.getD i 0 + sums.getD i 0
      prompt := x.prompt + sums.getD 0 0 }

/-- A symbol of channel `c` is complete (R244): in SEARCH it may complete the synchronisation pattern. -/
def navSymbolEnds (c f : Nat) (y : NavSym) : State :=
  let syms := (s.gch c).navSyms ++ [y]
  if s.fld (Reg.chStatus c) Fld.chStatus_NAV_STATE = 2 then s.setGch c fun x => { x with navSyms := syms }
  else
    match Config.navFound f (syms.map fun z => decide (z.sum < 0)) with
    | some (inv, k) =>
      (s.put (Reg.chStatus c) Fld.chStatus_NAV_STATE 2).setGch c fun x =>
        { x with navSyms := syms.drop (syms.length - k), navInv := inv, navFails := 0, navTail := (false, false) }
    | none => s.setGch c fun x => { x with navSyms := syms.drop (syms.length - 1200) }

/-- Epoch `n` of channel `c` at sample time `t` (R244): the primary period that ends, its secondary code removed, joins the symbol in progress, and at
NAV.ALIGN the symbol ends and the next starts. -/
def navEpoch (c n t : Nat) : State :=
  match s.chFormat c with
  | none => s
  | some f =>
    if s.fld (Reg.chStatus c) Fld.chStatus_NAV_STATE = 0 then s
    else
      let len := navSymbol (s.chSigNo c)
      let al := s.fld (Reg.chNav c) ⟨16, 5⟩
      let flip := navSecondary (s.chSigNo c) && Config.secondaryCode (s.chSigNo c) (s.chPrn c) ((n + 2 ^ 32 - 1 + len - al % len) % len)
      let part := (s.gch c).navPart.map fun y => { y with sum := y.sum + (if flip then -(s.gch c).prompt else (s.gch c).prompt) }
      if n % len = al then
        let s := match part with | some y => s.navSymbolEnds c f y | none => s
        s.setGch c fun x => { x with navPart := some { start := t } }
      else s.setGch c fun x => { x with navPart := part }

/-- A code epoch of channel `c` at sample time `t` and carrier phase `carr` (R238, R239, R241): EPOCHS counts; a dump epoch posts its record and starts the
next integration; staged values transfer. -/
def chEpoch (c t carr : Nat) : State :=
  let x := s.gch c
  let n := (s.rdn (Reg.chEpochs c) + 1) % 2 ^ 32
  let dumps := n % max 1 (min 20 (x.dump.toNat % 32)) == x.dump.toNat / 256 % 32
  let pend := s.on (Reg.chStatus c) Fld.chStatus_UPD_PEND
  let s := (s.wrn (Reg.chEpochs c) n).navEpoch c n t
  let s := s.setGch c fun y => { y with prompt := 0 }
  let s := if dumps then
      let (tw, sat) := tapWords x.taps x.acc
      let s := s.postDump (wordsNat [c * 512 + x.upd.toNat * 64 + x.stepped.toNat * 32 + sat.toNat * 16, t, t / 2 ^ 32, carr / 2 ^ 32] ++ tw)
      s.setGch c fun y => { y with acc := [], upd := pend, stepped := false }
    else s
  if pend then (s.chLoad c).put (Reg.chStatus c) Fld.chStatus_UPD_PEND 0 else s

/-- Channel `c` takes a sample at a clock edge (R236, R238): both oscillators step; an epoch between the last sample and this one is interpolated from the
code oscillator's phase; then the taps correlate. -/
def chSample (c : Nat) (g : GnssSig) (balls : BitVec 16) (edge : Nat) : State :=
  let x := s.gch c
  let inc := x.codeInc.toNat
  let len := g.chips * 2 ^ 32
  let s := if x.code + inc < len then s
    else
      let f := len - x.code
      let t0 := s.sampleTime (s.chIf c) x.last
      let t1 := s.sampleTime (s.chIf c) edge
      s.chEpoch c (uns 64 ((t0 : Int) + tickDiff t1 t0 * f / inc)) (uns 64 ((x.carr : Int) + x.carrInc.toInt * 65536 * f / inc))
  let s := s.setGch c fun y =>
    { y with code := (x.code + inc) % len, carr := uns 64 ((x.carr : Int) + x.carrInc.toInt * 65536), last := edge }
  s.chCorrelate c g balls

/-- The clock stops (R233): CLOCK_LOST, the capture ends, channels go IDLE, jobs that wait for the capture fail with ERROR 4, and a KIND 2 record is posted. -/
def sclkStop (time : Nat) : State :=
  if !s.sclkRuns then s
  else
    let s := ((s.putBit Reg.gnssStatus 0 false).putBit Reg.gnssStatus 1 true).putBit Reg.gnssStatus 2 false
    let had := s.acqState == 1 || s.acqState == 2
    let s := s.acqEnd 2
    let s := if had then (List.range 16).foldl (fun t j => if t.jobState j = 1 then t.jobFail j 4 else t) s else s
    let s := (List.range 96).foldl (fun t c => if t.chState c = 0 then t else t.chIdle c true) s
    s.postDump (wordsNat ([127 * 512 + 256, time, time / 2 ^ 32] ++ List.replicate 7 0))

/-- GNSS_CTRL, SYN_G or the group has changed: a clock of another mode stops, and in drive mode the clock runs while all allow it (R231, R233, R253); in
listen mode it runs from its first received edges. -/
def gnssRefresh : State :=
  let m := if s.gnssOn then s.sclkMode else 0
  let t := if m = s.gnss.mode then s else (s.sclkStop (s.tick 0)).setGnss fun g => { g with mode := m }
  if m = 1 ∧ t.synLocked 0 = true then t.putBit Reg.gnssStatus 0 true else t

/-- A step of TB_0 falls in every running integration and navigation entry (R243). -/
def gnssStepped : State :=
  (List.range 96).foldl (fun t c => if t.chState c = 2 then t.setGch c fun x =>
    { x with stepped := true, navPart := x.navPart.map fun y => { y with stepped := true } } else t) s

/-! ### Antenna (R252) -/

/-- Put a bit of GNSS_ANT_STATUS; a change of SHORT, OPEN or TRIPPED raises interrupt 42. -/
def antPut (i : Nat) (b : Bool) : State :=
  if s.bit Reg.gnssAntStatus i = b then s else (s.putBit Reg.gnssAntStatus i b).raiseIrq 42

/-- GNSS_ANT_EN follows POWER unless tripped. -/
def antRefresh : State := s.putBit Reg.gnssAntStatus 3 (s.bit Reg.gnssAntCtrl 0 && !s.bit Reg.gnssAntStatus 2)

/-- Fault 30 from the antenna, which serves every input (R234, R252): each raising sets EVER_FAIL. -/
def antFault : State :=
  ((List.range 4).foldl (fun (t : State) (n : Nat) => t.put (Reg.gnssIfStatus n) Fld.gnssIfStatus_EVER_FAIL 1) s).raiseFault 30 0x8000

/-- The antenna supply trips: fault 30. -/
def antTrip : State := (((s.antPut 2 true).antRefresh).setGnss fun g => { g with tripped := s.monitorNow }).antFault

/-- RETRY seconds, at least one, have passed since the supply tripped. -/
def antRetryDue : Bool := decide (s.gnss.tripped + max 1 (s.rdn Reg.gnssAntCtrl / 65536) * 1000000 * usTicks ≤ s.monitorNow)

end State

/-! ### The rows -/

/-- GNSS_SCLK_STOP (R233): in drive mode once GRID is off SYN_G, in listen mode when edges stay away. -/
def execGnssSclkStop (time : BitVec 64) (s : State) : Res :=
  done (if s.sclkMode = 1 ∧ s.synLocked 0 = true then s else s.sclkStop time.toNat)

/-- GNSS_LISTEN_LOCK (R231): the received clock runs; GNSS_SCLK_PHASE shows the mean phase of the millisecond, and LISTEN_LOCK is set where it was stable. -/
def execGnssListenLock (phases : List (BitVec 16)) (s : State) : Res :=
  done (if !(s.gnssOn && s.sclkMode == 2) || phases.isEmpty then s
  else
    let sum := (phases.map (·.toInt)).foldl (· + ·) 0
    let k := phases.length
    -- within ±1 ns of the mean: 20 units of 50 ps
    let stable := phases.all fun p => decide ((p.toInt * k - sum).natAbs ≤ 20 * k)
    let t := (s.wr Reg.gnssSclkPhase (BitVec.ofInt 32 (sum * 50 / k))).putBit Reg.gnssStatus 0 true
    if stable then t.putBit Reg.gnssStatus 2 true else t)

/-- GNSS_FE_MONITOR (R234): MAG_FRAC, STUCK and LEVEL_BAD; fault 30 when STUCK is set or LEVEL_BAD has lasted 1 s. -/
def execGnssFeMonitor (n : Fin 4) (balls : List (BitVec 16)) (s : State) : Res :=
  done (if !s.ifOn n || balls.isEmpty then s
  else
    let mag := s.magFrac n balls
    let stuck := s.ifStuck n balls
    let bad := mag < s.fld (Reg.gnssIfCfg n) Fld.gnssIfCfg_LEVEL_MIN || s.fld (Reg.gnssIfCfg n) Fld.gnssIfCfg_LEVEL_MAX < mag
    let ms := if bad then s.gnss.levelMs.get 0 n + 1 else 0
    let was := s.on (Reg.gnssIfStatus n) Fld.gnssIfStatus_STUCK
    let s := s.setGnss fun g => { g with levelMs := g.levelMs.set 0 n ms }
    let s := s.put (Reg.gnssIfStatus n) Fld.gnssIfStatus_MAG_FRAC mag
    let s := (s.put (Reg.gnssIfStatus n) Fld.gnssIfStatus_STUCK stuck.toNat).put (Reg.gnssIfStatus n) Fld.gnssIfStatus_LEVEL_BAD bad.toNat
    if (stuck && !was) || ms == 1000 then (s.put (Reg.gnssIfStatus n) Fld.gnssIfStatus_EVER_FAIL 1).raiseFault 30 n else s)

/-- GNSS_CH_START (R240): from IDLE, with a valid signal and the clock running. -/
def execGnssChStart (c : Fin 96) (s : State) : Res :=
  done (if s.chState c = 0 && s.gnssOn && s.sclkRuns && (s.chSig? c).isSome then
    ((s.setGch c fun _ => {}).chLoad c |>.wr (Reg.chEpochs c) 0).put (Reg.chStatus c) Fld.chStatus_STATE 1
  else s)

/-- GNSS_CH_STOP (R240). -/
def execGnssChStop (c : Fin 96) (s : State) : Res := done (if s.chState c = 0 then s else s.chIdle c false)

/-- GNSS_CH_UPDATE (R239): the staged registers transfer at the next epoch. -/
def execGnssChUpdate (c : Fin 96) (s : State) : Res :=
  done (if s.chState c = 0 then s else s.put (Reg.chStatus c) Fld.chStatus_UPD_PEND 1)

/-- GNSS_CH_RUN_BEGIN (R240): the first sample at or after CH_c_START sets the phases, and the channel runs with it. -/
def execGnssChRunBegin (c : Fin 96) (balls : BitVec 16) (edge : BitVec 64) (s : State) : Res :=
  done (
    match gnssSig (s.chSigNo c) with
    | none => s
    | some g =>
      if s.chState c = 1 && s.ifOn (s.chIf c) && decide (0 ≤ State.tickDiff (s.sampleTime (s.chIf c) edge.toNat) (s.rd64 (Reg.chStartLo c))) then
        let init := s.rdn (Reg.chCodeInit c) % 2 ^ 22 * 2 ^ 24 % (g.chips * 2 ^ 32)
        let s := s.setGch c fun x => { x with carr := 0, code := init, last := edge.toNat, acc := [], prompt := 0 }
        let s := ((s.put (Reg.chStatus c) Fld.chStatus_STATE 2).put (Reg.chStatus c) Fld.chStatus_CLOCK_LOST 0).navRefresh c
        s.chCorrelate c g balls
      else s)

/-- GNSS_EPOCH_DUMP (R236–R241): the channel takes the samples in turn; at each epoch among them EPOCHS counts, and at a dump epoch the record is posted. -/
def execGnssEpochDump (c : Fin 96) (samples : List (BitVec 16 × BitVec 64)) (s : State) : Res :=
  done (
    match gnssSig (s.chSigNo c) with
    | none => s
    | some g =>
      if s.chState c = 2 && s.ifOn (s.chIf c) then samples.foldl (fun (t : State) (e : BitVec 16 × BitVec 64) => t.chSample c g e.1 e.2.toNat) s else s)

/-- GNSS_NAV_ENTRY (R244–R246): the entry whose symbols, and depth of decoding, are complete joins GNSS_NAV; three failed checks in a row return the unit
to the search. -/
def execGnssNavEntry (c : Fin 96) (s : State) : Res :=
  done (match s.chFormat c with
  | none => s
  | some f =>
    let x := s.gch c
    let (need, bits, depth) := navSize f
    if s.fld (Reg.chStatus c) Fld.chStatus_NAV_STATE ≠ 2 ∨ x.navSyms.length < need + depth then s
    else
      let inv := x.navInv && f != 4
      let own := x.navSyms.take need
      let sums := (x.navSyms.take (need + depth)).map fun y => if inv then -y.sum else y.sum
      let hard := (sums.take need).map fun v => decide (v < 0)
      let (data, parity, tail) := if f = 0 then lnavWords 10 x.navTail hard else if f = 4 then (hard, 0, x.navTail) else ((Config.navDecode f sums).1, 0, x.navTail)
      let ok := if f = 0 then parity == 1023 else f != 4 && (Config.navDecode f sums).2
      let fails := if ok || f == 4 then 0 else x.navFails + 1
      let w0 := c.val * 512 + f * 64 + inv.toNat * 32 + ok.toNat * 16 + (own.any (·.stepped)).toNat * 2
      let start := (own.headD {}).start
      let s := s.postNav (State.wordsNat [w0, start, start / 2 ^ 32, parity * 4096 + bits] ++ navWords (data.take bits))
      if 3 ≤ fails then
        (s.put (Reg.chStatus c) Fld.chStatus_NAV_STATE 1).setGch c fun y => { y with navFails := 0, navSyms := y.navSyms.drop need, navTail := (false, false) }
      else s.setGch c fun y => { y with navFails := fails, navSyms := y.navSyms.drop need, navTail := tail })

/-- GNSS_DUMP_READ (R242): the oldest record leaves and its words are latched; zero while the GNSS_LOOP lane reads. -/
def execGnssDumpRead (s : State) : Res :=
  done (if s.laneReads then s.wrRun (Reg.gnssDump 0) (List.replicate 10 0)
  else
    let r := Fifo.pop 10 s.gnss.dump
    let s := s.setGnss fun g => { g with dump := r.2 }
    let l := if r.2.last.isEmpty then List.replicate 10 0 else r.2.last
    ((s.wrRun (Reg.gnssDump 0) l).wr (Reg.gnssDump 0) r.1).gnssFill)

/-- GNSS_NAV_READ (R245). -/
def execGnssNavRead (s : State) : Res :=
  done (if s.laneReads then s.wrRun (Reg.gnssNav 0) (List.replicate 16 0)
  else
    let r := Fifo.pop 16 s.gnss.nav
    let s := s.setGnss fun g => { g with nav := r.2 }
    let l := if r.2.last.isEmpty then List.replicate 16 0 else r.2.last
    ((s.wrRun (Reg.gnssNav 0) l).wr (Reg.gnssNav 0) r.1).gnssFill)

/-- GNSS_ACQ_START (R247): arms a capture unless a job is PENDING or RUNNING. -/
def execGnssAcqStart (s : State) : Res :=
  done (if s.gnssOn && !(List.range 16).any (fun j => s.jobState j == 1 || s.jobState j == 2) then s.wr Reg.gnssAcqStatus 1 else s)

/-- GNSS_ACQ_ABORT (R247). -/
def execGnssAcqAbort (s : State) : Res :=
  done ((List.range 16).foldl (fun t j => if t.jobState j = 1 ∨ t.jobState j = 2 then t.jobFail j 3 else t) (s.acqEnd 1))

/-- GNSS_CAPTURE_BEGIN (R247): the first sample at or after ACQ_START starts the capture, which takes it. -/
def execGnssCaptureBegin (balls : BitVec 16) (edge : BitVec 64) (s : State) : Res :=
  done (
    let n := s.fld Reg.gnssAcqCtrl Fld.gnssAcqCtrl_IF
    let t := s.sampleTime n edge.toNat
    if s.acqState = 1 && s.ifOn n && decide (0 ≤ State.tickDiff t (s.rd64 Reg.gnssAcqStartLo)) then
      (((s.wr64 Reg.gnssAcqT0Lo t).wr Reg.gnssAcqStatus 2).setGnss fun g =>
        { g with cap := [], capN := 0, capPhase := 0, capCount := 0, capI := 0, capQ := 0 }).capTake balls
    else s)

/-- GNSS_CAPTURE_FULL (R247): the capture takes the samples in turn, and is READY once they fill its memory. -/
def execGnssCaptureFull (balls : List (BitVec 16)) (s : State) : Res :=
  done (if s.ifOn (s.fld Reg.gnssAcqCtrl Fld.gnssAcqCtrl_IF) then balls.foldl (fun (t : State) (b : BitVec 16) => t.capTake b) s else s)

/-- GNSS_JOB_GO (R248, R258): from FREE, DONE or FAILED; PENDING, or failed at once. -/
def execGnssJobGo (j : Fin 16) (s : State) : Res :=
  done (if s.jobState j = 1 ∨ s.jobState j = 2 then s
  else
    let s := s.wr (Reg.jobStatus j) 0xFF000000
    let e := s.jobError j
    if e ≠ 0 then s.jobFail j e else if s.acqState = 4 then s.jobFail j 4 else s.jobPut j 1 255)

/-- GNSS_JOB_ABORT (R258): the job fails with ERROR 3. -/
def execGnssJobAbort (j : Fin 16) (s : State) : Res := done (s.jobFail j 3)

/-- GNSS_ANT_SHORT (R252): SHORT; with AUTO_OFF the supply is cut and trips. -/
def execGnssAntShort (s : State) : Res :=
  done (
    let s := s.antPut 1 true
    if s.bit Reg.gnssAntCtrl 1 then s.antTrip else s)

/-- GNSS_ANT_RETRY (R252): the supply is tried again; a short trips it again. -/
def execGnssAntRetry (s : State) : Res :=
  done (if !(s.bit Reg.gnssAntStatus 2 && s.antRetryDue) then s
  else if s.bit Reg.gnssAntStatus 1 then s.antTrip else (s.antPut 2 false).antRefresh)

/-- GNSS_ANT_OPEN (R252): OPEN; after 1 s with OPEN_FAULT set, fault 30. -/
def execGnssAntOpen (second : Bool) (s : State) : Res :=
  done (let t := s.antPut 0 true
    if second && s.bit Reg.gnssAntCtrl 2 then t.antFault else t)

/-- GNSS_ANT_FAULT_CLEAR (R252). -/
def execGnssAntFaultClear (short : Bool) (s : State) : Res := done (s.antPut (if short then 1 else 0) false)

end Sys2Proof.Machine
end

