-- ==== Sys2Proof/Machine/Operands.lean ====
section
/-!
DEFINITION. The operand forms of a Facet bundle (R443, R445–R451): its formats and slots, the words of each operation's slot, address updates
and memory words.
-/

namespace Sys2Proof.Machine

/-! ### Formats (R445) -/

/-- Format of a bundle: 0 A, 1 B, 2 C. -/
def bundleFormat (w : Nat) : Nat := if w / 2 ^ 63 % 2 = 0 then 0 else if w / 2 ^ 62 % 2 = 0 then 1 else 2

/-- The MAC slot, 23 bits. -/
def macSlot (w : Nat) : Nat := if bundleFormat w = 0 then w / 2 ^ 40 % 2 ^ 23 else w / 2 ^ 39 % 2 ^ 23

/-- The X move slot, 20 bits; zero outside format A. -/
def xSlot (w : Nat) : Nat := if bundleFormat w = 0 then w / 2 ^ 20 % 2 ^ 20 else 0

/-- The Y move slot, 20 bits; zero outside format A. -/
def ySlot (w : Nat) : Nat := if bundleFormat w = 0 then w % 2 ^ 20 else 0

/-- A move slot. -/
def moveSlot (y : Bool) (w : Nat) : Nat := if y then ySlot w else xSlot w

/-- The control slot, COP and operands, 39 bits; zero outside format B. -/
def ctlSlot (w : Nat) : Nat := if bundleFormat w = 1 then w % 2 ^ 39 else 0

/-- The integer slot, 39 bits; zero outside format C. -/
def intSlot (w : Nat) : Nat := if bundleFormat w = 2 then w % 2 ^ 39 else 0

/-! ### The words of the slots (R446, R447, R450, R451) -/

/-- A product operation's MAC slot: OP, D, A, B, AUX. -/
def macWord (op d a b aux : Nat) : Nat := op * 2 ^ 18 + d * 2 ^ 16 + a * 2 ^ 13 + b * 2 ^ 10 + aux

/-- An accumulator operation's MAC slot: OP, D, S, AUX. -/
def accWord (op d src aux : Nat) : Nat := op * 2 ^ 18 + d * 2 ^ 16 + src * 2 ^ 13 + aux

/-- A move slot: KIND, AR, UPD, R, FM, S. -/
def moveWord (kind ar upd r : Nat) (fm : Bool) (src : Nat) : Nat :=
  kind * 2 ^ 17 + ar * 2 ^ 15 + upd * 2 ^ 13 + r * 2 ^ 10 + fm.toNat * 2 ^ 9 + src * 2 ^ 6

/-- An integer slot: AOP, DST, SRC, IMM. -/
def intWord (aop dst src imm : Nat) : Nat := aop * 2 ^ 34 + dst * 2 ^ 29 + src * 2 ^ 24 + imm

/-- A control slot from COP and its operands. -/
def ctlWord (cop ops : Nat) : Nat := cop * 2 ^ 33 + ops

/-- The operands of BR, CALL and RET. -/
def brOps (cond : Nat) (acc : Bool) (creg target : Nat) : Nat := cond * 2 ^ 29 + acc.toNat * 2 ^ 28 + creg * 2 ^ 23 + target

/-- The operands of PIN and POUT. -/
def portOps (ar upd : Nat) (y : Bool) (port : Nat) : Nat := ar * 2 ^ 25 + upd * 2 ^ 23 + y.toNat * 2 ^ 22 + port * 2 ^ 14

/-! ### Addresses (R448) -/

/-- The address a step from `a` gives with modulo length `len` (0 linear). -/
def stepAddr (a len : Nat) (step : Int) : Nat :=
  if len = 0 then (((a : Int) + step) % 8192).toNat
  else
    let b := a / len * len
    ((b : Int) + ((a : Int) - b + step) % len).toNat

/-- The step of an UPD, of `unit` words for 1 and 2, and +M for 3. -/
def updStep (upd unit : Nat) (m : Int) : Int :=
  match upd with
  | 1 => unit
  | 2 => -(unit : Int)
  | 3 => m
  | _ => 0

/-! ### Memory words (R443) -/

/-- A register from a memory word: [31:8], or with INT [23:0]. -/
def loadWord (fm : Bool) (w : Word) : BitVec 24 := if fm then w.setWidth 24 else (w >>> 8).setWidth 24

/-- A memory word from a register. -/
def storeWord (fm : Bool) (v : BitVec 24) : Word := if fm then v.setWidth 32 else v.setWidth 32 <<< 8

/-! ### A register set -/

namespace Ctx

/-- X_r. -/
def xr (c : Ctx) (r : Nat) : BitVec 24 := c.x.getD r 0
/-- A_r. -/
def ar (c : Ctx) (r : Nat) : Nat := (c.a.getD r 0).toNat
/-- M_r, signed. -/
def mr (c : Ctx) (r : Nat) : Int := (c.m.getD r 0).toInt
/-- L_r. -/
def lr (c : Ctx) (r : Nat) : Nat := (c.l.getD r 0).toNat
/-- ACC_d. -/
def ac (c : Ctx) (d : Nat) : BitVec 56 := c.acc.getD d 0
/-- Write X_r. -/
def setX (c : Ctx) (r : Nat) (v : BitVec 24) : Ctx := { c with x := c.x.set r v }
/-- Write A_r. -/
def setA (c : Ctx) (r v : Nat) : Ctx := { c with a := c.a.set r (BitVec.ofNat 13 v) }
/-- Write ACC_d, wrapping at 56 bits (R441). -/
def setAcc (c : Ctx) (d : Nat) (v : Int) : Ctx := { c with acc := c.acc.set d (BitVec.ofInt 56 v) }

/-- SR as it reads (R440). -/
def sr (c : Ctx) : Nat :=
  c.ih.toNat * 2 ^ 15 + c.lsOff.toNat * 2 ^ 14 + c.rm * 2 ^ 12 + c.sm.toNat * 2 ^ 11 + c.sv.toNat * 2 ^ 10 + c.loops.length * 256 + c.ie.toNat

/-- Write SR (R440): RM, SM and IE are taken, SV is cleared by a 0. -/
def setSr (c : Ctx) (v : Nat) : Ctx :=
  { c with rm := v / 2 ^ 12 % 4, sm := v.testBit 11, sv := c.sv && v.testBit 10, ie := v.testBit 0 }

/-- Restore SR from ISAVE_SR (R462), IH and LS_OFF included. -/
def restoreSr (c : Ctx) (v : Nat) : Ctx :=
  { c with rm := v / 2 ^ 12 % 4, sm := v.testBit 11, sv := v.testBit 10, ie := v.testBit 0, ih := v.testBit 15, lsOff := v.testBit 14 }

end Ctx

end Sys2Proof.Machine
end

