-- ==== Sys2Proof/Machine/Ecc.lean ====
section
/-!
DEFINITION. The log of errors in external memory (R601).
-/

namespace Sys2Proof.Machine

namespace State

variable (s : State)

/-- Change the external-memory controller. -/
def setDram (f : DramSt → DramSt) : State := { s with dram := f s.dram }

/-- Log one error in external memory (R601): a corrected beat counts, and raises fault 2 while CE_FAULT is 1; an uncorrectable one counts and raises
fault 3.  Both record address and syndrome. -/
def eccError (addr syndrome : Nat) (ue : Bool) : State :=
  let t := ((s.wr64 Reg.dramEccAddrLo (addr % 2 ^ 33)).wrn Reg.dramEccSyndrome (ue.toNat * 256 + syndrome % 256)).putBit Reg.dramEccStatus ue.toNat true
  if ue then (t.countSat Reg.dramEccUeCount).raiseFault 3 (addr / 131072 % 65536)
  else (t.countSat Reg.dramEccCeCount).raiseFaultIf (s.bit Reg.dramEccCtrl 0) 2 (addr / 131072 % 65536)

end State

end Sys2Proof.Machine
end

