-- ==== Sys2Proof/Machine/Store.lean ====
section
/-!
DEFINITION. The sample store (ch. 13): slots and their owners, the table window, the crossbar, the mix engine, delay lines and meters.
-/

namespace Sys2Proof.Machine

/-! ### Slot words (R386) -/

/-- The audio of a slot word, signed 24 bits. -/
def audioOf (w : Word) : Int := sgn 24 (w.toNat / 256)

/-- A slot word from audio and flags. -/
def slotWord (a : Int) (flags : Nat) : Word := BitVec.ofNat 32 (uns 24 a * 256 + flags)

/-- The flags of a slot word. -/
def flagsOf (w : Word) : Nat := w.toNat % 32

/-- VALID of a slot word. -/
def validOf (w : Word) : Bool := w.toNat.testBit 0

/-- Saturate to 24 bits: the value and whether it saturated. -/
def sat24 (v : Int) : Int × Bool := (satI 24 v, satI 24 v != v)

/-- Divide rounding to nearest, ties away from zero (R393); `d` positive. -/
def divAway (n : Int) (d : Nat) : Int :=
  let q : Int := ((2 * n.natAbs + d) / (2 * d) : Nat)
  if n < 0 then -q else q

/-- x ÷ √n rounded to nearest, ties away, for results below 2^40: one result bit at a time. -/
def divRoot (x : Int) (den n : Nat) : Int :=
  let a := 2 * x.natAbs
  let y : Nat := (List.range 40).foldl (fun y i =>
    let c := y + 2 ^ (39 - i)
    if ((2 * c - 1) * den) ^ 2 * n ≤ a ^ 2 then c else y) 0
  if x < 0 then -(y : Int) else y

/-- The level of a mean square `num ÷ den` in 1/64 dB relative to 2^23, rounded up, as 16 bits; 0x8000 for zero (R399). -/
def meterLevel (num den : Nat) : Nat :=
  if num = 0 then 0x8000
  else
    let ok (l : Int) : Bool :=
      if 0 ≤ l then num ^ 640 ≤ (den * 2 ^ 46) ^ 640 * 10 ^ l.toNat else num ^ 640 * 10 ^ (-l).toNat ≤ (den * 2 ^ 46) ^ 640
    let r := (List.range 15).foldl (fun (lo : Int) i => let c := lo + 2 ^ (14 - i); if ok (c - 1) then lo else c) (-30000)
    uns 16 r

/-- The region whose application silences a writer (R56). -/
def Writer.region : Writer → Option Nat
  | .sa _ => some 19
  | .bus _ => some 17
  | .task l _ => some (l / 16)
  | _ => Option.none

namespace State

variable (s : State)

/-- Change the store. -/
def setStore (f : StoreSt → StoreSt) : State := { s with store := f s.store }

/-- Change the audio transport. -/
def setAudio (f : AudioSt → AudioSt) : State := { s with audio := f s.audio }

/-! ### Domains (R354, R385) -/

/-- The rate domain `d` beyond its registers. -/
def domAt (d : Nat) : DomainSt := s.audio.dom.get {} d

/-- Change rate domain `d`. -/
def setDom (d : Nat) (f : DomainSt → DomainSt) : State :=
  s.setAudio fun a => { a with dom := a.dom.set {} d (f (a.dom.get {} d)) }

/-- Domain `d` (0 A, 1 B) is used by the structure. -/
def domUsed (d : Nat) : Bool := d < 2 && s.domainRate d != 3

/-- The nominal rate of domain `d`, Hz. -/
def nominalRate (d : Nat) : Nat := (if d = 0 then 48000 else 44100) * 2 ^ s.domainRate d

/-- The factors of a pull code (R154): 0 none. -/
def pullFactor : Nat → Nat × Nat
  | 1 => (1000, 1001)
  | 2 => (1001, 1000)
  | 3 => (24, 25)
  | 4 => (25, 24)
  | _ => (1, 1)

/-- The domains stand in exact ratio: their synthesisers have the same pull in force (R356). -/
def exactRatio : Bool := pullFactor (s.synth.syn.get ({} : SynSt) 1).pull == pullFactor (s.synth.syn.get ({} : SynSt) 2).pull

/-- The rate of domain `d` as a fraction, with its pull. -/
def rateQ (d : Nat) : Nat × Nat :=
  let (a, b) := pullFactor (s.domAt d).pull
  (s.nominalRate d * a, b)

/-- STORE_SPLIT. -/
def split : Nat := min 8192 (s.rdn Reg.storeSplit % 16384)

/-- The domain of a slot (R385). -/
def slotDom (i : Nat) : Nat := if i < s.split then 0 else 1

/-- A slot lies in domain `d`, which is used. -/
def slotIn (d i : Nat) : Bool := i < 8192 && s.slotDom i == d && s.domUsed d

/-- The word of a slot (R386). -/
def slot (i : Nat) : Word := s.store.slots.get 0 i

/-! ### Owners (R387) -/

/-- The owner of a slot. -/
def ownerOf (i : Nat) : Writer := s.store.owner.get .none i

/-- Every slot of a run is free or already `w`'s, and lies in used domain `d`. -/
def slotsFree (w : Writer) (d base n : Nat) : Bool :=
  (List.range n).all fun i => s.slotIn d (base + i) && (s.ownerOf (base + i) == .none || s.ownerOf (base + i) == w)

/-- Give a run of slots to `w`. -/
def takeSlots (w : Writer) (base n : Nat) : State :=
  (List.range n).foldl (fun t i => t.setStore fun x => { x with owner := x.owner.set .none (base + i) w, clear := x.clear.erase (base + i) }) s

/-- Take every slot from `w`: they receive zero at the next boundary of their domain (R387). -/
def releaseSlots (w : Writer) : State :=
  let mine := (s.store.owner.filter fun e => e.2 == w).map (·.1)
  s.setStore fun x => { x with owner := x.owner.filter fun e => e.2 != w, clear := x.clear ++ mine }

/-! ### The page pool (R388) -/

/-- Free on-chip pages. -/
def poolFree : Nat := s.fld Reg.storePool ⟨16, 16⟩

/-- Set the free on-chip pages: falling to PAGER_LOW or below sets EVT_LOW and raises interrupt 51 once (R388). -/
def setPoolFree (n : Nat) : State :=
  let low := s.rdn Reg.pagerLow % 65536
  let t := s.put Reg.storePool ⟨16, 16⟩ n
  if low < s.poolFree ∧ n ≤ low then (t.putBit Reg.pagerStatus 1 true).raiseIrq 51 else t

/-- Take on-chip pages. -/
def takePages (n : Nat) : State := s.setPoolFree (s.poolFree - n)

/-- Return on-chip pages. -/
def returnPages (n : Nat) : State := s.setPoolFree (min (s.rdn Reg.storePool % 65536) (s.poolFree + n))

/-! ### Routes (R393, R394) -/

/-- Route entry `i`. -/
def routeE (i : Nat) : RouteE := s.store.routes.get {} i

/-- Store route entry `i`. -/
def setRoute (i : Nat) (f : RouteE → RouteE) : State :=
  s.setStore fun x => { x with routes := x.routes.set {} i (f (x.routes.get {} i)) }

/-- DST of a table word 0. -/
def dstOfW (w : Word) : Nat := w.toNat % 8192

/-- SRC of a route or delay word 0. -/
def srcOfW (w : Word) : Nat := w.toNat / 8192 % 8192

/-- ENABLE of a word 0. -/
def enOfW (w : Word) : Bool := w.toNat.testBit 31

/-- Multiply a slot word by a Q3.20 gain (R393): the word and whether it saturated. -/
def gainWord (w : Word) (g : Word) : Word × Bool :=
  let (v, c) := sat24 (divAway (audioOf w * sgn 24 (g.toNat % 2 ^ 24)) (2 ^ 20))
  (slotWord v (if c then flagsOf w ||| 8 else flagsOf w), c)

/-- Count a saturated sample (R393, R396): MIX_SAT and fault 10. -/
def satCount (c : Bool) (slot : Nat) : State := if c then (s.countSat Reg.mixSat).raiseFault 10 slot else s

/-- An enabled route entry runs: SRC and DST in one used domain (R385). -/
def routeRuns (e : RouteE) : Bool :=
  enOfW e.w0 && s.slotDom (srcOfW e.w0) == s.slotDom (dstOfW e.w0) && s.domUsed (s.slotDom (dstOfW e.w0))

/-- A serial output of domain `d` reads slot `i`; given by the caller's list of read slots (R394). -/
abbrev SerialReads := List Nat

/-! ### Mixing (R396–R398) -/

/-- Bus `b`. -/
def busE (b : Nat) : MixBus := s.store.buses.get {} b

/-- Store bus `b`. -/
def setBus (b : Nat) (f : MixBus → MixBus) : State :=
  s.setStore fun x => { x with buses := x.buses.set {} b (f (x.buses.get {} b)) }

/-- A bus runs. -/
def busRuns (x : MixBus) : Bool := enOfW x.w0 && !x.cfgErr && x.owns

/-- Terms counted in domain `d` (R397). -/
def countedTerms (d : Nat) : Nat :=
  (s.store.terms.filter fun e =>
    let b := s.busE (e.1 / 256)
    enOfW e.2.w0 && busRuns b && s.slotDom (dstOfW b.w0) == d && s.domUsed d).length

/-- The load of the mix engine, terms a second (R397). -/
def mixLoad : Nat := s.countedTerms 0 * (if s.domUsed 0 then s.nominalRate 0 else 0) + s.countedTerms 1 * (if s.domUsed 1 then s.nominalRate 1 else 0)

/-- Show MIX_TERMS_A and MIX_TERMS_B. -/
def mixShow : State := (s.wrn Reg.mixTermsA (s.countedTerms 0)).wrn Reg.mixTermsB (s.countedTerms 1)

/-- Judge whether a bus takes its slot: it must be free and its domain used (R385, R387, R396). -/
def busClaim (b : Nat) : State :=
  let t := s.releaseSlots (.bus b)
  let x := t.busE b
  let dst := dstOfW x.w0
  if !enOfW x.w0 then t.setBus b fun x => { x with cfgErr := false, owns := false }
  else if t.slotsFree (.bus b) (t.slotDom dst) dst 1 then
    (t.takeSlots (.bus b) dst 1).setBus b fun x => { x with cfgErr := false, owns := true }
  else t.setBus b fun x => { x with cfgErr := true, owns := false }

/-- Move an effective gain towards its target by at most `lim` (R398): level and sign; none is gain 0. -/
def slewStep (lim : Int) (cur target : Option (Int × Bool)) : Option (Int × Bool) :=
  let floor : Int := -120 * 2 ^ 32
  match cur, target with
  | none, none => none
  | none, some (l, sg) => some (min l (floor + lim), sg)
  | some (l, sg), none => if l ≤ floor then none else some (max floor (l - lim), sg)
  | some (l, sg), some (m, sh) =>
    if sg = sh then some (if l < m then min m (l + lim) else max m (l - lim), sg)
    else if l ≤ floor then some (min m (floor + lim), sh) else some (max floor (l - lim), sg)

/-- The target of a signed gain over a scale of 1 ÷ d. -/
def slewTarget (g : Int) (d : Nat) : Option (Int × Bool) :=
  if g = 0 then none else some (Config.gainLevel g.natAbs d, decide (g < 0))

/-- The gain in 2^-20 of an effective gain. -/
def slewGain : Option (Int × Bool) → Int
  | none => 0
  | some (l, neg) => if neg then -(Config.levelGain l : Int) else Config.levelGain l

/-- The slew limit of a bus per SP in 2^-32 dB (R398). -/
def slewLimit (x : MixBus) (d : Nat) : Int :=
  (min 1000 (x.w0.toNat / 2 ^ 18 % 1024) * 42949672960 * (s.rateQ d).2 / (s.rateQ d).1 : Nat)

/-- Evaluate bus `b` in domain `d` from the words latched at the last boundary (R396, R398): the word for its slot and the state after.  Without SLEW the
effective gains are the written ones; log entry 58 says how a term written to gain 0 leaves. -/
def evalBus (d b : Nat) : Word × State :=
  let x := s.busE b
  let slew := x.w0.toNat / 2 ^ 18 % 1024 != 0
  let lim := s.slewLimit x d
  let mine := s.store.terms.filter fun e => e.1 / 256 == b
  let isActive (e : MixTerm) : Bool :=
    enOfW e.w0 && e.w1.toNat % 2 ^ 24 != 0 && s.slotDom (dstOfW e.w0) == d && validOf (s.slot (dstOfW e.w0))
  let act := mine.filter fun e => isActive e.2
  let n := act.length
  let scale := x.w0.toNat / 2 ^ 29 % 4
  -- the effective gains move first
  let move (cur target : Option (Int × Bool)) : Option (Int × Bool) := if slew then slewStep lim cur target else target
  let s1 := s.setStore fun y => { y with terms := y.terms.map fun e =>
      if e.1 / 256 == b then (e.1, { e.2 with eff := if isActive e.2 then move e.2.eff (slewTarget (sgn 24 (e.2.w1.toNat % 2 ^ 24)) 1) else none })
      else e }
  let effBus := move x.eff (slewTarget (sgn 24 (x.w1.toNat % 2 ^ 24)) 1)
  let effScale := if n = 0 then x.effScale
    else move x.effScale (some (Config.gainLevel (2 ^ 20) (if scale = 0 then 1 else if scale = 2 then n else n * n), false))
  let flags := act.foldl (fun f e => f ||| flagsOf (s.slot (dstOfW e.2.w0))) 0
  let total : Int := act.foldl (fun a e =>
    let g := if slew then slewGain (s1.store.terms.get {} e.1).eff else sgn 24 (e.2.w1.toNat % 2 ^ 24)
    a + audioOf (s.slot (dstOfW e.2.w0)) * g) 0
  let v : Int :=
    if n = 0 then 0
    else if slew then divAway (total * slewGain effBus * slewGain effScale) (2 ^ 60)
    else
      let p := total * sgn 24 (x.w1.toNat % 2 ^ 24)
      if scale = 0 then divAway p (2 ^ 40) else if scale = 2 then divRoot p (2 ^ 40) n else divAway p (2 ^ 40 * n)
  let (a, c) := sat24 v
  let w := if n = 0 then 0 else slotWord a (if c then flags ||| 8 else flags)
  let s2 := s1.setBus b fun y =>
    { y with active := n, sat := y.sat || c, eff := effBus, effScale := effScale }
  (w, s2.satCount c (dstOfW x.w0))

/-! ### Delay lines (R389–R391) -/

/-- Line `i`. -/
def lineE (i : Nat) : DelayLine := s.store.lines.get {} i

/-- Store line `i`. -/
def setLineE (i : Nat) (f : DelayLine → DelayLine) : State :=
  s.setStore fun x => { x with lines := x.lines.set {} i (f (x.lines.get {} i)) }

/-- CAP of a line, at least 1. -/
def capOf (x : DelayLine) : Nat := max 1 (x.cap.toNat % 2 ^ 22)

/-- LENGTH of a line, from 1 to CAP. -/
def lengthOf (x : DelayLine) : Nat := max 1 (min (capOf x) (x.len.toNat % 2 ^ 22))

/-- A line runs. -/
def lineRuns (x : DelayLine) : Bool := x.st == 1 || x.st == 2

/-- Whether paging is possible for a line of `cap` in domain `d` (R391). -/
def canPage (cap d : Nat) : Bool :=
  4096 ≤ cap && s.on Reg.dramStatus Fld.dramStatus_TRAINED && s.param 0x41 0 != 0 && 4 ≤ s.poolFree &&
    (cap + 1023) / 1024 + 1 ≤ s.rdn Reg.storeDramFree && s.rdn Reg.pagerLoad + s.nominalRate d ≤ 393216000

/-- Free the storage and the slot of line `i`. -/
def lineFree (i : Nat) : State :=
  let x := s.lineE i
  let d := s.slotDom (dstOfW x.w0)
  let t := s.releaseSlots (.dly i)
  let t := if x.pages = 0 then t else t.returnPages x.pages
  let t := if x.st = 2 then (t.wrn Reg.storeDramFree (t.rdn Reg.storeDramFree + x.ext)).wrn Reg.pagerLoad (t.rdn Reg.pagerLoad - t.nominalRate d) else t
  t.setLineE i fun x => { x with st := 0, pages := 0, ext := 0, hist := [], last := 0 }

/-- Word 0 of line `i` names slots that it may have: DST free or its own, SRC in the same used domain (R385, R387). -/
def lineFits (i : Nat) (w0 : Word) : Bool :=
  let d := s.slotDom (dstOfW w0)
  s.slotsFree (.dly i) d (dstOfW w0) 1 && s.slotDom (srcOfW w0) == d

/-- Line `i` runs on with another DST: its storage stays where PLACE put it when it was enabled (R391, log entry 58). -/
def lineMove (i dst : Nat) : State :=
  let old := dstOfW (s.lineE i).w0
  if old = dst then s
  else
    let t := (s.releaseSlots (.dly i)).takeSlots (.dly i) dst 1
    if (s.lineE i).st = 2 then
      t.wrn Reg.pagerLoad (t.rdn Reg.pagerLoad - s.nominalRate (s.slotDom old) + s.nominalRate (s.slotDom dst)) else t

/-- Enable line `i` (R385, R387, R391): CFG_ERR, or storage by PLACE, or NOMEM. -/
def lineStart (i : Nat) : State :=
  let x := s.lineE i
  let dst := dstOfW x.w0
  let d := s.slotDom dst
  if !s.lineFits i x.w0 then s.setLineE i fun x => { x with st := 4 }
  else
    let pages := (capOf x + 1023) / 1024
    let place := x.w0.toNat / 2 ^ 29 % 4
    if place ≠ 2 ∧ pages ≤ s.poolFree then
      ((s.takeSlots (.dly i) dst 1).takePages pages).setLineE i fun x => { x with st := 1, pages := pages }
    else if place ≠ 1 && s.canPage (capOf x) d then
      let t := (s.takeSlots (.dly i) dst 1).takePages 4
      let t := (t.wrn Reg.storeDramFree (t.rdn Reg.storeDramFree - (pages + 1))).wrn Reg.pagerLoad (t.rdn Reg.pagerLoad + t.nominalRate d)
      t.setLineE i fun x => { x with st := 2, pages := 4, ext := pages + 1 }
    else s.setLineE i fun x => { x with st := 3 }

/-- One boundary of line `i` (count `k`): the word latched in SRC at the last boundary enters, and the word of LENGTH SP ago leaves; with its
page absent the last output repeats with HELD (R389, R391). -/
def evalLine (i k : Nat) (absent : Bool) : Word × State :=
  let x := s.lineE i
  let cap := capOf x
  let h := x.hist.set 0 ((k - 1) % cap) (s.slot (srcOfW x.w0))
  if absent && x.st == 2 then
    let w := x.last ||| 4
    let t := s.setLineE i fun x => { x with hist := h, late := min 65535 (x.late + 1), last := w }
    (w, ((t.incSat Reg.pagerStatus ⟨16, 16⟩).putBit Reg.pagerStatus 0 true).raiseIrq 51)
  else
    let w := h.get 0 ((k - lengthOf x) % cap)
    (w, s.setLineE i fun x => { x with hist := h, last := w })

/-! ### The table window (R395, R401) -/

/-- The size of a table; 0 for none. -/
def tableSize (t : Nat) : Nat :=
  match t with
  | 0 => s.param 0x38 0
  | 1 => s.param 0x39 0 * 256
  | 2 => s.param 0x39 0
  | 3 => 2048
  | 4 => 8192
  | _ => 0

/-- The meter of slot `i`. -/
def meter (i : Nat) : MeterSt := s.store.meters.get {} i

/-- Store the meter of slot `i`. -/
def setMeter (i : Nat) (f : MeterSt → MeterSt) : State :=
  s.setStore fun x => { x with meters := x.meters.set {} i (f (x.meters.get {} i)) }

/-- The words of a table entry (R403). -/
def tblEntry (t i : Nat) : List Nat :=
  match t with
  | 0 => let e := s.routeE i; [e.w0.toNat, e.w1.toNat, e.loses.toNat * 4 + e.cfgErr.toNat * 2 + e.direct.toNat, 0]
  | 1 => let e := s.store.terms.get {} i; [e.w0.toNat, e.w1.toNat, 0, 0]
  | 2 => let e := s.busE i; [e.w0.toNat, e.w1.toNat, e.active * 65536 + e.sat.toNat * 2 + e.cfgErr.toNat, 0]
  | 3 => let e := s.lineE i; [e.w0.toNat, e.len.toNat, e.cap.toNat, e.late * 65536 + e.st]
  | 4 =>
    let m := s.meter i
    [meterLevel (m.lpeak ^ 2) 1 * 65536 + meterLevel (m.hold ^ 2) 1, meterLevel m.lsq (max 1 m.ln) * 65536 + m.clips, 0, 0]
  | _ => [0, 0, 0, 0]

/-- The domain of a table write: that of its DST slot, or of its bus's for mix terms (R395). -/
def writeDom (w : TblWrite) : Nat :=
  s.slotDom (if w.table = 1 then dstOfW (s.busE (w.index / 256)).w0 else dstOfW (w.data.headD 0))

/-- Put a table write into force (R387, R391, R395), without the test of R397. -/
def putWrite (w : TblWrite) : State :=
  let d0 := w.data.getD 0 0
  let d1 := w.data.getD 1 0
  match w.table with
  | 0 =>
    let t := s.setRoute w.index fun e => { e with w0 := d0 &&& 0xC3FFFFFF, w1 := d1 &&& 0xFFFFFF, loses := false, direct := false }
    t.setRoute w.index fun e => { e with cfgErr := enOfW e.w0 && !t.routeRuns e }
  | 1 => s.setStore fun x => { x with terms := x.terms.set {} w.index { x.terms.get {} w.index with w0 := d0 &&& 0x80001FFF, w1 := d1 &&& 0xFFFFFF } }
  | 2 => (s.setBus w.index fun e => { e with w0 := d0 &&& 0xEFFC1FFF, w1 := d1 &&& 0xFFFFFF }).busClaim w.index
  | 3 =>
    let x := s.lineE w.index
    let was := enOfW x.w0
    let nw := d0 &&& 0xE3FFFFFF
    let cap := w.data.getD 2 0 &&& 0x3FFFFF
    let fields (t : State) : State := t.setLineE w.index fun x => { x with w0 := nw, len := d1 &&& 0x3FFFFF, cap := if was then x.cap else cap }
    if !enOfW nw then fields (s.lineFree w.index)
    else if !lineRuns x then (fields s).lineStart w.index
    else if s.lineFits w.index nw then (fields (s.lineMove w.index (dstOfW nw)))
    else (fields (s.lineFree w.index)).setLineE w.index fun x => { x with st := 4 }
  | _ => s

/-- Put a table write into force unless it would raise the mix load beyond R397's figure: the state and whether it was refused. -/
def applyWrite (w : TblWrite) : State × Bool :=
  let t := s.putWrite w
  if s.mixLoad < t.mixLoad && 6291456000 < t.mixLoad then (s, true) else (t.mixShow, false)

/-- Put writes into force in order. -/
def applyWrites : List TblWrite → State → State
  | [], s => s
  | w :: ws, s =>
    let (t, r) := s.applyWrite w
    applyWrites ws (if r then t.putBit Reg.tblStatus 2 true else t)

/-- A write takes effect at a boundary of domain `d`: its own, or any where its own is not used. -/
def dueAt (d : Nat) (w : TblWrite) : Bool := s.writeDom w == d || !s.domUsed (s.writeDom w)

/-- Show STAGED and COMMIT_PEND. -/
def stageShow : State :=
  (s.put Reg.routeStatus ⟨21, 11⟩ s.store.staged.length).put Reg.routeStatus ⟨0, 1⟩ s.store.commitDom.isSome.toNat

/-- The boundary of domain `d` with count `k` is the common boundary of the commit that waits (R395). -/
def commitDue (d k : Nat) : Bool :=
  match s.store.commitDom with
  | none => false
  | some 2 =>
    let f := s.nominalRate d
    let g := s.nominalRate (1 - d)
    k * g % f == 0
  | some x => x == d

/-- No commit waits any more. -/
def commitClear : State :=
  s.setStore fun x => { x with commit := [], commitDom := none, waiting := x.waiting ++ x.waitingLate, waitingLate := [] }

/-- The scheduled group takes effect: interrupt 45 (R395). -/
def commitApply : State := ((applyWrites s.store.commit s.commitClear).stageShow).raiseIrq 45

/-- The direct writes due at a boundary of domain `d` that came before the commit that waits take effect in order. -/
def waitingAt (d : Nat) : State :=
  applyWrites (s.store.waiting.filter (s.dueAt d)) (s.setStore fun x => { x with waiting := x.waiting.filter fun w => !s.dueAt d w })

/-- Those that came after it. -/
def waitingLateAt (d : Nat) : State :=
  applyWrites (s.store.waitingLate.filter (s.dueAt d)) (s.setStore fun x => { x with waitingLate := x.waitingLate.filter fun w => !s.dueAt d w })

/-- What is due at a boundary of domain `d` with count `k` takes effect in the order in which it arrived (R29, R395): the direct writes before the
commit, the commit, and the direct writes after it. -/
def tablesAt (d k : Nat) : State :=
  let t := s.waitingAt d
  if t.commitDue d k then t.commitApply.waitingAt d else t.waitingLateAt d

/-- Discard the staged writes, and a pending commit, that `p` selects (R393, R636). -/
def dropStaged (p : TblWrite → Bool) : State :=
  let hit := s.store.commit.any p
  let t := s.setStore fun x => { x with staged := x.staged.filter fun w => !p w }
  (if hit then t.commitClear else t).stageShow

/-! ### Meters (R399, R636) -/

/-- A sample clips: CLIPPED set, or full scale. -/
def isClip (w : Word) : Bool := w.toNat.testBit 3 || audioOf w == 0x7FFFFF || audioOf w == -0x800000

/-- Meter one slot's word. -/
def meterWord (i : Nat) (w : Word) : State :=
  let a := (audioOf w).natAbs
  if a = 0 ∧ isClip w = false then s
  else s.setMeter i fun m => { m with peak := max m.peak a, sq := m.sq + a * a, clipped := m.clipped + (isClip w).toNat }

/-- The slots of domain `d` with a meter or a word. -/
def meteredSlots (d : Nat) : List Nat := (s.store.meters.filter fun e => s.slotDom e.1 == d).map (·.1)

/-- A metering period of domain `d` in SP (R399): a PERIOD_MS of 0 acts as 1. -/
def meterPeriod (d : Nat) : Nat := (2 * max 1 (s.fld Reg.meterCfg ⟨0, 10⟩) * s.nominalRate d + 1000) / 2000

/-- A metering period of domain `d` ends (R399). -/
def meterEnd (d : Nat) : State :=
  let slots := s.meteredSlots d
  let n := (s.domAt d).meterN
  let rose := slots.filter fun i => (s.meter i).clipped != 0 && (s.meter i).clips != 65535
  let t := slots.foldl (fun u i => u.setMeter i fun m =>
    { m with
      rose := if m.hold < m.peak then s.monitorNow else m.rose,
      lpeak := m.peak, lsq := m.sq, ln := n, hold := max m.hold m.peak, clips := min 65535 (m.clips + m.clipped),
             peak := 0, sq := 0, clipped := 0 }) s
  let t := t.setDom d fun x => { x with meterN := 0 }
  let t := t.wrn Reg.meterClip (rose.length * 65536 + rose.foldl min (rose.headD 0))
  t.raiseIrqIf (t.bit Reg.meterCfg 16 && !rose.isEmpty) 46

/-- A block reset of ROUTE (R12, R636): meters, staged writes and a pending commit go, and every field that is not RW/S. -/
def routeReset : State :=
  let t := (s.setStore fun x => { x with meters := [], staged := [] }).commitClear
  ((t.resetRegs (inPage 14)).mixShow).stageShow

end State

/-! ### The rows -/

/-- The entry that TBL_SEL names: table and index. -/
def tblSelected (s : State) : Nat × Nat := (s.rdn Reg.tblSel / 2 ^ 28, s.rdn Reg.tblSel % 2 ^ 17)

/-- Table `t` belongs to a region that is being applied (R53). -/
def State.tableBusy (s : State) (t : Nat) : Bool := (t == 0 && s.regionBusy 16) || ((t == 1 || t == 2) && s.regionBusy 17)

/-- A table command starts: none on a table whose region is being applied, which is a violation (R53), and none while BUSY; TBL_STATUS clears,
and an index beyond the table sets RANGE (R401). -/
def tblStart (s : State) (f : Nat → Nat → State → State) : State :=
  let (t, i) := tblSelected s
  if s.tableBusy t then s.violation 5 .pcie true false Reg.tblCmd
  else if s.bit Reg.tblStatus 0 then s
  else
    let s1 := s.wr Reg.tblStatus 1
    if s.tableSize t ≤ i then s1.putBit Reg.tblStatus 3 true else f t i s1

/-- Latch an entry into TBL_DATA; a READ of a bus clears its SAT (R403). -/
def tblLatch (s : State) (t i : Nat) : State :=
  let s1 := s.wrRun (Reg.tblData 0) ((s.tblEntry t i).map (BitVec.ofNat 32))
  if t = 2 then s1.setBus i fun b => { b with sat := false } else s1

/-- The write that TBL_DATA describes. -/
def tblWriteOf (s : State) (t i : Nat) : TblWrite := ⟨t, i, (List.range 4).map fun k => s.rd (Reg.tblData k)⟩

/-- TBL_READ (R401): the entry as it stands in force is latched. -/
def execTblRead (s : State) : Res := done (tblStart s fun t i u => tblLatch u t i)

/-- TBL_WRITE (R395, R397, R401): the write takes effect at the next boundary of its domain; refused now where it would exceed the mix load.
METER ignores a write. -/
def execTblWrite (s : State) : Res :=
  done (tblStart s fun t i u =>
    let w := tblWriteOf u t i
    if t = 4 then u
    else if (u.applyWrite w).2 then u.putBit Reg.tblStatus 2 true
    else u.setStore fun x =>
      if x.commitDom.isSome then { x with waitingLate := x.waitingLate ++ [w] } else { x with waiting := x.waiting ++ [w] })

/-- TBL_STAGE (R395): the write is staged for a commit; a 1,025th is not taken. -/
def execTblStage (s : State) : Res :=
  done (tblStart s fun t i u =>
    if t = 4 then u
    else if 1024 ≤ u.store.staged.length then u.putBit Reg.tblStatus 1 true
    else (u.setStore fun x => { x with staged := x.staged ++ [tblWriteOf u t i] }).stageShow)

/-- TBL_RELEASE (R399, R401): the entry is latched; a meter's HOLD is then released and its CLIPS cleared. -/
def execTblRelease (s : State) : Res :=
  done (tblStart s fun t i u =>
    let v := tblLatch u t i
    if t = 4 then v.setMeter i fun m => { m with hold := 0, clips := 0, clipped := 0 } else v)

/-- TBL_CMD_DONE (R401): BUSY clears. -/
def execTblCmdDone (s : State) : Res := done (s.putBit Reg.tblStatus 0 false)

/-- ROUTE_COMMIT ignores writes while region 16 or 17 is being applied, and each counts as a violation (R53). -/
def State.commitBusy (s : State) : Bool := s.regionBusy 16 || s.regionBusy 17

/-- ROUTE_COMMIT (R395): the staged group is scheduled at its common boundary; ignored while one is pending; refused with COMMIT_SPLIT when
both domains take part and stand in no exact ratio. -/
def execRouteCommit (s : State) : Res :=
  done (if s.commitBusy then s.violation 5 .pcie true false Reg.routeCommit
  else if s.store.commitDom.isSome then s.putBit Reg.routeStatus 1 true
  else
    let s1 := (s.putBit Reg.routeStatus 1 false).putBit Reg.routeStatus 2 false
    let doms := (s.store.staged.map s.writeDom).filter s.domUsed
    let a := doms.contains 0
    let b := doms.contains 1
    if a && b && !s.exactRatio then s1.putBit Reg.routeStatus 2 true
    else
      let d := if a && b then 2 else if b then 1 else if a || s.domUsed 0 then 0 else 1
      (s1.setStore fun x => { x with commit := x.staged, staged := [], commitDom := some d }).stageShow)

/-- ROUTE_DISCARD (R395): the staged writes are discarded; ignored, as every write of ROUTE_COMMIT, while region 16 or 17 is being applied (R53). -/
def execRouteDiscard (s : State) : Res :=
  done (if s.commitBusy then s.violation 5 .pcie true false Reg.routeCommit else (s.setStore fun x => { x with staged := [] }).stageShow)

/-- METER_PERIOD_END (R399): the period has had its SP. -/
def execMeterPeriodEnd (dom : Fin 2) (s : State) : Res :=
  done (if s.domUsed dom && decide (s.meterPeriod dom ≤ (s.domAt dom).meterN) then s.meterEnd dom else s)

/-- METER_HOLD_RELEASE (R399): HOLD is released HOLD_S seconds, at most 60, after it last rose; with HOLD_S 0 it holds until RELEASE. -/
def execMeterHoldRelease (slot : Fin 8192) (s : State) : Res :=
  done (
    let secs := min 60 (s.rdn Reg.meterCfg / 2 ^ 24)
    if secs = 0 ∨ s.monitorNow - (s.meter slot).rose < (secs * secondTicks : Nat) then s else s.setMeter slot fun m => { m with hold := 0 })

/-- PAGER_PAGE_FETCH (R391, R392, R601): the longest access of the second is kept; an armed injection goes with the page written; errors are logged,
and uncorrectable words are yielded as zero with all flags clear. -/
def execPagerPageFetch (line : Fin 2048) (ns : Word) (errs : List (BitVec 33 × Byte × Option Nat)) (s : State) : Res :=
  done (
    let x := s.lineE line
    if x.st ≠ 2 then s
    else
      let s1 := s.setDram fun d => { d with wait := max d.wait ns.toNat, inject := 0 }
      errs.foldl (fun (u : State) (e : BitVec 33 × Byte × Option Nat) => match e.2.2 with
        | none => u.eccError e.1.toNat e.2.1.toNat false
        | some k => (u.eccError e.1.toNat e.2.1.toNat true).setLineE line fun y => { y with hist := y.hist.set 0 (k % State.capOf x) 0 }) s1)

/-- PAGER_TIMEOUT (R392): an access for a paged line stays unanswered; fault 42. -/
def execPagerTimeout (s : State) : Res :=
  done (if s.store.lines.any fun e => e.2.st == 2 then s.raiseFault 42 0 else s)

end Sys2Proof.Machine
end

