-- ==== Sys2Proof/Machine/Facet.lean ====
section
/-!
DEFINITION. Facet lanes, tasks and their scheduler (ch. 14): descriptors, lane memory, the window of a sample period, margins, migration,
lending, rotation, mailboxes and channels.
-/

namespace Sys2Proof.Machine

namespace State

variable (s : State)

/-- Change the Facet lanes. -/
def setFacet (f : FacetSt → FacetSt) : State := { s with facet := f s.facet }

/-- Lane `n`. -/
def laneF (n : Nat) : LaneSt := s.facet.lanes.get {} n

/-- Change lane `n`. -/
def setLaneF (n : Nat) (f : LaneSt → LaneSt) : State :=
  s.setFacet fun x => { x with lanes := x.lanes.set {} n (f (x.lanes.get {} n)) }

/-- The task with a TASK_ID: 16 × home lane + word. -/
def task? (t : Nat) : Option TaskSt := s.facet.tasks.get none t

/-- Change a task. -/
def setTask (t : Nat) (f : TaskSt → TaskSt) : State :=
  s.setFacet fun x => { x with tasks := x.tasks.set none t ((x.tasks.get none t).map f) }

/-- The words of FACET_n_TASKS (R41). -/
def taskWords (n : Nat) : List Nat := if s.loader.built then paramWords s.loader.params 0x31 n else []

/-- MODE of lane `n`: complex. -/
def laneCplx (n : Nat) : Bool := (s.param 0x30 n).testBit 0

/-- LENDABLE of lane `n`. -/
def laneLendable (n : Nat) : Bool := (s.param 0x30 n).testBit 8

/-- OOS of lane `n`. -/
def laneOos (n : Nat) : Bool := s.bit (Reg.facetCtrl n) 8

/-! ### Memories (R406) -/

/-- Bundle `p` of lane `n`. -/
def progAt (n p : Nat) : BitVec 64 := s.facet.prog.get 0 (n * 2048 + p)

/-- A word of lane `n`: X memory, or Y with `y`. -/
def memRd (n : Nat) (y : Bool) (a : Nat) : Word := if y then s.facet.y.get 0 (n * 8192 + a) else s.facet.x.get 0 (n * 8192 + a)

/-- Store a word of lane `n`. -/
def memWr (n : Nat) (y : Bool) (a : Nat) (v : Word) : State :=
  s.setFacet fun f => if y then { f with y := f.y.set 0 (n * 8192 + a) v } else { f with x := f.x.set 0 (n * 8192 + a) v }

/-- An address lies in a region of a task. -/
def inRegion (t : TaskSt) (y : Bool) (a : Nat) : Bool :=
  if y then t.yBase ≤ a && a < t.yBase + t.yLen else t.xBase ≤ a && a < t.xBase + t.xLen

/-- An address lies in the code range of a task, its descriptor included. -/
def inCode (t : TaskSt) (p : Nat) : Bool := t.entry ≤ p && p < t.entry + 2 + t.codeLen

/-- Store a word of lane `n`; a write to a region of a task that has been copied by a migration is made on both lanes (R425). -/
def memPut (n : Nat) (y : Bool) (a : Nat) (v : Word) : State :=
  let t := s.memWr n y a v
  match s.facet.mig with
  | some m =>
    if m.copied && m.src == n && m.tasks.any (fun k => match s.task? k with | some x => inRegion x y a | none => false) then
      t.memWr m.dst y a v
    else t
  | none => t

/-- Store a run of words. -/
def memPutRun (n : Nat) (y : Bool) : State → Nat → List Word → State
  | s, _, [] => s
  | s, a, v :: vs => memPutRun n y (s.memPut n y a v) (a + 1) vs

/-! ### Budgets and capacity (R414–R417) -/

/-- The tasks on lane `n`. -/
def laneTasks (n : Nat) : List TaskSt := (s.laneF n).order.filterMap s.task?

/-- The sum of the BUDGETs on lane `n`. -/
def budgetSum (n : Nat) : Nat := (s.laneTasks n).foldl (fun a t => a + t.budget) 0

/-- The domain of the tasks of lane `n`; A when it has none (R571). -/
def laneDom (n : Nat) : Nat := match s.laneTasks n with | t :: _ => t.dom | [] => 0

/-- The part of the usable window of domain `d`, one SP less 740 ns (R414), that `ps` make up, in percent rounded down (R416). -/
def windowPct (d ps : Nat) : Nat :=
  let (num, den) := s.rateQ d
  100 * ps * num / max 1 (1000000000000 * den - 740000 * num)

/-- Bundles a rate in thousands of bundles/s fits into `pct` % of the usable window of domain `d`, rounded down (R414, R417). -/
def windowBundles (d rate pct : Nat) : Nat :=
  let (num, den) := s.rateQ d
  pct * rate * (1000000000 * den - 740 * num) / (100 * 1000000 * num)

/-- The guaranteed task budget of domain `d` with its pull (R414, R415). -/
def taskBudget (d : Nat) : Nat := s.windowBundles d 1100000 100

/-- CEIL_PCT, 50–95 (R438). -/
def ceilPct : Nat := max 50 (min 95 (s.rdn Reg.schedCtrl / 2 ^ 24))

/-- BUDGET_CAP of lane `n`. -/
def budgetCap (n : Nat) : Nat := s.rdn (Reg.facetCapacity n) / 65536

/-- The planning capacity C_n of lane `n` for tasks of domain `d` (R417); a lane that has issued nothing yet has BUDGET_CAP (log entry 31). -/
def planFor (n d : Nat) : Nat :=
  let r := s.rdn (Reg.facetRate n)
  if r = 0 then s.budgetCap n else min (s.windowBundles d r s.ceilPct) (s.budgetCap n)

/-- C_n of lane `n`. -/
def planOf (n : Nat) : Nat := s.planFor n (s.laneDom n)

/-- Lane `n` is over plan (R417). -/
def overPlan (n : Nat) : Bool := s.planOf n < s.budgetSum n

/-- A lane takes part in a migration. -/
def laneMigrating (n : Nat) : Bool := match s.facet.mig with | some m => m.src == n || m.dst == n | none => false

/-- STATE of lane `n` (R437). -/
def laneStateOf (n : Nat) : Nat :=
  let x := s.laneF n
  if x.failed then 5
  else if s.facet.testing = some n then 3
  else if x.role = 3 then 7
  else if x.role = 2 then 6
  else if x.role = 1 then 2
  else if s.laneOos n then 4
  else if x.order = [] then 0 else 1

/-- Show STATUS and CAPACITY of lane `n` (R437). -/
def laneShow (n : Nat) : State :=
  let x := s.laneF n
  let err := (s.laneTasks n).any (·.descErr)
  let w := x.order.length * 2 ^ 24 + s.fld (Reg.facetStatus n) ⟨16, 8⟩ * 65536 + err.toNat * 4096 + x.lent.isSome.toNat * 2048 +
    (s.laneMigrating n).toNat * 1024 + (s.overPlan n).toNat * 512 + (s.laneCplx n).toNat * 256 + x.role * 16 + s.laneStateOf n
  (s.wrn (Reg.facetStatus n) w).put (Reg.facetCapacity n) ⟨0, 16⟩ (s.planOf n)

/-- Show the scheduler's fields (R438): lanes lent, the lane in self-test, MIGRATING. -/
def schedShow : State :=
  let lent := ((List.range 256).filter fun n => (s.laneF n).lent.isSome).length
  let s := (s.put Reg.schedStatus ⟨8, 8⟩ lent).put Reg.schedStatus ⟨16, 8⟩ (s.facet.testing.getD 255)
  s.putBit Reg.schedStatus 0 s.facet.mig.isSome

/-! ### Descriptors (R409, R410) -/

/-- A slot map of `k` words from address `a` of Y memory. -/
def slotMap (n a k : Nat) : List Nat := (List.range k).map fun i => (s.memRd n true (a + i)).toNat % 8192

/-- The task of word `w` of lane `n` from its descriptor, without the test of overlaps. -/
def readTask (n w : Nat) : TaskSt :=
  let e := w / 2 ^ 15 % 2048
  let d0 := (s.progAt n e).toNat
  let d1 := (s.progAt n (e + 1)).toNat
  let dom := w / 2 ^ 31
  let nIn := d1 / 2 ^ 44 % 128
  let nOut := d1 / 2 ^ 37 % 128
  let banks := d0.testBit 51
  let bankLen := if banks then d1 / 2 ^ 24 % 8192 else 0
  let xB := d0 / 2 ^ 38 % 8192
  let xL := d0 / 2 ^ 25 % 8192
  let yB := d0 / 2 ^ 12 % 8192
  let yL := d1 / 2 ^ 51 % 8192
  let ins := s.slotMap n yB nIn
  let outs := s.slotMap n (yB + nIn) nOut
  let fits := nIn ≤ 64 && nOut ≤ 64 && nIn ≤ xL && nIn + 2 * nOut + 2 * bankLen ≤ yL && xB + xL ≤ 8192 && yB + yL ≤ 8192
  { dom := dom, entry := e, budget := w % 2 ^ 15, codeLen := d0 / 2 ^ 53, pinned := d0.testBit 52, banks := banks,
    xBase := xB, xLen := xL, yBase := yB, yLen := yL, nIn := nIn, nOut := nOut, bankLen := bankLen,
    ownFlags := d1.testBit 23, descErr := !(fits && (ins ++ outs).all (s.slotIn dom)), ins := ins, outs := outs, lane := n }

/-- Two runs of words overlap. -/
def runsMeet (a n b m : Nat) : Bool := 0 < n && 0 < m && a < b + m && b < a + n

/-- The regions of two tasks overlap (R410). -/
def regionsMeet (t u : TaskSt) : Bool := runsMeet t.xBase t.xLen u.xBase u.xLen || runsMeet t.yBase t.yLen u.yBase u.yLen

/-- The code ranges of two tasks overlap. -/
def codeMeets (t u : TaskSt) : Bool := runsMeet t.entry (t.codeLen + 2) u.entry (u.codeLen + 2)

/-- The tasks of lane `n` as its cluster is applied: descriptors read, overlaps marked. -/
def buildTasks (n : Nat) : List (Nat × TaskSt) :=
  let ws := s.taskWords n
  let ts := (List.range (min 15 ws.length)).map fun k => (16 * n + k, s.readTask n (ws.getD k 0))
  ts.map fun t => (t.1, { t.2 with descErr := t.2.descErr || ts.any fun u => u.1 != t.1 && regionsMeet t.2 u.2 })

/-! ### Starting a task (R411, R440) -/

/-- The register set a task starts with: X and ACC hold free values, everything else as R411 and R440 say. -/
def startCtx (t : TaskSt) (c : Ctx) : Ctx × State :=
  let xs := (List.range 8).map fun i => Config.freeValue 24 (s.free + i)
  let accs := (List.range 4).map fun i => Config.freeValue 56 (s.free + 8 + i)
  let ad (v : Nat) : BitVec 13 := BitVec.ofNat 13 v
  let bank := if t.banks then t.yBase + t.nIn + 2 * t.nOut + (if t.bank then t.bankLen else 0) else 0
  ({ pc := t.entry + 2, x := xs, acc := accs, a := [ad t.xBase, ad (t.yBase + t.nIn + t.nOut), ad bank, ad (t.xBase + t.nIn)],
     m := List.replicate 4 1, l := List.replicate 4 0, ra := c.ra, isavePc := c.isavePc, isaveSr := c.isaveSr },
   { s with free := s.free + 12 })

/-- The next task of lane `n` starts (R411, R413, R428). -/
def taskStart (n t : Nat) (rest : List Nat) : State :=
  let s := s.setTask t fun x => if x.swapPend then { x with bank := !x.bank, swapPend := false } else x
  match s.task? t with
  | none => s.setLaneF n fun x => { x with todo := rest }
  | some x =>
    let (c, s) := s.startCtx x (s.laneF n).ctx
    s.setLaneF n fun y => { y with todo := rest, cur := some t, ctx := c, stalled := false }

/-- The GNSS_LOOP program of lane `n` starts at ENTRY (R431). -/
def loopStart (n : Nat) : State :=
  match s.task? (16 * n) with
  | none => s
  | some x =>
    let (c, s) := s.startCtx x (s.laneF n).ctx
    s.setLaneF n fun y => { y with loopRun := true, ctx := c, stalled := false }

/-- Zero the state parts of a task (R410, R420). -/
def zeroState (t : TaskSt) : State :=
  let y0 := t.nIn + 2 * t.nOut + 2 * t.bankLen
  memPutRun t.lane true (memPutRun t.lane false s (t.xBase + t.nIn) (List.replicate (t.xLen - t.nIn) 0)) (t.yBase + y0) (List.replicate (t.yLen - y0) 0)

/-! ### Mailboxes and channels (R433, R434) -/

/-- Show the fills of the mailboxes of lane `n`. -/
def mailShow (n : Nat) : State :=
  let x := s.laneF n
  (s.put (Reg.facetMailStatus n) ⟨17, 7⟩ x.mailOut.length).put (Reg.facetMailStatus n) ⟨10, 7⟩ x.mailIn.length

/-- An entry for the inbound mailbox of lane `n`. -/
def mailInPush (n : Nat) (v : Word) : State :=
  if 64 ≤ (s.laneF n).mailIn.length then (s.putBit (Reg.facetMailStatus n) 1 true).raiseFault 40 (n * 256 + 7)
  else (s.setLaneF n fun x => { x with mailIn := x.mailIn ++ [v] }).mailShow n

/-- An entry for the outbound mailbox of lane `n`: interrupt 48 when the fill crosses LEVEL upward. -/
def mailOutPush (n : Nat) (v : Word) : State :=
  let was := (s.laneF n).mailOut.length
  if 64 ≤ was then (s.putBit (Reg.facetMailStatus n) 2 true).raiseFault 40 (n * 256 + 7)
  else
    let s := (s.setLaneF n fun x => { x with mailOut := x.mailOut ++ [v] }).mailShow n
    if Fifo.crosses (s.rdn (Reg.facetMailStatus n) / 2 ^ 24) was (was + 1) then
      (s.putBit (Reg.schedMailEvt (n / 32)) (n % 32) true).raiseIrq 48
    else s

/-- Channel `i` of the cluster of lane `n`. -/
def chanOf (n i : Nat) : List Word := s.facet.chans.get [] (n / 16 * 32 + i)

/-- An entry for channel `i` of the cluster of lane `n`; a full one is left as it is, with its OVERRUN flag. -/
def chanPush (n i : Nat) (v : Word) : State :=
  if 16 ≤ (s.chanOf n i).length then
    s.setFacet fun f => { f with chanOvr := f.chanOvr.set 0 (n / 16) (f.chanOvr.get 0 (n / 16) ||| 2 ^ i) }
  else s.setFacet fun f => { f with chans := f.chans.set [] (n / 16 * 32 + i) (s.chanOf n i ++ [v]) }

/-! ### Migration (R423–R426) -/

/-- Lane `g` may receive the task `t` (R424), the budget aside. -/
def eligible' (t : TaskSt) (src g : Nat) : Bool :=
  let x := s.laneF g
  g != src && x.role == 0 && !x.failed && s.facet.testing != some g && s.laneCplx g == s.laneCplx src && !s.laneOos g &&
    x.order.length < 15 && (s.laneTasks g).all fun u => u.dom == t.dom && !regionsMeet t u && !codeMeets t u

/-- MARGIN_PCT of lane `g`, a lane without tasks counting as 100 (R424). -/
def pctOf (g : Nat) : Nat := if (s.laneF g).order = [] then 100 else s.fld (Reg.facetStatus g) ⟨16, 8⟩

/-- The target for a task (R424): the eligible lane of highest MARGIN_PCT, the lowest number among equals. -/
def bestTarget (t : TaskSt) (src : Nat) : Option Nat :=
  (List.range 256).foldl (fun b g =>
    if s.eligible' t src g && s.budgetSum g + t.budget ≤ s.planFor g t.dom then
      match b with
      | some h => if s.pctOf h < s.pctOf g then some g else b
      | none => some g
    else b) none

/-- The task to move off lane `n` (R424): under reason 1 the smallest BUDGET not below the excess, else the largest. -/
def bestTask (n reason : Nat) : Option Nat :=
  let ts := (s.laneF n).order.filter fun k => match s.task? k with | some t => !t.pinned | none => false
  let bud (k : Nat) : Nat := match s.task? k with | some t => t.budget | none => 0
  let larger (b : Option Nat) (k : Nat) : Option Nat := match b with
    | some h => if bud h < bud k ∨ (bud h = bud k ∧ k < h) then some k else b
    | none => some k
  let smaller (b : Option Nat) (k : Nat) : Option Nat := match b with
    | some h => if bud k < bud h ∨ (bud k = bud h ∧ k < h) then some k else b
    | none => some k
  let excess := s.budgetSum n - s.planOf n
  if reason = 1 then
    match (ts.filter fun k => excess ≤ bud k).foldl smaller none with
    | some k => some k
    | none => ts.foldl larger none
  else ts.foldl larger none

/-- A migration starts (R425). -/
def migStart (tasks : List Nat) (src dst reason : Nat) : State :=
  let s := s.setFacet fun f => { f with mig := some { tasks := tasks, src := src, dst := dst, reason := reason } }
  ((s.laneShow src).laneShow dst).schedShow

/-- The migration ends without take-over (R425). -/
def migAbandon : State :=
  match s.facet.mig with
  | none => s
  | some m => (((s.setFacet fun f => { f with mig := none }).laneShow m.src).laneShow m.dst).schedShow

/-- A lane leaves service: a migration it takes part in is abandoned. -/
def laneLeaves (n : Nat) : State := if s.laneMigrating n then s.migAbandon else s

/-- Lane `n` is freed by rotation and self-tested (R432). -/
def testStart (n : Nat) : State :=
  ((s.setFacet fun f => { f with testing := some n }).laneShow n).schedShow

/-- A lane that rotation takes (R432): not of the other mode, AUDIO, without a pinned task, in service. -/
def rotatable (spare n : Nat) : Bool :=
  s.laneCplx n == s.laneCplx spare && (s.laneF n).role == 0 && !(s.laneTasks n).any (·.pinned) && !s.laneOos n && !(s.laneF n).failed

/-- The next lane for rotation, in ascending order from the last one. -/
def rotNext (spare : Nat) : Option Nat :=
  ((List.range 256).map fun i => (s.facet.rotLast + 1 + i) % 256).find? fun n => s.rotatable spare n

/-- The SPARE lane. -/
def spareLane : Nat := s.rdn Reg.schedStatus / 2 ^ 24

/-- A cause is taken up (R423, R424, R426, R432); causes are (reason, lane), for a MOVE (4, 256 × TASK_ID + TARGET). -/
def causeTry (reason arg : Nat) : State :=
  if reason = 4 then
    let k := arg / 256
    let g := arg % 256
    match s.task? k with
    | none => s
    | some t =>
      if !t.pinned && s.eligible' t t.lane g && s.budgetSum g + t.budget ≤ s.taskBudget t.dom then s.migStart [k] t.lane g 4
      else s.putBit Reg.schedStatus 3 true
  else if reason = 3 then
    match (if s.bit Reg.schedStatus 2 ∨ s.facet.testing.isSome then none else s.rotNext s.spareLane) with
    | none => s
    | some n =>
      let s := s.setFacet fun f => { f with rotLast := n }
      s.migStart (s.laneF n).order n s.spareLane 3
  else
    let valid := match reason with
      | 1 => s.bit Reg.schedCfg 5 && s.overPlan arg
      | 2 => s.bit Reg.schedCfg 5 && max 1 (s.rdn Reg.schedCtrl % 256) ≤ (s.laneF arg).lowRun
      | 5 => s.laneOos arg
      | _ => (s.laneF arg).failed
    if !valid then s
    else match s.bestTask arg reason with
      | none => if (s.laneF arg).order = [] then s else s.putBit Reg.schedStatus 1 true
      | some k => match s.task? k with
        | none => s
        | some t => match s.bestTarget t arg with
          | some g => s.migStart [k] arg g reason
          | none => s.putBit Reg.schedStatus 1 true

/-- Insert a cause in the order of R423; one that already waits is not entered again. -/
def causeIns (c : Nat × Nat) : List (Nat × Nat) → List (Nat × Nat)
  | [] => [c]
  | d :: ds => if d = c then d :: ds else if c.1 < d.1 then c :: d :: ds else d :: causeIns c ds

/-- Take up causes that wait, one migration at a time (R423). -/
def schedKick : Nat → State → State
  | 0, s => s
  | fuel + 1, s =>
    if s.facet.mig.isSome then s
    else match s.facet.causes with
      | [] => s
      | c :: cs => schedKick fuel ((s.setFacet fun f => { f with causes := cs }).causeTry c.1 c.2)

/-- A cause arises. -/
def cause (reason arg : Nat) : State :=
  let s := s.setFacet fun f => { f with causes := causeIns (reason, arg) f.causes }
  schedKick s.facet.causes.length s

/-- The copy ends (R425): descriptor, code and regions stand on the target. -/
def copyTask (src dst : Nat) (t : TaskSt) : State :=
  let s := s.setFacet fun f =>
    { f with prog := f.prog.setRun 0 (dst * 2048 + t.entry) (f.prog.getRun 0 (src * 2048 + t.entry) (t.codeLen + 2)),
             x := f.x.setRun 0 (dst * 8192 + t.xBase) (f.x.getRun 0 (src * 8192 + t.xBase) t.xLen),
             y := f.y.setRun 0 (dst * 8192 + t.yBase) (f.y.getRun 0 (src * 8192 + t.yBase) t.yLen) }
  s

/-- The target takes over (R425, R432): interrupt 50, SCHED_MIG_LAST and the time; a lane freed by rotation is then tested. -/
def takeOver : State :=
  match s.facet.mig with
  | none => s
  | some m =>
    let s := m.tasks.foldl (fun t k => t.setTask k fun x => { x with lane := m.dst }) s
    let s := s.setLaneF m.src fun x => { x with order := x.order.filter fun k => !m.tasks.contains k }
    let s := s.setLaneF m.dst fun x => { x with order := x.order ++ m.tasks, role := if m.reason = 3 then 0 else x.role }
    let s := s.setFacet fun f => { f with mig := none }
    let s := s.wrn Reg.schedMigLast (m.src * 2 ^ 24 + m.dst * 65536 + m.tasks.headD 0 * 16 + m.reason)
    let s := ((s.wr64 Reg.schedMigTimeLo (s.tick 0)).countSat Reg.schedMigCount).raiseIrq 50
    let s := if m.reason = 3 then s.testStart m.src else s
    let s := ((s.laneShow m.src).laneShow m.dst).schedShow
    schedKick s.facet.causes.length s

/-! ### Deadlines and margins (R416–R421) -/

/-- A task ends its SP without delivering (R419, R421). -/
def taskBreaks (k : Nat) : State := s.setTask k fun t => { t with out := none, broken := true }

/-- Raise interrupt 49 for lane `n` (R418). -/
def marginEvent (n : Nat) : State := (s.putBit (Reg.schedMarginEvt (n / 32)) (n % 32) true).raiseIrq 49

/-- Tasks of lane `n` that have not ended are stopped or skipped (R419): MISSES, fault 5; answers MARGIN. -/
def missTasks (n : Nat) : Int × State :=
  let x := s.laneF n
  let late := (match x.cur with | some k => [k] | none => []) ++ x.todo
  let left : Int := match late.head? with
    | none => 0
    | some k => match s.task? k with
      | none => -1
      | some t =>
        let used := if x.cur.isSome then x.ctx.cyc.toNat else 0
        if used < t.budget then -((t.budget - used : Nat) : Int) else -1
  let s := late.foldl (fun t k => t.taskBreaks k) s
  let s := match x.cur with
    | some k => s.setTask k fun t => { t with used := x.ctx.cyc.toNat, usedMax := max t.usedMax x.ctx.cyc.toNat }
    | none => s
  let s := s.setLaneF n fun y => { y with cur := none, todo := [], stalled := false }
  let s := (s.incSat (Reg.facetMisses n) ⟨0, 16⟩).raiseFault 5 n
  (left, s)

/-- The deadline of lane `n` (R416–R419, R423, R429). -/
def laneDeadline (n slack issue : Nat) : State :=
  let x := s.laneF n
  let missed := x.cur.isSome || !x.todo.isEmpty
  let s := x.order.foldl (fun t k => t.setTask k fun y => { y with broken := y.broken && y.out.isNone && missed }) s
  let (m, s) := if missed then s.missTasks n
    else (((if issue = 0 then slack * s.rdn (Reg.facetRate n) / 1000000000 else slack * x.bundles / issue : Nat) : Int), s)
  let pct := if missed then 0 else min 255 (s.windowPct (s.laneDom n) slack)
  let was := s.fld (Reg.facetStatus n) ⟨16, 8⟩
  let warn := s.rdn Reg.schedCtrl / 65536 % 256
  let low := s.rdn Reg.schedCtrl / 256 % 256
  let floor := s.rdn Reg.schedCfg / 256 % 256
  let s := s.wriSat (Reg.facetMargin n) m
  let s := s.wriSat (Reg.facetMarginMin n) (min (s.rdi (Reg.facetMarginMin n)) m)
  let s := s.put (Reg.facetStatus n) ⟨16, 8⟩ pct
  let s := if missed || (warn ≤ was && pct < warn) then s.marginEvent n else s
  let s := s.setLaneF n fun y =>
    { y with window := false, secBundles := y.secBundles + y.bundles, secPs := y.secPs + issue,
             lowRun := if pct < low then y.lowRun + 1 else 0, lendRun := if floor ≤ pct then y.lendRun + 1 else 0 }
  let s := s.setFacet fun f => { f with pctNow := min f.pctNow pct }
  let mig := max 1 (s.rdn Reg.schedCtrl % 256)
  if mig ≤ (s.laneF n).lowRun && s.bit Reg.schedCfg 5 then s.cause 2 n else s

/-- The words a task delivers (R412): its output window, with the flags of its input words ORed, or its own. -/
def taskWordsOut (t : TaskSt) : List Word :=
  let flags := if t.nIn = 0 then 1 else (t.ins.foldl (fun f i => f ||| flagsOf (s.slot i)) 0)
  (List.range t.nOut).map fun i =>
    let w := (s.memRd t.lane true (t.yBase + t.nIn + t.nOut + i)).toNat
    BitVec.ofNat 32 (w / 256 * 256 + (if t.ownFlags then w % 32 else flags))

/-- The words of a task's output slots at the boundary (R412, R419). -/
def taskLatch (k : Nat) : List (Nat × Word) × State :=
  match s.task? k with
  | none => ([], s)
  | some t =>
    let ws := match t.out with
      | some ws => ws
      | none => match t.last with
        | some ws => ws.map (· ||| 4)
        | none => List.replicate t.nOut 4
    let s := s.setTask k fun x => { x with out := none, last := match t.out with | some ws => some ws | none => x.last }
    ((t.outs.zip ws).filter fun e => s.ownerOf e.1 == .task (k / 16) (k % 16), s)

/-! ### Lending (R429, R430) -/

/-- Lane `n` may be lent to a job (R429). -/
def lendable (n : Nat) : Bool :=
  s.bit Reg.schedCfg 6 && s.laneLendable n && (s.laneF n).role == 0 && (s.laneF n).lent.isNone && !s.laneMigrating n &&
    s.rdn Reg.schedLendSp % 65536 ≤ (s.laneF n).lendRun

/-- Take lane `n` back: its job returns to PENDING (R249, R430). -/
def lendEnd (n : Nat) : State :=
  match (s.laneF n).lent with
  | none => s
  | some j => (((s.jobReclaim j).setLaneF n fun x => { x with lent := none, results := [], bg := {}, jobPos := 0 }).laneShow n).schedShow

/-- Lent lanes of domain `d` that a condition of R430 takes back at this boundary. -/
def lendBoundary (d : Nat) : State :=
  let floor := s.rdn Reg.schedCfg / 256 % 256
  (List.range 256).foldl (fun t n =>
    match (t.laneF n).lent with
    | none => t
    | some j =>
      if t.laneDom n = d ∧ ((t.fld (Reg.facetStatus n) ⟨16, 8⟩ < floor ∧ (t.laneF n).order ≠ []) ∨ t.laneMigrating n = true ∨
          t.facet.testing = some n ∨ t.jobState j ≠ 2) then t.lendEnd n else t) s

/-! ### A boundary of domain `d` at the lanes -/

/-- The lanes with tasks of domain `d`. -/
def lanesOf (d : Nat) : List Nat := (s.facet.lanes.map (·.1)).filter fun n => (s.laneF n).order != [] && s.laneDom n == d && (s.laneF n).role != 2

/-- Block resets of lanes of domain `d` take effect (R420). -/
def blkBoundary (d : Nat) : State :=
  let due := s.facet.blkRst.filter fun r => s.laneDom r.1 == d
  let s := s.setFacet fun f => { f with blkRst := f.blkRst.filter fun r => s.laneDom r.1 != d }
  due.foldl (fun t r => r.2.foldl (fun u k => match u.task? k with
    | some x => (u.zeroState x).taskBreaks k
    | none => u) t) s

/-- The lane that a window address of lane `n` reaches (R406): that which runs the home task in whose ranges it lies, else `n`. -/
def windowLane (n : Nat) (hit : TaskSt → Bool) : Nat :=
  match ((List.range 15).map fun k => s.task? (16 * n + k)).find? (fun t => match t with | some x => hit x | none => false) with
  | some (some x) => x.lane
  | _ => n

/-- The host writes that wait for lanes of domain `d` apply, in order (R407). -/
def pokeBoundary (d : Nat) : State :=
  (List.range 16).foldl (fun (t : State) (c : Nat) =>
    let ps := t.facet.pokes.get [] c
    let due (p : LanePoke) : Bool :=
      let g := t.windowLane p.lane fun x => State.inRegion x p.y p.addr
      t.laneDom g == d || (t.laneF g).order == []
    let now := ps.filter due
    let u := t.setFacet fun f => { f with pokes := f.pokes.set [] c (ps.filter fun p => !due p) }
    now.foldl (fun v p => v.memPut (v.windowLane p.lane fun x => State.inRegion x p.y p.addr) p.y p.addr p.value) u) s

/-- The SP opens on lane `n` (R410, R413): input windows filled, tasks in order. -/
def laneOpen (n : Nat) : State :=
  let ks := (s.laneF n).order
  let s := ks.foldl (fun t k => match t.task? k with
    | some x => memPutRun n false t x.xBase (x.ins.map t.slot)
    | none => t) s
  let run := ks.filter fun k => match s.task? k with | some x => !x.descErr | none => false
  s.setLaneF n fun x => { x with todo := run, cur := none, window := true, bundles := 0 }

/-- The words the tasks of domain `d` write at a boundary; tasks not ended by then have missed (R419). -/
def facetLatch (d : Nat) : List (Nat × Word) × State :=
  let ls := s.lanesOf d
  let s := ls.foldl (fun t n => let x := t.laneF n
    if x.window && (x.cur.isSome || !x.todo.isEmpty) then ((t.missTasks n).2.marginEvent n).setLaneF n fun y => { y with window := false } else t) s
  let s := s.blkBoundary d
  let ks := ls.flatMap fun n => (s.laneF n).order
  ks.foldl (fun r k => let q := r.2.taskLatch k; (r.1 ++ q.1, q.2)) ([], s)

/-- The lanes of domain `d` after the slots have been latched: take-over, lending, host writes, and the next SP (R407, R413, R425, R430). -/
def facetBoundary (d : Nat) : State :=
  let s := s.lendBoundary d
  let s := match s.facet.mig with
    | some m =>
      let dom := match m.tasks.head? with
        | some k => (match s.task? k with | some t => t.dom | none => d)
        | none => d
      if m.copied ∧ dom = d then s.takeOver else s
    | none => s
  let s := s.pokeBoundary d
  (s.lanesOf d).foldl (fun t n => t.laneOpen n) s

/-- RATE, plans and the causes evaluated each second (R417, R423), and the TICK interrupt source of every lane (R459). -/
def facetSecond : State :=
  let ns := s.facet.lanes.map (·.1)
  let s := s.setFacet fun f => { f with pctNow := 255, pctLast := f.pctNow, rotWait := f.rotWait + 1 }
  let s := ns.foldl (fun (t : State) (n : Nat) =>
    let x := t.laneF n
    let t := if x.secPs = 0 then t else t.wrnSat (Reg.facetRate n) (x.secBundles * 1000000000 / x.secPs)
    (t.setLaneF n fun y => { y with secBundles := 0, secPs := 0, tickPend := true }).laneShow n) s
  ns.foldl (fun (t : State) (n : Nat) =>
    let t := if t.laneOos n && (t.laneF n).order != [] then t.cause 5 n else t
    let t := if (t.laneF n).failed && (t.laneF n).order != [] then t.cause 6 n else t
    if (t.laneF n).role == 0 && t.overPlan n && t.bit Reg.schedCfg 5 then t.cause 1 n else t) s

/-! ### Applying a cluster (R409–R411, R434, R439) -/

/-- The memories of cluster `c` from its FACET_MEM section, 80 KiB a lane: program, X, Y (log entry 5). -/
def clusterMem (c : Nat) (bs : List Byte) : State :=
  let ws (o n : Nat) : List Word := (List.range n).map fun i => BitVec.ofNat 32 (leAt bs (o + 4 * i) 4)
  let lane (f : FacetSt) (i : Nat) : FacetSt :=
    let n := 16 * c + i
    let o := 81920 * i
    let bundles := (List.range 2048).map fun p => BitVec.ofNat 64 (leAt bs (o + 8 * p) 8)
    { f with prog := f.prog.setRun 0 (n * 2048) bundles, x := f.x.setRun 0 (n * 8192) (ws (o + 16384) 8192),
             y := f.y.setRun 0 (n * 8192) (ws (o + 49152) 8192) }
  s.setFacet fun f => (List.range 16).foldl lane f

/-- Lane `n` takes its role and tasks as its cluster is applied: lane registers 0, tasks built, their output slots taken, BUDGET_CAP set. -/
def laneApply (n : Nat) : State :=
  let role := s.param 0x30 n / 16 % 4
  let failed := (s.laneF n).failed
  let s := s.lendEnd n
  let old := (List.range 15).map fun k => 16 * n + k
  let s := old.foldl (fun t k => (t.releaseSlots (.task n (k % 16))).setFacet fun f => { f with tasks := f.tasks.set none k none }) s
  let ts := if role = 0 then s.buildTasks n else if role = 2 then (s.buildTasks n).take 1 else []
  let s := ts.foldl (fun t e => t.setFacet fun f => { f with tasks := f.tasks.set none e.1 (some e.2) }) s
  let s := ts.foldl (fun t e => e.2.outs.foldl (fun u i =>
    if u.slotIn e.2.dom i && u.ownerOf i == .none then u.takeSlots (.task n (e.1 % 16)) i 1 else u) t) s
  let s := s.setFacet fun f => { f with lanes := f.lanes.set {} n { role := role, failed := failed, order := ts.map (·.1) } }
  let s := s.put (Reg.facetCapacity n) ⟨16, 16⟩ (s.taskBudget (s.laneDom n))
  let s := if role = 1 then s.put Reg.schedStatus ⟨24, 8⟩ n else s
  let s := s.laneShow n
  if role = 2 then s.loopStart n else s

/-- Cluster `c` is applied (R55, R434): channels empty, migrations that touch it end, memories load, lanes take their tasks. -/
def clusterApply (c : Nat) (mem : Option (List Byte)) : State :=
  let s := match s.facet.mig with
    | some m => if m.src / 16 = c ∨ m.dst / 16 = c then s.migAbandon else s
    | none => s
  let s := s.setFacet fun f =>
    { f with chans := f.chans.filter fun e => e.1 / 32 != c, chanOvr := f.chanOvr.set 0 c 0, pokes := f.pokes.set [] c [],
             blkRst := f.blkRst.filter fun r => r.1 / 16 != c }
  let s := match mem with | some bs => s.clusterMem c bs | none => s
  (List.range 16).foldl (fun t i => t.laneApply (16 * c + i)) s

/-- A block reset of lane `n` for the tasks `ks` (R420, R431): at the next boundary, or at once for a GNSS_LOOP lane, which restarts. -/
def laneReset (n : Nat) (ks : List Nat) : State :=
  if (s.laneF n).role = 2 then
    match s.task? (16 * n) with
    | some t => (s.zeroState t).loopStart n
    | none => s
  else s.setFacet fun f => { f with blkRst := f.blkRst ++ [(n, ks)] }

/-- The tasks of lane `n` stopped, skipped or trapped in the faulting SP (R420). -/
def brokenTasks (n : Nat) : List Nat := (s.laneF n).order.filter fun k => match s.task? k with | some t => t.broken | none => false

end State

/-! ### The rows -/

/-- FACET_OOS_WRITE (R423, R425, R426). -/
def execFacetOosWrite (n : Fin 256) (oos : Bool) (s : State) : Res :=
  done (
    let was := s.laneOos n
    let s := s.putBit (Reg.facetCtrl n) 8 oos
    if oos then ((if was then s else s.laneLeaves n).laneShow n).cause 5 n else s.laneShow n)

/-- FACET_BLK_RST (R420): every task on the lane. -/
def execFacetBlkRst (n : Fin 256) (s : State) : Res := done (s.laneReset n (s.laneF n).order)

/-- FACET_MOVE (R426, R437): a selection without a task ignores it. -/
def execFacetMove (n : Fin 256) (task : Fin 16) (target : Fin 256) (s : State) : Res :=
  done (
    let s := (s.put (Reg.facetTaskSel n) ⟨0, 4⟩ task).put (Reg.facetTaskSel n) ⟨8, 8⟩ target
    if task.val < 15 && (s.task? (16 * n + task)).isSome then s.cause 4 ((16 * n + task) * 256 + target) else s)

/-- FACET_SWAP (R428): the other bank from the next start; ignored while one is pending. -/
def execFacetSwap (n : Fin 256) (task : Fin 16) (s : State) : Res :=
  done (
    let s := s.put (Reg.facetTaskSel n) ⟨0, 4⟩ task
    if task.val < 15 then s.setTask (16 * n + task) fun t => { t with swapPend := t.swapPend || t.banks } else s)

/-- FACET_MAIL_IN_WRITE (R433). -/
def execFacetMailInWrite (n : Fin 256) (value : Word) (s : State) : Res := done (s.mailInPush n value)

/-- FACET_MAIL_OUT_READ (R433): the oldest entry leaves and is shown; an empty mailbox shows the last with OUT_UNDERRUN. -/
def execFacetMailOutRead (n : Fin 256) (s : State) : Res :=
  done (match (s.laneF n).mailOut with
  | [] => (s.wr (Reg.facetMailOut n) (s.laneF n).mailLast).putBit (Reg.facetMailStatus n) 3 true
  | v :: vs => ((s.setLaneF n fun x => { x with mailOut := vs, mailLast := v }).wr (Reg.facetMailOut n) v).mailShow n)

/-- FACET_MAIL_STATUS_READ (R437): the flags clear. -/
def execFacetMailStatusRead (n : Fin 256) (s : State) : Res := done (s.put (Reg.facetMailStatus n) ⟨1, 3⟩ 0)

/-- FACET_MARGIN_MIN_READ (R416, R436): the minimum starts anew. -/
def execFacetMarginMinRead (n : Fin 256) (s : State) : Res := done (s.wr (Reg.facetMarginMin n) 0x7FFFFFFF)

/-- FACET_TASK_DATA_READ (R437): USED_MAX of the selected task starts anew. -/
def execFacetTaskDataRead (n : Fin 256) (s : State) : Res :=
  done (s.setTask (16 * n + s.rdn (Reg.facetTaskSel n) % 16) fun t => { t with usedMax := 0 })

/-- FACET_MEM_WRITE (R406, R407): program memory by whole bundles, outside every task's code; X and Y buffered on a lane that runs
period tasks, at once on others.  A write that PCIe flow control holds while 256 words wait arrives when it no longer does (log entry 59). -/
def execFacetMemWrite (n : Fin 256) (off : BitVec 17) (value : Word) (s : State) : Res :=
  done (
    let o := off.toNat / 4 * 4
    if o < 0x4000 then
      let p := o / 8
      let g := s.windowLane n fun x => State.inCode x p
      if (s.laneTasks g).any (fun t => State.inCode t p) then s.violation 8 .pcie true true (0x2000000 + 0x20000 * n + o)
      else if o % 8 = 0 then s.setFacet fun f => { f with progLow := f.progLow.set 0 n value }
      else s.setFacet fun f => { f with prog := f.prog.set 0 (g * 2048 + p) (value ++ f.progLow.get 0 n) }
    else if 0x8000 ≤ o ∧ o < 0x18000 then
      let y := decide (0x10000 ≤ o)
      let a := (if y then o - 0x10000 else o - 0x8000) / 4
      let g := s.windowLane n fun x => State.inRegion x y a
      if (s.laneF g).order = [] ∨ (s.laneF g).role = 2 then s.memPut g y a value
      else s.setFacet fun f => { f with pokes := f.pokes.set [] (n / 16) (f.pokes.get [] (n / 16) ++ [⟨n, y, a, value⟩]) }
    else s)

/-- FACET_TASK_START (R413): its predecessor has ended and its input window is full. -/
def execFacetTaskStart (n : Fin 256) (s : State) : Res :=
  done (match (s.laneF n).todo with
  | [] => s
  | t :: ts => if (s.laneF n).window && (s.laneF n).cur.isNone then s.taskStart n t ts else s)

/-- FACET_DEADLINE (R416–R419). -/
def execFacetDeadline (n : Fin 256) (slack issue : Nat) (s : State) : Res :=
  done (if (s.laneF n).window then s.laneDeadline n slack issue else s)

/-- MIGRATION_COPY_DONE (R425). -/
def execMigrationCopyDone (s : State) : Res :=
  done (match s.facet.mig with
  | none => s
  | some m =>
    if m.copied then s
    else
      let s := m.tasks.foldl (fun t k => match t.task? k with | some x => t.copyTask m.src m.dst x | none => t) s
      let s := s.setFacet fun f => { f with mig := some { m with copied := true } }
      -- a lane without tasks has no boundary to wait for
      if m.tasks = [] then s.takeOver else s)

/-- FACET_ROTATION (R432): a cause of reason 3 once SELFTEST_S seconds have begun since the last; none while SELFTEST_S is 0 or rotation is stopped. -/
def execFacetRotation (s : State) : Res :=
  done (
    let secs := s.rdn Reg.schedCfg / 65536
    if secs = 0 ∨ s.facet.rotWait < secs ∨ s.bit Reg.schedStatus 2 = true ∨ s.facet.testing.isSome = true then s
    else (s.setFacet fun f => { f with rotWait := 0 }).cause 3 0)

/-- FACET_SELFTEST_DONE (R432): the lane's memories are zero; it becomes the spare, or FAILED with fault 7. -/
def execFacetSelftestDone (pass : Bool) (s : State) : Res :=
  done (match s.facet.testing with
  | none => s
  | some n =>
    let s := s.setFacet fun f =>
      { f with testing := none, prog := f.prog.drop fun k => k / 2048 == n, x := f.x.drop fun k => k / 8192 == n, y := f.y.drop fun k => k / 8192 == n }
    let s := if pass then
        ((s.setLaneF n fun x => { x with role := 1 }).put Reg.schedStatus ⟨24, 8⟩ n).put Reg.schedSt ⟨0, 16⟩ (s.rdn Reg.schedSt % 65536 + 1)
      else
        let s := (s.setLaneF n fun x => { x with failed := true }).put Reg.schedSt ⟨24, 8⟩ n
        (s.putBit Reg.schedStatus 2 true).raiseFault 7 n
    let s := (s.laneShow n).schedShow
    if pass then State.schedKick s.facet.causes.length s else s.cause 6 n)

/-- GNSS_JOB_DISPATCH (R249, R429): the lowest PENDING job goes to the lane, which runs the routine in its background registers. -/
def execGnssJobDispatch (lane : Fin 256) (s : State) : Res :=
  done (match s.nextJob with
  | none => s
  | some j =>
    if !s.lendable lane then s
    else
      let c : Ctx := { pc := s.rdn Reg.gnssAcqEntry % 2048 }
      let t : TaskSt := { dom := 0, entry := 0, budget := 0, codeLen := 0, pinned := false, banks := false, xBase := 0, xLen := 0, yBase := 0, yLen := 0, nIn := 0, nOut := 0, bankLen := 0, ownFlags := false, descErr := false, ins := [], outs := [], lane := lane }
      let (b, s) := s.startCtx t c
      let s := s.setLaneF lane fun x => { x with lent := some j, bg := { b with pc := c.pc, a := List.replicate 4 0 }, jobPos := 0, capAddr := 0, results := [] }
      (((s.jobPut j 2 lane).laneShow lane).schedShow))

end Sys2Proof.Machine
end

