-- ==== Sys2Proof/Machine/Age.lean ====
section
/-!
DEFINITION. The ageing manager: the core-voltage code, the voltage monitor, the sentinels and their wear models, the budget
caps and the health forecast, and the temperature thresholds (R565–R574).
-/

namespace Sys2Proof.Machine

open Host (Outcome)

namespace State

variable (s : State)

/-- Change the ageing manager. -/
def setAge (f : AgeSt → AgeSt) : State := { s with age := f s.age }

/-- The code on VID_5..0 (R565). -/
def vidCode : Nat := s.rdn Reg.vidStatus % 64

/-- VID_STATUS.FLOOR (R565). -/
def vidLow : Nat := s.rdn Reg.vidStatus / 65536 % 64

/-- The code changes (R566, R567): interrupt 58, and the monitor waits for the supply to settle. -/
def vidTo (c : Nat) : State :=
  if s.vidCode = c then s
  else ((s.put Reg.vidStatus ⟨0, 6⟩ c).setAge fun a => { a with vidEdge := some s.edges }).raiseIrq 58

/-- With AGE_CTRL.MANUAL set, once a structure is built, the code is MANUAL_CODE from FLOOR to 28 (R566). -/
def vidManual : State :=
  if s.loader.built && s.bit Reg.ageCtrl 0 then s.vidTo (max s.vidLow (min 28 (s.rdn Reg.vidCtrl % 64))) else s

/-- R_corner of cluster `c`, bundles/s. -/
def cornerRate (c : Nat) : Nat := s.age.corner.get 0 c

/-- Take over R_corner of the clusters. -/
def setCorner (l : List Word) : State := if l = [] then s else s.setAge fun a => { a with corner := SMap.ofList 0 0 (l.map (·.toNat)) }

/-- R_TGT in 10^-6 bundles/s (R566). -/
def rateTarget : Nat := 1100000000 * (1000000 + s.rdn Reg.ageCtrl / 65536)

/-- One second of automatic regulation for the lowest R_corner `r` (R566). -/
def vidStep (r : Nat) : State :=
  let tgt := s.rateTarget
  let high := decide (tgt * (1000 + s.rdn Reg.ageCtrl / 256 % 256) < r * 1000000 * 1000)
  if r * 1000000 < tgt then
    let t := s.setAge fun a => { a with aboveSecs := 0 }
    if s.vidCode < 28 then t.vidTo (s.vidCode + 1) else t.raiseFault 35 0xFF
  else if high then
    if 3600 ≤ s.age.aboveSecs + 1 ∧ s.vidLow < s.vidCode then (s.setAge fun a => { a with aboveSecs := 0 }).vidTo (s.vidCode - 1)
    else s.setAge fun a => { a with aboveSecs := min 3600 (a.aboveSecs + 1) }
  else s.setAge fun a => { a with aboveSecs := 0 }

/-! ### Sentinels (R568–R570) -/

/-- Change sentinel `k`. -/
def setSentinel (k : Nat) (f : Sentinel → Sentinel) : State :=
  s.setAge fun a => { a with sent := a.sent.set { fitA := s.otp.fitA, fitN := s.otp.fitN } k (f (s.sentinel k)) }

/-- The slowdown of a sentinel in ppm from its counts, rounded down; none where it is negative or a count is 0, for which R568 states no value. -/
def slowdown (ref stress k : Nat) : Option Nat :=
  let d := k * stress
  if d = 0 ∨ ref * 65536 < d then none else some ((ref * 65536 - d) * 1000000 / d)

/-- Sentinel `k` is measured after `hours` powered hours (R568, R570). -/
def measure (k hours : Nat) (m : Word × Word) : State :=
  let (v, t) : Nat × State := match slowdown m.1.toNat m.2.toNat (s.otp.ringRatio.getD k 65536) with
    | some v => (min v 0xFFFFFFFF, s)
    | none => let f := s.fresh 32; (f.1.toNat, f.2)
  (t.wrn (Reg.ageSent k) v).setSentinel k fun x =>
    { x with slow := v, samples := if 24 ≤ hours then x.samples ++ [(hours, v)] else x.samples }

/-- Fit sentinel `k` (R570): its own model once it has 720 h of samples, the factory signature until then. -/
def fitSentinel (k : Nat) : State :=
  s.setSentinel k fun x =>
    let days := min 65535 (x.days + 1)
    if 720 ≤ 24 * days then
      let f := Config.wearFit x.samples
      { x with days := days, fitA := f.1, fitN := max 3277 (min 32768 f.2) }
    else { x with days := days, fitA := s.otp.fitA, fitN := s.otp.fitN }

/-! ### Re-planning and health (R571, R572) -/

/-- The end-of-life slowdown of cluster `c`'s sentinel, or its slowdown at another age, ppm. -/
def wearOf (c hours : Nat) : Nat := Config.wearAt (s.sentinel c).fitA (s.sentinel c).fitN hours

/-- The rate of cluster `c` at the highest code and at the wear of `hours`, bundles/s as a fraction (R571), with the
factory rate gain in ppm per code. -/
def rateAt (c hours : Nat) : Nat × Nat :=
  (s.cornerRate c * (1000000 + s.otp.rateGain.getD c 0 * (28 - s.vidCode)) * (1000000 + (s.sentinel c).slow), 1000000 * (1000000 + s.wearOf c hours))

/-- R_eol of cluster `c` (R571). -/
def eolRate (c : Nat) : Nat × Nat := s.rateAt c 219000

/-- The lane ratio ρ of lane `n`, 16 fraction bits (R571). -/
def laneRatio (n : Nat) : Nat := s.age.ratio.get 65536 n

/-- BUDGET_CAP of lane `n` from its cluster's R_eol (R571); with no domain to take W from it is free. -/
def capOfLane (n : Nat) (e : Nat × Nat) : Nat × State :=
  let d := s.laneDom n
  if s.domUsed d then
    let (num, den) := s.rateQ d
    (min 32767 (s.laneRatio n * e.1 * (1000000000 * den - 740 * num) / (65536 * e.2 * 1000000000 * num)), s)
  else let f := s.fresh 15; (f.1.toNat, f.2)

/-- Write BUDGET_CAP of lane `n`; below the guaranteed task budget it raises fault 35 (R571). -/
def laneCap (n : Nat) (e : Nat × Nat) : State :=
  let (cap, t) := s.capOfLane n e
  let t := (t.put (Reg.facetCapacity n) ⟨16, 16⟩ cap).laneShow n
  t.raiseFaultIf (s.domUsed (s.laneDom n) && decide (cap < s.taskBudget (s.laneDom n))) 35 n

/-- A fraction is less than another. -/
def fracLt (a b : Nat × Nat) : Bool := decide (a.1 * b.2 < b.1 * a.2)

/-- The cluster of lowest R_eol, the lowest number between equals (R572). -/
def worstCluster : Nat := (List.range 16).foldl (fun (b c : Nat) => if fracLt (s.eolRate c) (s.eolRate b) then c else b) 0

/-- Every lane still reaches 1.10 × 10^9 bundles/s after `hours` (R572). -/
def reaches (hours : Nat) : Bool :=
  (List.range 256).all fun n =>
    let r := s.rateAt (n / 16) hours
    decide (1100000000 * r.2 * 65536 ≤ s.laneRatio n * r.1)

/-- AGE_HEALTH, AGE_FIT_A and AGE_FIT_N after a fit (R572). -/
def healthShow : State :=
  let w := s.worstCluster
  let e := s.eolRate w
  let life := min 255 (((List.range 257).takeWhile fun y => s.reaches (s.rdn Reg.ageHours + 8760 * y)).length - 1)
  let m := min 255 (1000 * e.1 / (1100000000 * e.2) - 1000)
  (((s.wrn Reg.ageHealth (life * 2 ^ 24 + w * 65536 + m)).wrn Reg.ageFitA (s.sentinel w).fitA).wrn Reg.ageFitN ((s.sentinel w).fitN % 65536)).raiseIrq 58

/-! ### Temperature (R574) -/

/-- A reading as a signed number, 1/256 °C. -/
def tjOf (v : BitVec 16) : Int := v.toInt

/-- The warning threshold: rising above WARN, falling below WARN − HYST (R574). -/
def thermWarn (tj : Int) : State :=
  let warn : Int := (s.rdn Reg.thermCfg % 256 : Nat) * 256
  let hyst : Int := (s.rdn Reg.thermCfg / 65536 % 256 : Nat) * 256
  if warn < tj ∧ s.bit Reg.thermStatus 0 = false then
    (((s.putBit Reg.thermStatus 0 true).putBit Reg.thermStatus 1 true).raiseIrq 59).raiseHeld 32 0
  else if tj < warn - hyst ∧ s.bit Reg.thermStatus 0 = true then ((s.putBit Reg.thermStatus 0 false).raiseIrq 59).dropLevel 32
  else s

/-- The critical threshold: above 120 °C in two consecutive milliseconds (R574). -/
def thermCrit (tj : Int) : State :=
  if 120 * 256 < tj then
    let t := s.setAge fun a => { a with hotMs := min 2 (a.hotMs + 1) }
    if 2 ≤ t.age.hotMs then t.raiseHeld 33 0 else t
  else (s.setAge fun a => { a with hotMs := 0 }).dropLevel 33

end State

/-! ### The rows -/

/-- VID_ADJUST (R566), once in each elapsed GRID second: nothing before a structure is built; the manual code, or one second of regulation. -/
def execVidAdjust (corner : List Word) (s : State) : Res :=
  let now := s.edges / State.gridUs 1000000
  done (if !s.loader.built || s.age.vidAt == some now then s
  else
    let t := (s.setCorner corner).setAge fun a => { a with vidAt := some now }
    if t.bit Reg.ageCtrl 0 then t.vidManual
    else match corner with
      | [] => t
      | r :: rs => t.vidStep (rs.foldl (fun a b => min a b.toNat) r.toNat))

/-- VMON_SAMPLE (R567), once per millisecond: the measurement, and fault 34 while it is out of tolerance; the first millisecond after a change of code
does not count against the request. -/
def execVmonSample (mv : BitVec 16) (s : State) : Res :=
  let now := s.edges / State.gridUs 1000
  let settled := match s.age.vidEdge with | some e => decide (e + State.gridUs 1000 ≤ s.edges) | none => true
  let req : Int := 2800 + 25 * (s.vidCode : Int)
  let off := decide (100 < (4 * (mv.toNat : Int) - req).natAbs) && settled
  let bad := off || decide (mv.toNat < 680) || decide (900 < mv.toNat)
  done (if s.age.vmonAt == some now then s
  else
    let t := (s.wrn Reg.vmon mv.toNat).setAge fun a => { a with vmonAt := some now }
    if bad then t.raiseHeld 34 0 else t.dropLevel 34)

/-- SENTINEL_MEASURE (R568, R569, R573), once in each powered hour: every sentinel is measured, and the record of powered hours goes on. -/
def execSentinelMeasure (rings : List (Word × Word)) (corner : List Word) (tj : BitVec 16) (s : State) : Res :=
  let now := s.edges / State.gridUs 3600000000
  let h := s.rdn Reg.ageHours + 1
  done (if s.age.hourAt == some now then s
  else
    let t := (s.wrnSat Reg.ageHours h).setCorner corner
    let t := t.setAge fun a => { a with
      hotHours := a.hotHours + (if 95 * 256 ≤ State.tjOf tj then 1 else 0), tjMean := a.tjMean + fdiv (State.tjOf tj - a.tjMean) h,
      hourAt := some now, sinceFit := a.sinceFit + 1 }
    ((List.range 20).zip rings).foldl (fun (u : State) (e : Nat × Word × Word) => u.measure e.1 h e.2) t)

/-- AGEING_FIT (R570–R572), once in 24 powered hours: the models are fitted, every lane's BUDGET_CAP follows, and AGE_HEALTH is updated with
interrupt 58. -/
def execAgeingFit (ratios : List (Fin 256 × BitVec 32)) (s : State) : Res :=
  done (if s.age.sinceFit < 24 then s
  else
    let t := s.setAge fun a => { a with
      sinceFit := 0, ratio := ratios.foldl (fun (m : SMap Nat) (e : Fin 256 × BitVec 32) => m.set 65536 e.1 e.2.toNat) a.ratio }
    let t := (List.range 20).foldl (fun (u : State) (k : Nat) => u.fitSentinel k) t
    let t := (List.range 16).foldl (fun (u : State) (c : Nat) => u.wrnSat (Reg.ageEol c) ((u.eolRate c).1 / (u.eolRate c).2 / 1000)) t
    let t := (List.range 256).foldl (fun (u : State) (n : Nat) => u.laneCap n (u.eolRate (n / 16))) t
    t.healthShow)

/-- TJ_SAMPLE (R574), once per millisecond. -/
def execTjSample (hot : Fin 20) (tj : BitVec 16) (s : State) : Res :=
  let now := s.edges / State.gridUs 1000
  done (if s.age.tjAt == some now then s
  else
    let t := (s.wrn Reg.ageTj (hot.val * 65536 + tj.toNat)).setAge fun a => { a with tjAt := some now }
    (t.thermWarn (State.tjOf tj)).thermCrit (State.tjOf tj))

end Sys2Proof.Machine
end

