-- ==== Sys2Proof/Machine/Loupe.lean ====
section
/-!
DEFINITION. The Loupe (R175–R198): sources and slopes, stamps and values, statistics, calibrations, gates, guests and the result FIFO.
-/

namespace Sys2Proof.Machine

namespace State

variable (s : State)

/-- Loupe channel `n`. -/
def lch (n : Nat) : LoupeCh := s.loupe.ch.get {} n

/-- Change Loupe channel `n`. -/
def setLch (n : Nat) (f : LoupeCh → LoupeCh) : State :=
  { s with loupe := { s.loupe with ch := s.loupe.ch.set {} n (f (s.loupe.ch.get {} n)) } }

/-- Output `n` beyond its registers. -/
def outE (n : Nat) : OutSt := s.synth.out.get {} n

/-- Change output `n`. -/
def setOut (n : Nat) (f : OutSt → OutSt) : State :=
  { s with synth := { s.synth with out := s.synth.out.set {} n (f (s.synth.out.get {} n)) } }

/-- INPUT mode is in force (R165, R174). -/
def inputMode (n : Nat) : Bool := s.bit (Reg.outAlign n) 0 && decide (s.fld (Reg.outAlign n) Fld.outAlign_INPUT < 12)

/-- A stamp of channel `c` at `x` ps of GRID time is delivered to every aligner that names the channel in INPUT mode (R183). -/
def feedAligners (c : Nat) (x : Int) : State :=
  (List.range 12).foldl (fun (t : State) (n : Nat) =>
    if t.bit (Reg.outCtrl n) 0 && t.inputMode n && t.fld (Reg.outAlign n) Fld.outAlign_INPUT == c then t.setOut n fun o => { o with fed := o.fed ++ [x] }
    else t) s

/-- GRID runs on the bypass clock (R156, R184). -/
def gridBypass : Bool := s.on (Reg.synStatus 0) Fld.synStatus_BYPASS

/-- The mode in force: REF while reference `n` is enabled; 4–7 act as 0 (R176, R185). -/
def loupeMode (n : Nat) : Nat :=
  if s.refState n != 5 then 1
  else
    let m := s.fld (Reg.loupeCfg n) Fld.loupeCfg_MODE
    if 3 < m then 0 else m

/-- The source in force of channel `n` (R175, R176): fixed in REF mode, the own ball or the LINE event; otherwise SRC, of which 22–31 act as 0. -/
def loupeSrc (n : Nat) : Nat :=
  if s.loupeMode n = 1 then (if n < 8 then 0 else n - 7)
  else
    let c := s.fld (Reg.loupeCfg n) Fld.loupeCfg_SRC
    if 21 < c then 0 else c

/-- A rising or falling edge marks an event of channel `n` (R178): EDGE of the reference, the rising edge of a LINE event, or SLOPE, of which
3 acts as 0. -/
def loupeSlope (n : Nat) (falling : Bool) : Bool :=
  if s.loupeMode n = 1 then falling == (decide (n < 8) && s.bit (Reg.refCtrl n) 1)
  else
    match s.fld (Reg.loupeCfg n) Fld.loupeCfg_SLOPE with
    | 1 => falling
    | 2 => true
    | _ => !falling

/-- The divider of channel `n`: of the monitor in REF mode (R73), otherwise PRESCALE + 1 (R196). -/
def loupeDiv (n : Nat) : Nat :=
  if s.loupeMode n = 1 then (if 4 ≤ n then s.monitorDiv n else 1) else s.rdn (Reg.loupePrescale n) % 65536 + 1

/-- The gate state of channel `n` (R187). -/
def gateState (n : Nat) : Nat := s.fld (Reg.loupeStatus n) Fld.loupeStatus_STATE

/-- Put the gate of channel `n` in a state. -/
def setGate (n st : Nat) : State := s.put (Reg.loupeStatus n) Fld.loupeStatus_STATE st

/-- NOM in ps (R188). -/
def nomPs (n : Nat) : Int := s.rd64i (Reg.loupeNomLo n)

/-! ### Instants -/

/-- The time from an edge to the next GRID edge in ps, as channel `n` converts an interpolator code with the gain (fs per code) and the offset
(1/16 ps) of its last calibration (R180; log entry 53). -/
def edgePs (n : Nat) (code : BitVec 16) : Int :=
  rdiv ((s.rdn (Reg.loupeCalGain n) * code.toNat : Nat) : Int) 1000 + rdiv ((s.lch n).offset.getD 0) 16

/-- The value of time base `b` at the next GRID edge, in ps. -/
def nextEdgePs (b : Nat) : Int := (((s.tb b).t + s.followAdvance b s.edgeAdvance) * 1000 / 2 ^ 48 : Nat)

/-- The stamp of an edge in ps of time base `b`: the GRID count and the interpolated fraction (R180, R192). -/
def stampPs (n b : Nat) (code : BitVec 16) : Int := s.nextEdgePs b - s.edgePs n code

/-- The stamp in ticks, rounded to the nearest (R192). -/
def stampTicks (n b : Nat) (code : BitVec 16) : Int := rdiv (s.stampPs n b code * 65536) 1000

/-- The instant of an edge in ps of GRID time. -/
def edgeAt (n : Nat) (code : BitVec 16) : Int := (s.edges + 1 : Nat) * 1600 - s.edgePs n code

end State

/-- A stamp's signed distance from the nearest instant of the grid of second boundaries plus multiples of `nom` (R188). -/
def phaseValue (ps nom : Int) : Int :=
  let g := if nom ≤ 0 then 1000000000000 else nom
  let p := ps % 1000000000000
  let r := p % g
  let next := min (p - r + g) 1000000000000
  if r ≤ next - p then r else p - next

/-- Add a value to the running statistics (R189). -/
def Stats.add (x : Stats) (v : Int) : Stats :=
  { n := x.n + 1, sum := x.sum + v, sq := x.sq + v * v,
    lo := if x.n = 0 then v else min x.lo v, hi := if x.n = 0 then v else max x.hi v }

/-- The sample standard deviation in 1/16 ps (R189). -/
def Stats.sdev (x : Stats) : Nat :=
  if x.n ≤ 1 then 0 else isqrt ((256 * (x.n * x.sq - x.sum * x.sum)).toNat / (x.n * (x.n - 1)))

/-- The channel starts a new block of values. -/
def LoupeCh.newBlock (c : LoupeCh) : LoupeCh := { c with stats := {}, taken := 0, first := true }

/-- The channel starts a calibration at GRID edge `e`: no stamp until it passes (R180, R181). -/
def LoupeCh.calibrating (c : LoupeCh) (e : Nat) : LoupeCh := { c with calFrom := some e, calOk := false }

/-- The last event was not stamped: nothing is predicted until two in a row are (R186). -/
def LoupeCh.missed (c : LoupeCh) : LoupeCh := { c with follows := false, period := none }

/-- An event has been stamped at `x` ps: after two in a row the last period predicts the next; an event further than 1/1,000 of the period from its
prediction ends that (R186). -/
def LoupeCh.stampedAt (c : LoupeCh) (x : Int) : LoupeCh :=
  let p : Option Int := match c.follows, c.lastAt, c.period with
    | true, some y, none => some (x - y)
    | true, some y, some q => if decide (1000 * (x - y - q).natAbs ≤ q.natAbs) then some (x - y) else none
    | _, _, _ => none
  { c with period := p, follows := true }

namespace State

variable (s : State)

/-- The value of a stamp of channel `n`, if it has one (R188). -/
def stampValue (n : Nat) (ps : Int) : Option Int :=
  match s.fld (Reg.loupeCfg n) Fld.loupeCfg_KIND with
  | 1 => if (s.lch n).first then none else (s.lch n).last.map fun l => ps - l - s.nomPs n
  | 2 =>
    let p := s.fld (Reg.loupeCfg n) Fld.loupeCfg_PAIR
    if 12 ≤ p then none else (s.lch p).last.map fun l => ps - l - s.nomPs n
  | _ => some (phaseValue ps (s.nomPs n))

/-- Latch the statistics of channel `n` (R189). -/
def latchStats (n : Nat) : State :=
  let x := (s.lch n).stats
  ((((s.wrnSat (Reg.loupeN n) x.n).wr64i (Reg.loupeMeanLo n) (rdiv (x.sum * 65536) x.n)).wrnSat (Reg.loupeSdev n) x.sdev).wriSat
    (Reg.loupeMin n) x.lo).wriSat (Reg.loupeMax n) x.hi

/-- Enter DONE with an END code (R187). -/
def gateDone (n code : Nat) : State :=
  (((s.put (Reg.loupeStatus n) Fld.loupeStatus_END code).setGate n 4).putBit Reg.loupeDone n true).raiseIrq 12

/-- Close the gate, latch and end with a code (R187). -/
def gateEnd (n code : Nat) : State := (s.latchStats n).gateDone n code

/-- Show the FIFO's fill. -/
def loupeFill : State := s.put Reg.loupeStatusOf ⟨0, 14⟩ s.loupe.fifo.entries.length

/-- Copy an entry to the LOUPE FIFO (R183, R192): lost when the write port is busy or the FIFO full. -/
def loupeCopy (e : List Word) (busy : Bool) : State :=
  let q := s.loupe.fifo
  if busy then { s with loupe := { s.loupe with fifo := { q with seq := (q.seq + 1) % 65536, ovr := true, lost := min (q.lost + 1) 65535 } } }
  else
    let r := Fifo.push 8192 q e
    let s1 := ({ s with loupe := { s.loupe with fifo := r.1 } }).loupeFill
    if r.2 then s1.raiseFault 40 2
    else s1.raiseIrqIf (Fifo.crosses (s.rdn Reg.loupeCtrl % 16384) q.entries.length r.1.entries.length) 13

/-- Word 0 of a LOUPE entry without SEQ (R192). -/
def loupeWord0 (n : Nat) (falling guest first ovr : Bool) : Word :=
  BitVec.ofNat 32 (n * 4096 + falling.toNat * 2048 + guest.toNat * 1024 + first.toNat * 512 + ovr.toNat * 256)

/-- Values saturate at ±2,147,483,647 ps (R188). -/
def satPs (v : Int) : Int := max (-2147483647) (min 2147483647 v)

/-- A value outside ±2,147,483,647 ps (R188). -/
def overrange (v : Option Int) : Bool := v.any fun x => decide (2147483647 < x.natAbs)

/-- A tick time as the two words of an entry. -/
def tickWords (t : Int) : List Word := [BitVec.ofInt 32 t, BitVec.ofInt 32 (t / 2 ^ 32)]

/-- The FIFO copy of a stamp in ticks; a stamp without a value has a free one (log entry 1). -/
def stampCopy (n : Nat) (ticks : Int) (falling busy first : Bool) (v : Option Int) : State :=
  if s.on (Reg.loupeCfg n) Fld.loupeCfg_FIFO then
    let f := s.fresh 32
    let w : Word := match v with | some x => BitVec.ofInt 32 (satPs x) | none => f.1
    (if v.isNone then f.2 else s).loupeCopy (loupeWord0 n falling false first (overrange v) :: w :: tickWords ticks) busy
  else s

/-- A stamped edge of PPSIN_n enters its capture FIFO with its TB_0 tick time (R556). -/
def ppsCapture (n : Nat) (tb0 : Int) (falling : Bool) : State :=
  if n < 4 && s.bit (Reg.ppsCtrl n) 7 && s.loupeSrc n == 0 then
    let q := s.intc.pps.get {} n
    let r := Fifo.push 64 q (BitVec.ofNat 32 (falling.toNat * 2048) :: tickWords tb0)
    let s1 := ({ s with intc := { s.intc with pps := s.intc.pps.set {} n r.1 } }).put (Reg.ppsStatus n) ⟨0, 7⟩ r.1.entries.length
    if r.2 then (s1.put (Reg.ppsStatus n) ⟨16, 16⟩ r.1.lost).raiseFault 40 (n * 256 + 3)
    else s1.raiseIrqIf (Fifo.crosses (s.rdn (Reg.ppsCtrl n) % 128) q.entries.length r.1.entries.length) 10
  else s

/-- The monitor of reference `n` has an event to take, at TB_0 tick time `at_` if the channel stamped it (R73, R184). -/
def monitorSees (n : Nat) (at_ : Option Int) : State :=
  if s.monitored n then s.setRef n fun r => { r with evts := r.evts + 1, evt := some (at_, r.evts + 1) } else s

/-- Take a stamp on channel `n` (R183, R188, R189). -/
def takeStamp (n : Nat) (code : BitVec 16) (falling busy : Bool) : State :=
  let tb := s.fld (Reg.loupeCfg n) Fld.loupeCfg_TB
  let p := s.stampPs n tb code
  let v := if s.loupeMode n == 1 then none else s.stampValue n p
  let first := (s.lch n).first
  let s1 := s.setLch n fun c =>
    { c.stampedAt (s.edgeAt n code) with
      last := some p, lastAt := some (s.edgeAt n code), first := false, taken := c.taken + 1, count := c.count + 1,
      stats := match v with | some x => if overrange v then c.stats else c.stats.add x | none => c.stats }
  let s2 := if overrange v then s1.addSat (Reg.loupeCounters n) ⟨16, 16⟩ 1 else s1
  let s3 := ((s2.feedAligners n (s.edgeAt n code)).stampCopy n (s.stampTicks n tb code) falling busy first v).ppsCapture n (s.stampTicks n 0 code) falling
  let cnt := s.rdn (Reg.loupeCount n) % 65536
  if s.loupeMode n == 2 && cnt != 0 && decide (cnt ≤ (s3.lch n).taken) then s3.gateEnd n 0 else s3

/-- Channel `n` captures: its gate is open and GRID runs on its synthesiser (R184, R185). -/
def loupeCaptures (n : Nat) : Bool :=
  !s.gridBypass && (match s.loupeMode n with | 1 => true | 2 => s.gateState n == 3 | 3 => true | _ => false)

/-- An edge of source `src` and this slope is an event source of channel `n` (R175, R178, R264): a LINE event exists while its port is UP. -/
def loupeSees (n src : Nat) (falling : Bool) : Bool :=
  s.loupeSrc n == src && s.loupeSlope n falling && (decide (src = 0) || decide (4 < src) || s.lineUp (src - 1))

/-- An event that is not stamped: MISSED counts it (R182, R185), and in REF mode the monitor sees activity alone (R184). -/
def missStamp (n : Nat) (count : Bool) : State :=
  let t := if count then s.addSat (Reg.loupeCounters n) ⟨0, 16⟩ 1 else s
  let t := t.setLch n LoupeCh.missed
  if s.loupeMode n = 1 then t.monitorSees n none else t

/-- An event of channel `n` (R180–R184): stamped, or missed in a calibration or in the dead time, or not stamped at all. -/
def loupeEvent (n : Nat) (code : BitVec 16) (falling busy : Bool) : State :=
  let c := s.lch n
  let dead : Bool := c.lastAt.any fun l => decide (s.edgeAt n code - l < 2500)
  if !s.loupeCaptures n then s.missStamp n false
  else if c.calFrom.isSome || (c.calOk && dead) then s.missStamp n true
  else if !c.calOk then s.missStamp n false
  else
    let t := s.takeStamp n code falling busy
    if s.loupeMode n = 1 then t.monitorSees n (some (s.stampTicks n 0 code)) else t

end State

/-- LOUPE_STAMP (R73, R175, R178, R182, R183): an edge of source `src` (numbered as SRC) reaches channel `n`; where it is one of the channel's, and
its divider passes it, it is an event. -/
def execLoupeStamp (n : Fin 12) (src : Fin 22) (falling : Bool) (code : BitVec 16) (busy : Bool) (s : State) : Res :=
  done (if s.loupeSees n src falling then
    if (s.lch n).pre + 1 < s.loupeDiv n then s.setLch n fun c => { c with pre := c.pre + 1 }
    else (s.setLch n fun c => { c with pre := 0 }).loupeEvent n code falling busy
  else s)

namespace State

variable (s : State)

/-- The figures of R190 over the last 16 s of calibrations of channel `n`. -/
def calFigures (n : Nat) : State :=
  let l := (s.lch n).cals.filter fun e => decide (s.monitorNow < e.1 + 16 * secondTicks)
  let res := l.foldl (fun a e => max a e.2.2.1) 0
  let noise := if l.isEmpty then 0 else isqrt (l.foldl (fun a e => a + e.2.1 * e.2.1) 0 / l.length)
  let meas := if l.isEmpty || l.any fun e => !e.2.2.2 then 0xFFFFFFFF else cdiv (3 * noise + res) 4000
  (((s.setLch n fun c => { c with cals := l }).wrnSat (Reg.loupeCalRes n) res).wrnSat (Reg.loupeNoise n) noise).wrnSat (Reg.loupeMeas n) meas

/-- Whether a calibration passes (R181): gain within 90–110 % of nominal, CAL_RES at most 10 ps. -/
def calPasses (gain res : Nat) : Bool :=
  9 * Config.loupeGain ≤ 10 * gain && 10 * gain ≤ 11 * Config.loupeGain && decide (res ≤ 160)

/-- CAL_RES of a calibration with this offset (R181): the factory bound on non-linearity, or the change of offset, whichever is larger. -/
def calRes (n : Nat) (offset : Int) : Nat :=
  max Config.loupeNonlin ((s.lch n).offset.elim 0 fun o => (offset - o).natAbs)

/-- A calibration of channel `n` is complete: its gain and figures are recorded; a failure raises fault 16 and sets CAL_FAIL (R180, R181, R190). -/
def calibrate (n : Nat) (gain noise : BitVec 32) (offset : Int) : State :=
  let res := s.calRes n offset
  let ok := calPasses gain.toNat res
  let s1 := ((s.wr (Reg.loupeCalGain n) gain).setLch n fun c =>
    { c with calOk := ok, offset := some offset, cals := (s.monitorNow, noise.toNat, res, ok) :: c.cals }).calFigures n
  (s1.putBit Reg.loupeStatusOf (16 + n) (!ok)).raiseFaultIf (!ok) 16 n

/-- The last `us` microseconds lay in the quiet part of the period of reference `n` (R186): from 10 µs after its event to 16 µs and a
thousandth of the period before the next one that is predicted. -/
def loupeQuiet (n us : Nat) : Bool :=
  let now : Int := s.edges * 1600
  match (s.lch n).lastAt, (s.lch n).period with
  | some l, some p => decide (l + 10000000 ≤ now - us * 1000000) && decide (now ≤ l + p - 16000000 - p / 1000)
  | _, _ => false

/-- A calibration of channel `n` can be complete now: the one begun 4 µs ago, or in REF mode one in the quiet part, or one before a prediction
exists while none has passed (R180, R185–R187). -/
def calDue (n : Nat) : Bool :=
  !s.gridBypass &&
    (match (s.lch n).calFrom with
     | some e => decide (e + gridUs 4 ≤ s.edges)
     | none => s.loupeMode n == 1 && (s.loupeQuiet n 4 || ((s.lch n).period.isNone && !(s.lch n).calOk)))

end State

/-- LOUPE_CALIBRATION (R180, R181, R186, R190): a calibration ends with its gain (fs per code), NOISE and offset (1/16 ps); a capture or a block
begins, or a gate in CAL fails. -/
def execLoupeCalibration (n : Fin 12) (gain noise offset : BitVec 32) (s : State) : Res :=
  done (if s.calDue n then
    let s1 := s.calibrate n gain noise offset.toInt
    let ok := (s1.lch n).calOk
    let inGate := s.loupeMode n == 2 && s.gateState n == 3
    let s2 := s1.setLch n fun c =>
      { c with calFrom := none, since := s.edges, gateCal := ok && s.gateState n == 2, first := c.first || !inGate }
    if !ok && s.loupeMode n == 2 && s.gateState n == 2 then s2.gateDone n 2 else s2
  else s)

namespace State

variable (s : State)

/-- The signed ticks from now to the arm time of channel `n`, in its time base (R187). -/
def toArm (n : Nat) : Int := tickDiff (s.rd64 (Reg.loupeArmLo n)) (s.tick (s.fld (Reg.loupeCfg n) Fld.loupeCfg_TB))

end State

/-- LOUPE_START (R184, R187): in IDLE or DONE the statistics clear and the gate is armed, or calibrates at once with LATE when the arm time
is less than 4 µs ahead; on the bypass clock it is refused. -/
def execLoupeStart (n : Fin 12) (s : State) : Res :=
  done (if s.loupeMode n = 2 ∧ (s.gateState n = 0 ∨ s.gateState n = 4) then
    if s.gridBypass then s
    else
      let late : Bool := decide (s.toArm n < 4 * usTicks)
      let s1 := s.setLch n fun c =>
        { c.newBlock with gateCal := false, pre := 0, opened := s.edges, calOk := false, calFrom := if late then some s.edges else none }
      (s1.put (Reg.loupeStatus n) Fld.loupeStatus_LATE late.toNat).setGate n (if late then 2 else 1)
  else s)

/-- LOUPE_STOP (R187): an active gate closes, latches and ends STOPPED. -/
def execLoupeStop (n : Fin 12) (s : State) : Res :=
  done (if s.loupeMode n = 2 ∧ 1 ≤ s.gateState n ∧ s.gateState n ≤ 3 then s.gateEnd n 1 else s)

/-- LOUPE_ARM_CAL (R187): 4 µs before its arm time an ARMED gate calibrates. -/
def execLoupeArmCal (n : Fin 12) (s : State) : Res :=
  done (if s.loupeMode n = 2 ∧ s.gateState n = 1 ∧ s.toArm n ≤ 4 * usTicks then
    (s.setLch n fun c => { c.calibrating s.edges with gateCal := false }).setGate n 2
  else s)

/-- LOUPE_GATE_OPEN (R187): a gate in CAL whose calibration has passed opens at its arm time, or with LATE 4 µs after the START. -/
def execLoupeGateOpen (n : Fin 12) (s : State) : Res :=
  done (if s.loupeMode n = 2 ∧ s.gateState n = 2 ∧ (s.lch n).gateCal = true ∧
      (if s.on (Reg.loupeStatus n) Fld.loupeStatus_LATE then decide ((s.lch n).opened + State.gridUs 4 ≤ s.edges) else decide (s.toArm n ≤ 0)) = true then
    (s.setLch n fun c => { c with opened := s.edges, since := s.edges }).setGate n 3
  else s)

/-- LOUPE_GATE_CLOSE (R187, R189): an open gate whose length or count is reached closes, its statistics are latched, and interrupt 12 follows. -/
def execLoupeGateClose (n : Fin 12) (s : State) : Res :=
  done (
    let g := s.rdn (Reg.loupeGate n)
    let c := s.rdn (Reg.loupeCount n) % 65536
    if s.loupeMode n = 2 ∧ s.gateState n = 3 ∧
        ((g ≠ 0 ∧ (s.lch n).opened + State.gridUs g ≤ s.edges) ∨ (c ≠ 0 ∧ c ≤ (s.lch n).taken)) then s.gateEnd n 0
    else s)

/-- LOUPE_MODE_WRITE (R176, R187): any mode but REF is ignored while the reference is enabled; otherwise the mode changes, an active gate is abandoned to
IDLE, and CONT starts with a calibration. -/
def execLoupeModeWrite (n : Fin 12) (mode : Fin 8) (s : State) : Res :=
  done (
    let s0 := s.put (Reg.loupeCfg n) Fld.loupeCfg_MODE mode
    if s.refState n ≠ 5 then (if mode.val = 1 then s0 else s)
    else
      let s1 := s0.setLch n fun c =>
        { c.newBlock.missed with calOk := false, calFrom := if mode.val = 3 then some s.edges else none, since := s.edges, pre := 0 }
      if 1 ≤ s.gateState n ∧ s.gateState n ≤ 3 then s1.setGate n 0 else s1)

/-- LOUPE_CONT_BLOCK (R180, R185–R187, R189): after 1 ms of capture a CONT channel latches its block, and it, a gate that stays open, or a REF channel
without a prediction calibrates. -/
def execLoupeContBlock (n : Fin 12) (s : State) : Res :=
  done (if s.loupeCaptures n ∧ (s.lch n).calFrom = none ∧ (s.lch n).since + State.gridUs 1000 ≤ s.edges ∧
      (s.loupeMode n = 1 → (s.lch n).period = none) then
    let s1 := if s.loupeMode n = 3 then (s.latchStats n).setLch n LoupeCh.newBlock else s
    s1.setLch n fun c => c.calibrating s.edges
  else s)

namespace State

variable (s : State)

/-- The lowest-numbered channel that may serve a guest of 16 µs (R191). -/
def guestChannel : Option Nat :=
  if s.gridBypass then none
  else (List.range 12).find? fun n => s.on (Reg.loupeCfg n) Fld.loupeCfg_GUEST &&
    (if s.refState n != 5 then s.loupeQuiet n 16
     else s.loupeMode n == 0 || s.loupeMode n == 1)

/-- The chain requests marker `k` of this second: its side is UP (R191, R508). -/
def chainAsks (k : Nat) : Bool := (s.chain.sides.get {} (k / 2)).up

/-- Target `k` is due for a guest in this second (R191): an enabled output that carries its synthesiser and no bypass clock, or a marker of the
chain, not yet measured. -/
def guestDue (k : Nat) : Bool :=
  !s.loupe.measured.testBit k &&
    (if k < 12 then
      s.bit (Reg.outCtrl k) 0 && !s.on (Reg.outStatus k) Fld.outStatus_BYPASS && !s.on (Reg.outStatus k) Fld.outStatus_GATED &&
        !(decide (k < 8) && s.fld (Reg.outCtrl k) Fld.outCtrl_SRC == 3)
     else s.chainAsks (k - 12))

end State

/-- LOUPE_GUEST (R191): a free channel calibrates and measures the output or marker, its error `err` in ps and its interpolator code; with none the
guest is skipped and counted. -/
def execLoupeGuest (target : Fin 16) (err : BitVec 32) (code : BitVec 16) (gain noise offset : BitVec 32) (busy : Bool) (s : State) : Res :=
  done (if !s.guestDue target then s
  else
    match s.guestChannel with
    | none => s.countSat Reg.loupeGuestMiss
    | some c =>
      let s1 := s.calibrate c gain noise offset.toInt
      let s1 := { s1 with loupe := { s1.loupe with measured := s1.loupe.measured ||| 2 ^ target.val } }
      if (s1.lch c).calOk then
        let s2 := if target.val < 12 then s1.wr (Reg.loupeOutErr target) err
          else { s1 with loupe := { s1.loupe with marks := s1.loupe.marks.set 0 (target - 12) (uns 64 (s1.stampTicks c 0 code)) } }
        if s.on (Reg.loupeCfg c) Fld.loupeCfg_FIFO then
          s2.loupeCopy (State.loupeWord0 c false true true false :: err ::
            State.tickWords (s1.stampTicks c (s.fld (Reg.loupeCfg c) Fld.loupeCfg_TB) code)) busy
        else s2
      else s1)

/-- LOUPE_FIFO_READ (R192, R551): the oldest entry leaves and its four words are latched; on an empty FIFO the last again with UNDERRUN. -/
def execLoupeFifoRead (s : State) : Res :=
  done (
    let r := Fifo.pop 4 s.loupe.fifo
    let s1 := { s with loupe := { s.loupe with fifo := r.2 } }
    let l := if r.2.last.isEmpty then [0, 0, 0, 0] else r.2.last
    ((s1.wrRun (Reg.loupeFifo 0) l).wr (Reg.loupeFifo 0) r.1).loupeFill)

namespace State

variable (s : State)

/-- GRID moves to the bypass clock (R184, R187): an open gate closes with END BYPASS, an open block of CONT is latched, and nothing is
predicted; REFUSED reads 1 as long as it runs there. -/
def loupeGridBypass : State :=
  (List.range 12).foldl (fun (t : State) (n : Nat) =>
    let t := t.setLch n fun c => { c.missed with calFrom := none, calOk := false }
    if t.loupeMode n == 2 && decide (1 ≤ t.gateState n) && decide (t.gateState n ≤ 3) then t.gateEnd n 3
    else if t.loupeMode n == 3 then (t.latchStats n).setLch n LoupeCh.newBlock
    else t) s

/-- GRID leaves the bypass clock (R184): a CONT channel starts its next block with a calibration. -/
def loupeGridBack : State :=
  (List.range 12).foldl (fun (t : State) (n : Nat) => if t.loupeMode n == 3 then t.setLch n fun c => c.calibrating s.edges else t) s

/-- Block reset of the Loupe, and a chip reset's effect on it (R12, R193). -/
def loupeReset : State :=
  let s1 := (List.range 12).foldl (fun (t : State) (n : Nat) =>
    t.setLch n fun c => { c.newBlock.missed with last := none, gateCal := false, cals := [],
                                                 calOk := false, calFrom := if t.loupeMode n = 3 then some s.edges else none }) s
  let s2 := s1.resetRegs (inPage 6)
  ({ s2 with loupe := { s2.loupe with fifo := Fifo.empty s2.loupe.fifo, measured := 0, marks := [] } }).loupeFill

/-- A second of the Loupe ends: outputs not measured in it read 0x8000_0000 (R191), and the calibrations of the last 16 s are taken again (R190). -/
def loupeSecond : State :=
  let s1 := (List.range 12).foldl (fun (t : State) (n : Nat) =>
    let t := if s.loupe.measured.testBit n then t else t.wr (Reg.loupeOutErr n) 0x80000000
    t.calFigures n) s
  { s1 with loupe := { s1.loupe with measured := 0 } }

end State

end Sys2Proof.Machine
end

