-- ==== Sys2Proof/Machine/Partner.lean ====
section
/-!
DEFINITION. The partner table (R515, R516, R518): entries, returns and departures, each with its EVT entry and interrupt 57.
-/

namespace Sys2Proof.Machine

namespace State

variable (s : State)

/-- Change the chain block. -/
def setChain (f : ChainSt → ChainSt) : State := { s with chain := f s.chain }

/-- A side of the chain, 0 upstream. -/
def cside (k : Nat) : ChainSide := s.chain.sides.get {} k

/-- Change a side. -/
def setCside (k : Nat) (f : ChainSide → ChainSide) : State :=
  s.setChain fun c => { c with sides := c.sides.set {} k (f (c.sides.get {} k)) }

/-- CHAIN_MODE = 1 (R41). -/
def chainMode : Bool := s.loader.built && s.param 0x61 0 == 1

/-- The entries in use. -/
def partnerList : List Partner := s.chain.partners.filterMap fun e => e.2

/-- Store a partner entry. -/
def setPartner (i : Nat) (p : Partner) : State := s.setChain fun c => { c with partners := c.partners.set none i (some p) }

/-- Show PARTNER_STATUS and CHAIN_NODES (R516): a change of CHAIN_NODES raises interrupt 56 (R514). -/
def partnerShow : State :=
  let ps := s.partnerList
  let here := ps.filter fun p => !p.uses.isEmpty
  let count (d : Nat) : Nat := min 255 (here.filter fun p => p.kind == 0 && p.side == d).length
  let t := s.wrn Reg.partnerStatus (here.length * 65536 + (ps.length - here.length))
  let nodes := count 0 * 256 + count 1
  if t.rdn Reg.chainNodes = nodes then t else (t.wrn Reg.chainNodes nodes).raiseIrq 56

/-- Post a PARTNER event (R555): 0 entered, 1 returned, 2 left. -/
def partnerEvent (what kind i : Nat) : State :=
  ((s.evtPush 3 0 (BitVec.ofNat 32 (what * 2 ^ 30 + kind * 2 ^ 28 + i))).raiseIrq 57).partnerShow

/-- A kind is entered and updated (R515). -/
def partnerKind (kind : Nat) : Bool := s.bit Reg.partnerCtrl kind

/-- The entry of an identity. -/
def partnerOf (kind key w2 : Nat) : Option (Nat × Partner) :=
  s.chain.partners.findSome? fun (e : Nat × Option Partner) => match e.2 with
    | some p => if p.kind == kind && p.key == key && p.w2 == w2 then some (e.1, p) else none
    | none => none

/-- The index for a new partner: a free one, or the LEFT entry that left longest ago; none when every entry is PRESENT. -/
def partnerFree : Option Nat :=
  let free := if s.chain.partners.length < 1024 then
      (List.range 1024).find? fun i => (s.chain.partners.get none i).isNone else none
  match free with
  | some i => some i
  | none =>
    let left := s.chain.partners.filterMap fun (e : Nat × Option Partner) => match e.2 with
      | some p => if p.uses.isEmpty then some (e.1, p.left) else none
      | none => none
    left.foldl (fun (r : Option (Nat × Nat)) (e : Nat × Nat) => match r with
      | none => some e
      | some b => if e.2 < b.2 then some e else r) none |>.map (·.1)

/-- A partner is seen at `at_` (R515): entered, returned, or seen there as well. -/
def partnerAdd (kind key w1 w2 at_ side dev : Nat) : State :=
  if !s.partnerKind kind then s
  else
    let now := s.time.tb.get {} 0
    let sec := now.t / (1000000000 * 2 ^ 48) % 2 ^ 32
    match s.partnerOf kind key w2 with
    | some (i, p) =>
      let q := { p with uses := p.uses ++ [at_], at_ := at_, side := side, seen := sec, dev := dev }
      if p.uses.isEmpty then (s.setPartner i { q with uses := [at_], rejoins := min 65535 (p.rejoins + 1) }).partnerEvent 1 kind i
      else s.setPartner i q
    | none =>
      match s.partnerFree with
      | none => s.countSat Reg.partnerFull
      | some i =>
        (s.setPartner i { kind := kind, key := key, w1 := w1, w2 := w2, uses := [at_], at_ := at_, side := side, first := sec, seen := sec, dev := dev }).partnerEvent 0 kind i

/-- The entry of a partner of `kind` with identity `key` that is present at `at_`. -/
def partnerAt (kind key at_ : Nat) : Option (Nat × Partner) :=
  s.chain.partners.findSome? fun (e : Nat × Option Partner) => match e.2 with
    | some p => if p.kind == kind && p.key == key && p.uses.contains at_ then some (e.1, p) else none
    | none => none

/-- A partner present is heard again at `at_`. -/
def partnerTouch (kind key at_ : Nat) : State :=
  match s.partnerAt kind key at_ with
  | some (i, p) => if s.partnerKind kind then s.setPartner i { p with seen := (s.time.tb.get {} 0).t / (1000000000 * 2 ^ 48) % 2 ^ 32 } else s
  | none => s

/-- A sighting at `at_` of a partner of `kind` with identity `key` ends; with the last one it has LEFT (R515). -/
def partnerDrop (kind key at_ : Nat) : State :=
  if !s.partnerKind kind then s
  else
    match s.partnerAt kind key at_ with
    | none => s
    | some (i, p) =>
      let rest := p.uses.erase at_
      if rest.isEmpty then
        ((s.setPartner i { p with uses := [], left := s.chain.departures }).setChain fun c => { c with departures := c.departures + 1 }).partnerEvent 2 kind i
      else s.setPartner i { p with uses := rest, at_ := rest.getLastD at_ }

/-- A sighting reaches the table. -/
def sight : Sighting → State
  | .seen kind key w1 w2 place => s.partnerAdd kind key w1 w2 place 0 0
  | .heard kind key place => s.partnerTouch kind key place
  | .gone kind key place => s.partnerDrop kind key place

/-- A PTP or STREAM partner is sighted in this GRID period. -/
def sightLater (x : Sighting) : State := s.setChain fun c => { c with sighted := c.sighted ++ [x] }

/-- The KIND of a sighting. -/
def sightKind : Sighting → Nat
  | .seen kind _ _ _ _ => kind
  | .heard kind _ _ => kind
  | .gone kind _ _ => kind

/-- The GRID period ends: its sightings reach the table, those of PTP before those of STREAM; those of CHAIN have reached it before (R515). -/
def sightFlush : State :=
  let xs := s.chain.sighted
  (xs.filter (fun x => sightKind x == 1) ++ xs.filter (fun x => sightKind x != 1)).foldl sight (s.setChain fun c => { c with sighted := [] })

/-- The words of PARTNER_DATA for an entry (R518). -/
def partnerWords (i : Nat) : List Word :=
  match s.chain.partners.get none i with
  | none => List.replicate 6 0
  | some p => [2 ^ 31 + (!p.uses.isEmpty).toNat * 2 ^ 30 + p.kind * 2 ^ 28 + p.at_ % 65536, p.w1, p.w2, p.first, p.seen, p.rejoins * 65536 + p.dev].map (BitVec.ofNat 32)

end State

end Sys2Proof.Machine
end

