-- ==== Sys2Proof/Machine/Ivern.lean ====
section
/-!
DEFINITION. What the rest of the part needs of the pair: the claim, the transmit policy it gives (R316, R338, R370), and the sending of a
message on the Ivern link (R479).
-/

namespace Sys2Proof.Machine

namespace State

variable (s : State)

/-- PAIR_MODE = PAIR (R41). -/
def pairMode : Bool := s.loader.built && s.param 0x60 0 == 1

/-- The unit's own claim number (R467). -/
def claim : Nat := s.rdn Reg.pairClaim % 65536

/-- PAIR_STATUS.STATE (R466): 0 SOLO, 1 DOWN, 2 ALONE, 3 JOINING, 4 ACTIVE, 5 STANDBY, 6 DIVERGED_STANDBY, 7 FOREIGN. -/
def pairState : Nat := s.fld Reg.pairStatus Fld.pairStatus_STATE

/-- UNITSEL as strapped (R47). -/
def unitSel : Nat := s.rdn Reg.structStraps / 16 % 2

/-- The Ivern link is up (R485). -/
def ivernUp : Bool := s.on Reg.pairStatus Fld.pairStatus_LINK_UP

/-- The unit holds the claim (R472), a solo unit always. -/
def holding : Bool := !s.pairMode || s.on Reg.pairStatus Fld.pairStatus_HOLDING

/-- CLAIM_IO and the Ivern link have both failed (R316, R473). -/
def bothFailed : Bool := s.on Reg.pairStatus Fld.pairStatus_CLAIMIO_BAD && !s.ivernUp

/-- The unit may transmit PTP and NTS (R316, R338). -/
def mayTransmit : Bool :=
  !s.pairMode || (s.claim != 0 && (s.bothFailed || s.on Reg.pairStatus Fld.pairStatus_HOLDING))

/-- Change the pair logic. -/
def setPair (f : PairSt → PairSt) : State := { s with pair := f s.pair }

/-- The START block of the next message of a type (R478, R479). -/
def ivernStart (type aux len : Nat) : List Byte :=
  [0x78] ++ beBytes 1 type ++ beBytes 2 len ++ beBytes 2 (s.pair.seq.get 0 type) ++ beBytes 1 s.unitSel ++ beBytes 1 aux

/-- Send a message of 64-bit words (R479): START, data, END. -/
def ivernSend (type aux : Nat) (words : List Nat) : State :=
  let start := s.ivernStart type aux words.length
  let body := words.flatMap (beBytes 8)
  let fin := [(0x87 : Byte)] ++ beBytes 4 (crc32 (start.drop 1 ++ body)) ++ beBytes 3 0
  (s.send (.ivern type (start ++ body ++ fin))).setPair fun p =>
    { p with seq := p.seq.set 0 type ((p.seq.get 0 type + 1) % 65536) }

/-- Octets as 64-bit big-endian words. -/
def wordsOf : Nat → List Byte → List Nat
  | 0, _ => []
  | n + 1, bs => beNat (bs.take 8) :: wordsOf n (bs.drop 8)

end State

end Sys2Proof.Machine
end

