-- ==== Sys2Proof/Machine/Keys.lean ====
section
/-!
DEFINITION. The key store (R340–R348): slots, loads, zeroization, blobs, checks, the DRBG and the master-key ring.
-/

namespace Sys2Proof.Machine

namespace State

variable (s : State)

/-- Change the key store. -/
def setKeys (f : KeysSt → KeysSt) : State := { s with keys := f s.keys }

/-- PG_NTS is ABSENT (R339). -/
def ntsAbsent : Bool := s.loader.built && s.param 0x70 21 == 2

/-- KEYS_STATUS.LOCKED (R347). -/
def keysLocked : Bool := s.on Reg.keysStatus Fld.keysStatus_LOCKED

/-- Draw 256 random bits: a key, a nonce or a hash key (R343). -/
def draw : BitVec 256 × State :=
  (Config.random s.keys.draws, s.setKeys fun k => { k with draws := k.draws + 1 })

/-- The master key of a slot: 0 CURRENT, 1 PENDING, 2 PREV_1, 3 PREV_2. -/
def ring (i : Nat) : Option MasterKey :=
  match i with | 0 => s.keys.cur | 1 => s.keys.pend | 2 => s.keys.prev1 | _ => s.keys.prev2

/-- Put a master key into a slot. -/
def setRing (i : Nat) (m : Option MasterKey) : State :=
  s.setKeys fun k => match i with
    | 0 => { k with cur := m } | 1 => { k with pend := m } | 2 => { k with prev1 := m } | _ => { k with prev2 := m }

/-- Show the ring: slots held, their KEY_IDs, and NO_KEY (R349, R351). -/
def ringShow : State :=
  let s1 := (List.range 4).foldl (fun t i =>
    (t.putBit Reg.ntsRotStatus i (t.ring i).isSome).wrn (Reg.ntsKeyId i) (match t.ring i with | some m => m.id | none => 0)) s
  s1.put Reg.ntsStatus Fld.ntsStatus_NO_KEY s.keys.cur.isNone.toNat

/-- The key of PTP slot `k`. -/
def ptpKey (k : Nat) : Option (BitVec 256) := s.keys.ptp.get none k

/-- Put a key into PTP slot `k` and show LOADED. -/
def setPtpKey (k : Nat) (v : Option (BitVec 256)) : State :=
  (s.setKeys fun x => { x with ptp := x.ptp.set none k v }).put (Reg.keysPtpCfg k) Fld.keysPtpCfg_LOADED v.isSome.toNat

/-- Put the pair key and show PAIR_KEY. -/
def setPairKey (v : Option (BitVec 256)) : State :=
  (s.setKeys fun x => { x with pair := v }).put Reg.keysStatus Fld.keysStatus_PAIR_KEY v.isSome.toNat

/-- FROM and UNTIL of PTP slot `k`, TB_0 seconds (R341). -/
def keyFrom (k : Nat) : Nat := s.rd64 (Reg.keysPtpFromLo k) % 2 ^ 48
/-- UNTIL of PTP slot `k`. -/
def keyUntil (k : Nat) : Nat := s.rd64 (Reg.keysPtpUntilLo k) % 2 ^ 48

/-- PTP slot `k` is enabled for transmit (R341). -/
def keyTx (k : Nat) : Bool :=
  let t := s.seconds 0
  s.on (Reg.keysPtpCfg k) Fld.keysPtpCfg_TX_EN && (s.ptpKey k).isSome && s.keyFrom k ≤ t &&
    (s.keyUntil k == 0 || t < s.keyUntil k)

/-- PTP slot `k` is enabled for receive (R341). -/
def keyRx (k : Nat) : Bool :=
  let t := s.seconds 0
  let skew := s.rdn Reg.keysPtpSkew % 65536
  s.on (Reg.keysPtpCfg k) Fld.keysPtpCfg_RX_EN && (s.ptpKey k).isSome && s.keyFrom k ≤ t + skew &&
    (s.keyUntil k == 0 || t < s.keyUntil k + skew)

/-- The lowest receive slot that (SPP, keyID) names (R341). -/
def keyFor (spp id : Nat) : Option Nat :=
  (List.range 16).find? fun k => s.keyRx k && s.fld (Reg.keysPtpCfg k) Fld.keysPtpCfg_SPP == spp && s.rdn (Reg.keysPtpId k) == id

/-- TB_0 seconds have gone from `a` to `b`: every TX_SLOT whose slot's UNTIL lies in (a, b] moves to NEXT (R341). -/
def keyRollover (a b : Nat) : State :=
  (List.range 4).foldl (fun t n =>
    let slot := t.fld (Reg.ptpAuth n) ⟨16, 4⟩
    let u := t.keyUntil slot
    if u != 0 && decide (a < u) && decide (u ≤ b) then t.put (Reg.ptpAuth n) ⟨16, 4⟩ (t.fld (Reg.keysPtpCfg slot) Fld.keysPtpCfg_NEXT) else t) s

/-! ### Records (R345) -/

/-- The 48-octet record of a ring slot. -/
def slotRecord (m : Option MasterKey) : List Byte :=
  match m with
  | some m => leBytes 4 m.id ++ [1] ++ List.replicate 11 0 ++ beBytes 32 m.key.toNat
  | none => List.replicate 48 0

/-- Read the record of a ring slot. -/
def readSlot (b : List Byte) : Option MasterKey :=
  if leAt b 4 1 = 1 then some ⟨leAt b 0 4, BitVec.ofNat 256 (beAt b 16 32)⟩ else none

/-- RETAIN, 3 acting as 2 (R325). -/
def retain : Nat := min 2 (s.fld Reg.ntsRotCfg ⟨24, 2⟩)

/-- PERIOD, at least 60 (R326). -/
def rotPeriod : Nat := max 60 (s.fld Reg.ntsRotCfg ⟨0, 24⟩)

/-- The 16-octet rotation record. -/
def rotRecord : List Byte :=
  leBytes 4 (s.rdn Reg.ntsRotLeft) ++ leBytes 4 s.rotPeriod ++ leBytes 1 s.retain ++ List.replicate 7 0

/-- Apply a rotation record (R327). -/
def readRot (b : List Byte) : State :=
  let s := (s.wrn Reg.ntsRotLeft (leAt b 0 4)).put Reg.ntsRotCfg ⟨0, 24⟩ (leAt b 4 4)
  s.put Reg.ntsRotCfg ⟨24, 2⟩ (leAt b 8 1)

/-- Send a KEY message sealed under the pair key (R340, R484); nothing without one.  A 16-octet record takes 4 words, a 48-octet
record 8. -/
def sendKey (aux : Nat) (record : List Byte) : State :=
  match s.keys.pair with
  | some k =>
    let n := (record.length + 16) / 8
    s.ivernSend 6 aux (wordsOf n (Config.sivSeal k [s.ivernStart 6 aux n] record))
  | none => s

/-! ### Zeroization (R347) -/

/-- Zeroize: every slot, the load and mint registers, the blob window and the DRBG state; requests in progress are discarded.
`byFault` is fault 19 or 39: the identity key is refused and the store locked. -/
def zeroize (byFault : Bool) : State :=
  let s := { s with keys := { draws := s.keys.draws, reseeds := s.keys.reseeds },
                    nts := { s.nts with mintKey := [], queue := [], minting := [] } }
  let s := (List.range 16).foldl (fun t k => t.put (Reg.keysPtpCfg k) Fld.keysPtpCfg_LOADED 0) s
  let s := (s.put Reg.keysStatus Fld.keysStatus_PAIR_KEY 0).put Reg.keysStatus Fld.keysStatus_ZEROIZED 1
  let s := s.put Reg.keysBlobStatus ⟨18, 1⟩ 0
  let s := if byFault then (s.put Reg.keysStatus Fld.keysStatus_LOCKED 1).put Reg.keysStatus Fld.keysStatus_ID_OK 0 else s
  s.ringShow

/-- A key has been loaded or restored: ZEROIZED clears. -/
def keyLoaded : State := s.put Reg.keysStatus Fld.keysStatus_ZEROIZED 0

/-- The octets of KEYS_LOAD_0..7, octet 0 in KEYS_LOAD_0 [31:24] (R342). -/
def loadKey : BitVec 256 :=
  BitVec.ofNat 256 ((List.range 8).foldl (fun a i => a * 2 ^ 32 + (s.keys.load.get 0 i).toNat) 0)

/-- Put `v` into a load target: 0–15 a PTP slot, 16 the pair key, others ignored. -/
def putTarget (target : Nat) (v : Option (BitVec 256)) : State :=
  if target < 16 then s.setPtpKey target v else if target = 16 then s.setPairKey v else s

/-- Blob RESULT. -/
def blobResult (r : Nat) : State := s.put Reg.keysBlobStatus ⟨12, 4⟩ r

/-- An export or a restore is in progress. -/
def blobBusy : Bool := s.on Reg.keysBlobStatus ⟨18, 1⟩

/-- CONTENTS. -/
def blobContents : Nat := s.fld Reg.keysBlobCtrl Fld.keysBlobCtrl_CONTENTS

/-- The record of PTP slot `k` in a blob body. -/
def ptpRecord (k : Nat) : List Byte :=
  (match s.ptpKey k with | some v => beBytes 32 v.toNat | none => List.replicate 32 0) ++ leBytes 4 (s.rdn (Reg.keysPtpId k)) ++
    leBytes 1 (s.fld (Reg.keysPtpCfg k) Fld.keysPtpCfg_SPP) ++ leBytes 1 (s.rdn (Reg.keysPtpCfg k) % 256) ++ leBytes 2 0 ++
    leBytes 8 (s.keyFrom k) ++ leBytes 8 (s.keyUntil k) ++ leBytes 8 0

/-- The body of a blob (R345). -/
def blobBody (c : Nat) : List Byte :=
  (if c.testBit 0 then (List.range 4).flatMap (fun i => slotRecord (s.ring i)) ++ s.rotRecord else List.replicate 208 0) ++
  (match c.testBit 1, s.keys.pair with
    | true, some k => beBytes 32 k.toNat ++ [1] ++ List.replicate 15 0
    | _, _ => List.replicate 48 0) ++
  (if c.testBit 2 then (List.range 16).flatMap s.ptpRecord else List.replicate 1024 0)

/-- The wrapping key, derived from the identity key (R340): uninterpreted, per unit. -/
def wrapKey : BitVec 256 := Config.wrapKey s.otp.uid

/-- A whole blob (R345). -/
def blob : List Byte :=
  let c := s.blobContents
  let head := [0x54, 0x53, 0x4B, 0x42] ++ leBytes 2 1 ++ leBytes 2 64 ++ leBytes 8 s.otp.uid.toNat ++ leBytes 8 (s.seconds 0) ++
    leBytes 1 (s.rdn Reg.globalId) ++ leBytes 1 c ++ List.replicate 38 0
  head ++ Config.sivSeal s.wrapKey [head] (s.blobBody c)

/-- The checks of a restore in the order of R346: 0 accepted, otherwise RESULT; and the opened body. -/
def blobCheck : Nat × List Byte :=
  let w := SMap.slurp 0 s.keys.window 0 1360
  if slice w 0 8 ≠ [0x54, 0x53, 0x4B, 0x42, 1, 0, 64, 0] then (4, [])
  else if s.blobBusy || s.class3 || ((leAt w 0x19 1).testBit 0 && s.on Reg.ntsCtrl Fld.ntsCtrl_EN) then (5, [])
  else if leAt w 8 8 ≠ s.otp.uid.toNat then (3, [])
  else match Config.sivOpen s.wrapKey [w.take 64] (w.drop 64) with
    | some body => (0, leBytes 1 (leAt w 0x19 1) ++ body)
    | none => (3, [])

/-- Restore PTP slot `k` from its record. -/
def readPtp (k : Nat) (b : List Byte) : State :=
  let cfg := leAt b 37 1
  let s := s.setPtpKey k (if cfg.testBit 7 then some (BitVec.ofNat 256 (beAt b 0 32)) else none)
  let s := (s.wrn (Reg.keysPtpId k) (leAt b 32 4)).wrn (Reg.keysPtpCfg k) (leAt b 36 1 * 256 + cfg)
  (s.wr64 (Reg.keysPtpFromLo k) (leAt b 40 8)).wr64 (Reg.keysPtpUntilLo k) (leAt b 48 8)

/-- Replace the sections that CONTENTS names (R346). -/
def restoreBlob (c : Nat) (b : List Byte) : State :=
  let s := if c.testBit 0 then
      ((List.range 4).foldl (fun t i => t.setRing i (readSlot (slice b (48 * i) 48))) s |>.readRot (slice b 0xC0 16)).ringShow else s
  let s := if c.testBit 1 then s.setPairKey (if leAt b 0xF0 1 = 1 then some (BitVec.ofNat 256 (beAt b 0xD0 32)) else none) else s
  if c.testBit 2 then (List.range 16).foldl (fun t k => t.readPtp k (slice b (0x100 + 64 * k) 64)) s else s

/-! ### The master-key ring (R326, R327) -/

/-- A master key can be generated: no fault 20, not locked, group present (R326, R343, R347). -/
def canGenerate : Bool := !s.faultLatched 20 && !s.keysLocked && !s.ntsAbsent

/-- This unit draws PENDING: always solo, the holder in a pair, and either unit while the link is down (R327). -/
def drawsPending : Bool := !s.pairMode || s.holding || !s.ivernUp

/-- Draw PENDING (R326, step 1) with KEY_ID one above CURRENT's (a free value with no CURRENT key), and send it to the partner when the holder of a pair does so (R327). -/
def drawPending : State :=
  let (k, s0) := s.draw
  let (id, s1) : Nat × State := match s.keys.cur with
    | some m => ((m.id + 1) % 2 ^ 32, s0)
    | none => ((s0.fresh 32).1.toNat, (s0.fresh 32).2)
  let m : MasterKey := ⟨id, k⟩
  let s2 := (s1.setRing 1 (some m)).ringShow
  if s.pairMode && s.holding && s.ivernUp then (s2.sendKey 1 (slotRecord (some m))).sendKey 4 s2.rotRecord else s2

/-- ROT_LEFT counts down once per elapsed GRID second, whatever TB_0 does (R326). -/
def rotCount : State :=
  let k := s.monitorNow / secondTicks
  if k ≤ s.nts.rotIdx then s
  else ({ s with nts := { s.nts with rotIdx := k } }).wrn Reg.ntsRotLeft (s.rdn Reg.ntsRotLeft - (k - s.nts.rotIdx).toNat)

/-- Rotate the ring (R326, step 2): interrupt 25; the bucket hash key is drawn again (R335). -/
def rotate : State :=
  let s1 := s.setKeys fun k => { k with prev2 := k.prev1, prev1 := k.cur, cur := k.pend, pend := none }
  let (h, s2) := s1.draw
  let s3 := { s2 with nts := { s2.nts with hashKey := h, used := [] } }
  ((s3.wrn Reg.ntsRotLeft s.rotPeriod).putBit Reg.ntsRotStatus 4 false).ringShow.raiseIrq 25

/-- ROT_LEFT is 0: rotate, or defer (R326, steps 2 and 3). -/
def rotSwap : State := if s.keys.pend.isSome then s.rotate else s.putBit Reg.ntsRotStatus 4 true

end State

/-! ### The rows -/

/-- NTS_ROT_DRAW (R326, R327): at ROT_LEFT 30 with no PENDING held, draw PENDING where this unit draws and the TRNG works. -/
def execNtsRotDraw (s : State) : Res :=
  done (if s.rdn Reg.ntsRotLeft == 30 && s.keys.pend.isNone && s.drawsPending && s.canGenerate then s.drawPending else s)

/-- NTS_ROT_SWAP (R326): at ROT_LEFT 0, rotate or set DEFERRED. -/
def execNtsRotSwap (s : State) : Res :=
  done (if s.rdn Reg.ntsRotLeft == 0 then s.rotSwap else s)

/-- NTS_ROT_RETRY (R326, step 3): while DEFERRED, generation is retried every second and rotation follows when PENDING is held. -/
def execNtsRotRetry (s : State) : Res :=
  done (if s.bit Reg.ntsRotStatus 4 then
    let s1 := if s.keys.pend.isNone && s.drawsPending && s.canGenerate then s.drawPending else s
    if s1.keys.pend.isSome then s1.rotate else s1
  else s)

/-- NTS_ROT_CMD (R326): 1 sets ROT_LEFT to 30, so that step 1 is due; any other value is ignored. -/
def execNtsRotCmd (value : Word) (s : State) : Res :=
  done (if value = 1 then s.wrn Reg.ntsRotLeft 30 else s)

/-- KEYS_LOAD (R342): the key replaces the target's and KEYS_LOAD_0..7 are erased; ignored and counted as a violation while LOCKED,
ignored with PG_NTS ABSENT (R339). -/
def execKeysLoad (p : Port) (target : Fin 32) (s : State) : Res :=
  done (if s.keysLocked then s.violation 9 p true false Reg.keysLoadCtrl
  else if s.ntsAbsent || decide (16 < target.val) then s
  else (s.putTarget target (some s.loadKey)).keyLoaded.setKeys fun k => { k with load := [] })

/-- KEYS_CLEAR (R342): the target is erased. -/
def execKeysClear (target : Fin 32) (s : State) : Res := done (s.putTarget target none)

/-- KEYS_ZEROIZE (R347): 0xC3 zeroizes; any other value is ignored. -/
def execKeysZeroize (value : Word) (s : State) : Res := done (if value = 0xC3 then s.zeroize false else s)

/-- KEYS_BLOB_EXPORT (R345): refused with RESULT 5 while busy or without the identity key; otherwise a blob is built. -/
def execKeysBlobExport (s : State) : Res :=
  done (if s.blobBusy || !s.on Reg.keysStatus Fld.keysStatus_ID_OK then s.blobResult 5
  else (s.setKeys fun k => { k with op := 1, opBytes := s.blob }).put Reg.keysBlobStatus ⟨18, 1⟩ 1)

/-- KEYS_BLOB_EXPORT_DONE (R345): the window holds the blob and RESULT reads 1. -/
def execKeysBlobExportDone (s : State) : Res :=
  done (if s.blobBusy && s.keys.op == 1 then
    ((s.setKeys fun k => { k with window := SMap.ofList 0 0 k.opBytes, op := 0, opBytes := [] }).put Reg.keysBlobStatus ⟨18, 1⟩ 0).blobResult 1
  else s)

/-- KEYS_BLOB_RESTORE (R346): the checks in order; ignored with PG_NTS ABSENT (R339) or while LOCKED (R347). -/
def execKeysBlobRestore (s : State) : Res :=
  done (if s.ntsAbsent || s.keysLocked then s
  else
    let s1 := s.put Reg.keysBlobStatus ⟨19, 1⟩ 0
    match s.blobCheck with
    | (0, b) => (s1.setKeys fun k => { k with op := 2, opBytes := b }).put Reg.keysBlobStatus ⟨18, 1⟩ 1
    | (3, _) => (s1.put Reg.keysBlobStatus ⟨19, 1⟩ 1).blobResult 3
    | (r, _) => s1.blobResult r)

/-- KEYS_BLOB_RESTORE_DONE (R346): the named sections are replaced and RESULT reads 2. -/
def execKeysBlobRestoreDone (s : State) : Res :=
  done (if s.blobBusy && s.keys.op == 2 then
    let b := s.keys.opBytes
    let s1 := (s.setKeys fun k => { k with op := 0, opBytes := [] }).put Reg.keysBlobStatus ⟨18, 1⟩ 0
    (s1.restoreBlob (leAt b 0 1) (b.drop 1)).keyLoaded.blobResult 2
  else s)

/-- KEYSTORE_CHECK (R344): a pass counts in KEYS_CHECKS; a mismatch raises fault 19. -/
def execKeystoreCheck (good : Bool) (s : State) : Res :=
  done (if good then s.incWrap Reg.keysChecks ⟨0, 32⟩ else s.raiseFault 19 0)

/-- DRBG_RESEED (R343): the DRBG is reseeded from the TRNG, except while fault 20 is latched. -/
def execDrbgReseed (s : State) : Res :=
  done (if s.faultLatched 20 then s else s.setKeys fun k => { k with reseeds := k.reseeds + 1, seeded := true })

end Sys2Proof.Machine
end

