-- ==== Sys2Proof/Machine/Net.lean ====
section
/-!
DEFINITION. Ethernet, IPv4, IPv6 and UDP framing, as far as the PTP engine, the NTS responder and the stream engines read and write it
(R292, R322, R330, R363).  Frames are without preamble and FCS.
-/

namespace Sys2Proof.Machine

/-- An Ethernet frame taken apart: addresses, 802.1Q tag control, EtherType, payload. -/
structure Eth where
  dst : Nat
  src : Nat
  tag : Option Nat
  type : Nat
  body : List Byte
deriving DecidableEq, Repr

/-- Take a frame apart. -/
def parseEth (f : List Byte) : Eth :=
  let t := beAt f 12 2
  if t = 0x8100 then ⟨beAt f 0 6, beAt f 6 6, some (beAt f 14 2), beAt f 16 2, f.drop 18⟩
  else ⟨beAt f 0 6, beAt f 6 6, none, t, f.drop 14⟩

/-- Build a frame. -/
def buildEth (dst src : Nat) (tag : Option Nat) (type : Nat) (body : List Byte) : List Byte :=
  beBytes 6 dst ++ beBytes 6 src ++ (match tag with | some t => beBytes 2 0x8100 ++ beBytes 2 t | none => []) ++
    beBytes 2 type ++ body

/-- A UDP datagram: address family, addresses, ports, the IPv4 TTL or IPv6 hop limit, payload, and whether its checksum is absent or
right. -/
structure Udp where
  v6 : Bool
  src : Nat
  dst : Nat
  ttl : Nat
  sport : Nat
  dport : Nat
  payload : List Byte
  sumOk : Bool
deriving DecidableEq, Repr

/-- The one's-complement sum of 16-bit words. -/
def sum16 : List Byte → Nat
  | a :: b :: r => a.toNat * 256 + b.toNat + sum16 r
  | [a] => a.toNat * 256
  | [] => 0

/-- Fold a sum into 16 bits. -/
def fold16 (n : Nat) : Nat :=
  let a := n % 65536 + n / 65536
  let b := a % 65536 + a / 65536
  b % 65536 + b / 65536

/-- The UDP pseudo-header. -/
def pseudo (v6 : Bool) (src dst len : Nat) : List Byte :=
  if v6 then beBytes 16 src ++ beBytes 16 dst ++ beBytes 4 len ++ beBytes 4 17
  else beBytes 4 src ++ beBytes 4 dst ++ beBytes 2 17 ++ beBytes 2 len

/-- Read a UDP header and payload behind an IP header. -/
def udpOf (v6 : Bool) (src dst ttl : Nat) (b : List Byte) : Option Udp :=
  let len := beAt b 4 2
  if b.length < 8 ∨ len < 8 ∨ b.length < len then none
  else
    let d := b.take len
    let ok := beAt b 6 2 == 0 || fold16 (sum16 (pseudo v6 src dst len ++ d)) == 0xFFFF
    some ⟨v6, src, dst, ttl, beAt b 0 2, beAt b 2 2, d.drop 8, ok⟩

/-- The UDP datagram in an Ethernet frame: IPv4 without options and not fragmented, or IPv6 whose next header is UDP (R322). -/
def parseUdp (e : Eth) : Option Udp :=
  let b := e.body
  if e.type = 0x0800 then
    if beAt b 0 1 = 0x45 ∧ beAt b 6 2 % 0x4000 = 0 ∧ beAt b 9 1 = 17 ∧ 28 ≤ b.length ∧ beAt b 2 2 ≤ b.length then
      udpOf false (beAt b 12 4) (beAt b 16 4) (beAt b 8 1) ((b.take (beAt b 2 2)).drop 20)
    else none
  else if e.type = 0x86DD then
    if beAt b 0 1 / 16 = 6 ∧ beAt b 6 1 = 17 ∧ 48 ≤ b.length then
      udpOf true (beAt b 8 16) (beAt b 24 16) (beAt b 7 1) ((b.drop 40).take (beAt b 4 2))
    else none
  else none

/-- A UDP header and payload, with its checksum or zero. -/
def buildUdp (u : Udp) (sum : Bool) : List Byte :=
  let len := u.payload.length + 8
  let h := beBytes 2 u.sport ++ beBytes 2 u.dport ++ beBytes 2 len
  let c := 0xFFFF - fold16 (sum16 (pseudo u.v6 u.src u.dst len ++ h ++ [0, 0] ++ u.payload))
  h ++ beBytes 2 (if sum then (if c = 0 then 0xFFFF else c) else 0) ++ u.payload

/-- An Ethernet frame that carries a datagram; `dscp` is the DSCP field. -/
def buildUdpFrame (dst src : Nat) (tag : Option Nat) (u : Udp) (sum : Bool) (dscp : Nat) : List Byte :=
  let d := buildUdp u sum
  if u.v6 then
    buildEth dst src tag 0x86DD
      (beBytes 4 (0x60000000 + dscp * 0x400000) ++ beBytes 2 d.length ++ [17] ++ beBytes 1 u.ttl ++ beBytes 16 u.src ++
        beBytes 16 u.dst ++ d)
  else
    let h := [0x45] ++ beBytes 1 (dscp * 4) ++ beBytes 2 (d.length + 20) ++ beBytes 2 0 ++ beBytes 2 0x4000 ++
      beBytes 1 u.ttl ++ [17]
    let a := beBytes 4 u.src ++ beBytes 4 u.dst
    let c := 0xFFFF - fold16 (sum16 (h ++ [0, 0] ++ a))
    buildEth dst src tag 0x0800 (h ++ beBytes 2 c ++ a ++ d)

/-- The Ethernet group address of an IP group address. -/
def groupMac (v6 : Bool) (a : Nat) : Nat :=
  if v6 then 0x333300000000 + a % 2 ^ 32 else 0x01005E000000 + a % 2 ^ 23

end Sys2Proof.Machine
end

