-- ==== Sys2Proof/Machine/Nts.lean ====
section
/-!
DEFINITION. The NTS responder (R322–R338): the checks of a request in order, cookies, responses, minting and the second's interrupts.
-/

namespace Sys2Proof.Machine

namespace State

variable (s : State)

/-- Change the responder. -/
def setNts (f : NtsSt → NtsSt) : State := { s with nts := f s.nts }

/-- NTS_CTRL.EN, held at 0 with PG_NTS ABSENT (R339). -/
def ntsEnabled : Bool := s.on Reg.ntsCtrl Fld.ntsCtrl_EN && !s.ntsAbsent

/-- NTS_n_IPV6 as a number. -/
def ntsV6 (n : Nat) : Nat := (List.range 4).foldl (fun a k => a * 2 ^ 32 + s.rdn (Reg.ntsIpv6 n k)) 0

/-- The classifier gives the frame to the responder (R322). -/
def ntsTakes (n : Nat) (e : Eth) (u : Udp) : Bool :=
  s.ntsEnabled && u.dport == 123 && u.dst != 0 && (u.dst == (if u.v6 then s.ntsV6 n else s.rdn (Reg.ntsIpv4 n))) &&
    (match e.tag with
      | none => true
      | some t => s.bit (Reg.ntsVlan n) 16 && t % 4096 == s.rdn (Reg.ntsVlan n) % 4096)

/-! ### Requests -/

/-- An extension field: type, its whole octets, and its offset in the payload. -/
abbrev Ext := Nat × List Byte × Nat

/-- The extension fields of RFC 7822 from an offset: each length a multiple of 4, at least 16, within the payload (R323, order 6). -/
def exts : Nat → Nat → List Byte → Option (List Ext)
  | _, _, [] => some []
  | 0, _, _ => none
  | fuel + 1, off, b =>
    let len := beAt b 2 2
    if b.length < 4 ∨ len % 4 ≠ 0 ∨ len < 16 ∨ b.length < len then none
    else (exts fuel (off + len) (b.drop len)).map fun r => (beAt b 0 2, b.take len, off) :: r

/-- NTS Unique Identifier, Cookie, Cookie Placeholder and Authenticator field types (RFC 8915). -/
def typeUid : Nat := 0x0104
/-- NTS Cookie. -/
def typeCookie : Nat := 0x0204
/-- NTS Cookie Placeholder. -/
def typePlaceholder : Nat := 0x0304
/-- NTS Authenticator and Encrypted Extension Fields. -/
def typeAuth : Nat := 0x0404

/-- Fields of a type. -/
def ofExt (t : Nat) (es : List Ext) : List Ext := es.filter (·.1 == t)

/-- The bucket key of a source: its IPv4 address or the first 64 bits of its IPv6 address (R335). -/
def bucketOf (u : Udp) : Nat :=
  (Config.bucketHash s.nts.hashKey (BitVec.ofNat 64 (if u.v6 then u.src / 2 ^ 64 else u.src))).toNat

/-- GRID edges a second. -/
def edgesPerSecond : Nat := 625000000

/-- Take a token of bucket `b` (R335): whether one was there, and the state after. -/
def takeToken (b : Nat) : Bool × State :=
  let per := s.fld Reg.ntsRateCfg ⟨0, 16⟩
  let burst := s.fld Reg.ntsRateCfg ⟨16, 16⟩
  if per = 0 then (true, s)
  else
    let (used, at_) := s.nts.used.get (0, 0) b
    let now := used - per * (s.edges - at_)
    if now + edgesPerSecond ≤ burst * edgesPerSecond then
      (true, s.setNts fun x => { x with used := x.used.set (0, 0) b (now + edgesPerSecond, s.edges) })
    else (false, s)

/-- The master key that opens a cookie of KEY_ID `id` (R325). -/
def cookieKey (id : Nat) : Option MasterKey :=
  let held := [s.keys.cur] ++ (if 1 ≤ s.retain then [s.keys.prev1] else []) ++ (if 2 ≤ s.retain then [s.keys.prev2] else [])
  (held.filterMap fun m => m).find? (·.id == id)

/-- Open a cookie (R323 order 14, R324): its C2S and S2C keys. -/
def openCookie (c : List Byte) : Option (BitVec 256 × BitVec 256) :=
  if c.length ≠ 104 then none
  else match s.cookieKey (beAt c 0 4) with
    | none => none
    | some m => match Config.sivOpen m.key [c.take 4, slice c 4 16] (c.drop 20) with
      | some p => if beAt p 0 4 = 0x000F0000 then some (BitVec.ofNat 256 (beAt p 4 32), BitVec.ofNat 256 (beAt p 36 32)) else none
      | none => none

/-- A fresh 16-octet nonce (R343). -/
def nonce : List Byte × State := let (r, t) := s.draw; (beBytes 16 (r.toNat % 2 ^ 128), t)

/-- Mint one cookie under a master key (R324). -/
def mintCookie (m : MasterKey) (c2s s2c : BitVec 256) : List Byte × State :=
  let (n, t) := s.nonce
  let id := beBytes 4 m.id
  (id ++ n ++ Config.sivSeal m.key [id, n] ([0, 0x0F, 0, 0] ++ beBytes 32 c2s.toNat ++ beBytes 32 s2c.toNat), t)

/-- Mint `k` cookies, one after another. -/
def mintCookies (m : MasterKey) (c2s s2c : BitVec 256) : Nat → State → List (List Byte) × State
  | 0, t => ([], t)
  | k + 1, t =>
    let (c, t1) := t.mintCookie m c2s s2c
    let (cs, t2) := mintCookies m c2s s2c k t1
    (c :: cs, t2)

/-! ### Responses (R330–R333) -/

/-- The NTP time of a TB_0 value in full ticks (R207): seconds and fraction. -/
def ntpTime (t : Int) : Nat :=
  let sec := t / secondTicks
  let n := (sec - s.utcOffset + 2208988800) % 2 ^ 32
  n.toNat * 2 ^ 32 + ((t % secondTicks) * 2 ^ 32 / secondTicks).toNat

/-- A stratum for the published order of R138 (R331). -/
def ntsStratum : Nat :=
  let o := s.ptp.pub.order
  if o ≤ 2 then 16 else if o = 4 ∨ o = 5 then 1
  else let d := s.fld Reg.ntsCfg Fld.ntsCfg_DEGR_STRATUM; if d = 0 then 2 else d

/-- The leap indicator (R331). -/
def ntsLeap : Nat := if s.ptp.pub.order ≤ 2 then 3 else s.ptp.pub.pending

/-- Root Dispersion (R331). -/
def rootDispersion : Nat :=
  let b := s.ptp.pub.bound
  if b = 0xFFFFFFFF then b else (b * 65536 + 3999999999) / 4000000000

/-- TX_DELAY in ticks, 10–1,000 µs (R351). -/
def txDelay : Nat := max 10 (min 1000 (s.fld Reg.ntsCfg Fld.ntsCfg_TX_DELAY)) * 65536000

/-- The NTP header of a response to request header `q` with receive stamp `rx` (R331). -/
def ntpHeader (q : List Byte) (rx : Int) (li stratum refid : Nat) : List Byte :=
  beBytes 1 (li * 64 + beAt q 0 1 / 8 % 8 * 8 + 4) ++ beBytes 1 stratum ++ slice q 2 1 ++
    beBytes 1 (s.fld Reg.ntsCfg Fld.ntsCfg_PRECISION) ++ beBytes 4 0 ++ beBytes 4 s.rootDispersion ++ beBytes 4 refid ++
    beBytes 8 (s.ntpTime s.hold.anchorT) ++ slice q 40 8 ++ beBytes 8 (s.ntpTime rx) ++ beBytes 8 (s.ntpTime (rx + s.txDelay))

/-- The bound extension field (R333). -/
def boundField : List Byte :=
  let p := s.ptp.pub
  beBytes 2 (s.rdn Reg.ntsBoundType % 65536) ++ beBytes 2 52 ++ [1] ++ beBytes 1 p.flags ++ beBytes 1 p.hold ++ beBytes 1 p.anchor ++
    beBytes 4 p.bound ++ beBytes 1 p.cls ++ beBytes 1 p.acc ++ beBytes 2 p.seq ++ beBytes 2 s.claim ++ beBytes 2 0 ++
    p.contrib.flatMap (beBytes 4)

/-- The response frame to a request: addresses turned round (R330). -/
def ntsFrame (n : Nat) (e : Eth) (u : Udp) (payload : List Byte) : List Byte :=
  let mac := s.rd64 (Reg.lineMacLo n)
  buildUdpFrame e.src (beNat (leBytes 6 mac)) e.tag
    { u with src := u.dst, dst := u.src, sport := 123, dport := u.sport, ttl := s.fld Reg.ntsCfg Fld.ntsCfg_HOPS, payload := payload }
    true 0

/-- Queue a response, which starts at T_tx (R331, R336). -/
def ntsQueue (n : Nat) (rx : Int) (frame : List Byte) (cnt : Nat) : State :=
  s.setNts fun x => { x with queue := x.queue ++ [⟨n, frame, cnt, rx + s.txDelay⟩] }

/-- Count a drop. -/
def ntsDrop (cnt : Nat) : State := s.countSat cnt

/-- A Kiss-o'-Death response with a code and the fields to carry (R332). -/
def kiss (n : Nat) (e : Eth) (u : Udp) (rx : Int) (code : Nat) (fields : List Byte) (cnt : Nat) : State :=
  s.ntsQueue n rx (s.ntsFrame n e u (s.ntpHeader (u.payload.take 48) rx 3 0 code ++ fields)) cnt

/-- NTSN when NAK is 1, otherwise a silent drop, counted in `cnt` (R323, R332). -/
def ntsn (n : Nat) (e : Eth) (u : Udp) (rx : Int) (uid : List Byte) (cnt : Nat) : State :=
  let t := s.countSat cnt
  if s.on Reg.ntsCtrl Fld.ntsCtrl_NAK then t.kiss n e u rx 0x4E54534E uid Reg.ntsNakSent else t

/-- The fields of an authenticator: nonce and ciphertext. -/
def authParts (a : List Byte) : List Byte × List Byte :=
  let nl := beAt a 4 2
  let cl := beAt a 6 2
  (slice a 8 nl, slice a (8 + (nl + 3) / 4 * 4) cl)

/-- Answer an NTS request (R330). -/
def ntsAnswer (n : Nat) (e : Eth) (u : Udp) (rx : Int) (uid : List Byte) (es inner : List Ext) (c2s s2c : BitVec 256) : State :=
  match s.keys.cur with
  | none => s
  | some m =>
    let all := es ++ inner
    let p := min 7 ((ofExt typePlaceholder all).filter (·.2.1.length == 108)).length
    let (cs, t) := mintCookies m c2s s2c (1 + p) s
    let (nn, t) := t.nonce
    let bt := s.rdn Reg.ntsBoundType % 65536
    let bound := if bt ≠ 0 ∧ ((ofExt bt all).any fun x => 52 ≤ x.2.1.length) then s.boundField else []
    let sealed := cs.flatMap (fun c => beBytes 2 typeCookie ++ beBytes 2 108 ++ c) ++ bound
    let head := s.ntpHeader (u.payload.take 48) rx s.ntsLeap s.ntsStratum (s.rdn Reg.ntsRefid) ++ uid
    let ct := Config.sivSeal s2c [head, nn] sealed
    let pad := (4 - ct.length % 4) % 4
    let auth := beBytes 2 typeAuth ++ beBytes 2 (4 + 4 + 16 + ct.length + pad) ++ beBytes 2 16 ++ beBytes 2 ct.length ++ nn ++ ct ++
      List.replicate pad 0
    t.ntsQueue n rx (s.ntsFrame n e u (head ++ auth)) Reg.ntsRespNts

/-- The request queue is full (R336). -/
def ntsFull : Bool := decide (4096 ≤ s.nts.queue.length)

/-- Orders 11–13 for a plain request (R323). -/
def plainRequest (n : Nat) (e : Eth) (u : Udp) (rx : Int) : State :=
  let (ok, t) := s.takeToken (s.bucketOf u)
  if !ok then
    let t := t.countSat Reg.ntsDropRate
    if s.on Reg.ntsCtrl Fld.ntsCtrl_RATE_KOD then t.kiss n e u rx 0x52415445 [] 0 else t
  else if t.ntsFull then t.countSat Reg.ntsDropOverload
  else t.ntsQueue n rx (t.ntsFrame n e u (t.ntpHeader (u.payload.take 48) rx t.ntsLeap t.ntsStratum (t.rdn Reg.ntsRefid))) Reg.ntsRespPlain

/-- Orders 11–16 for an NTS request whose fields order 10 has accepted (R323). -/
def sealedRequest (n : Nat) (e : Eth) (u : Udp) (rx : Int) (es : List Ext) (uid cookie auth : Ext) : State :=
  let (ok, t) := s.takeToken (s.bucketOf u)
  if !ok then t.countSat Reg.ntsDropRate
  else if t.ntsFull then t.countSat Reg.ntsDropOverload
  else match t.openCookie (cookie.2.1.drop 4) with
    | none => t.ntsn n e u rx uid.2.1 Reg.ntsRejCookie
    | some (c2s, s2c) =>
      let (nn, ct) := authParts auth.2.1
      match Config.sivOpen c2s [u.payload.take auth.2.2, nn] ct with
      | none => t.ntsn n e u rx uid.2.1 Reg.ntsRejAuth
      | some inner => t.ntsAnswer n e u rx uid.2.1 es ((exts inner.length 0 inner).getD []) c2s s2c

/-- Order 10: exactly one of each field, a body of at least 32 octets, and nothing after the authenticator (R323). -/
def fieldsOf (es : List Ext) : Option (Ext × Ext × Ext) :=
  match ofExt typeUid es, ofExt typeCookie es, ofExt typeAuth es with
  | [a], [b], [c] => if 36 ≤ a.2.1.length ∧ (es.getLast?.map (·.1)) = some typeAuth then some (a, b, c) else none
  | _, _, _ => none

/-- The checks of R323 in order, on a datagram that is the responder's. -/
def ntsRequest (n : Nat) (e : Eth) (u : Udp) (rx : Int) : State :=
  let p := u.payload
  if !s.mayTransmit then s.ntsDrop Reg.ntsDropSilent
  else if 1024 < p.length ∨ p.length < 48 then s.ntsDrop Reg.ntsDropLen
  else if beAt p 0 1 / 8 % 8 ≠ 3 ∧ beAt p 0 1 / 8 % 8 ≠ 4 then s.ntsDrop Reg.ntsDropVer
  else if beAt p 0 1 % 8 ≠ 3 then s.ntsDrop Reg.ntsDropMode
  else match exts p.length 48 (p.drop 48) with
    | none => s.ntsDrop Reg.ntsDropFormat
    | some es =>
      if (ofExt typeCookie es).isEmpty && (ofExt typeAuth es).isEmpty then
        let s := s.countSat Reg.ntsReqPlain
        if !s.on Reg.ntsCtrl Fld.ntsCtrl_PLAIN then s.ntsDrop Reg.ntsDropPlainOff else s.plainRequest n e u rx
      else
        let s := s.countSat Reg.ntsReqNts
        if s.faultLatched 21 then s
        else if p.length < 232 then s.ntsDrop Reg.ntsDropLen
        else match fieldsOf es with
          | none => s.ntsDrop Reg.ntsDropFormat
          | some (a, b, c) => s.sealedRequest n e u rx es a b c

/-- The interrupts at the end of a second (R337). -/
def ntsSecond : State :=
  let rate := s.rdn Reg.ntsDropRate + s.rdn Reg.ntsDropOverload
  let rej := s.rdn Reg.ntsRejCookie + s.rdn Reg.ntsRejAuth + s.rdn Reg.ntsDropFormat
  let lr := s.fld Reg.ntsEvtLevel ⟨0, 16⟩
  let lj := s.fld Reg.ntsEvtLevel ⟨16, 16⟩
  let s1 := s.raiseIrqIf (lr != 0 && lr ≤ rate - s.nts.rateLast) 26
  (s1.raiseIrqIf (lj != 0 && lj ≤ rej - s.nts.rejLast) 27).setNts fun x => { x with rateLast := rate, rejLast := rej }

/-- The counters clear at a block reset of NTS, and nothing else (R349). -/
def ntsReset : State :=
  let t := (List.range 16).foldl (fun t k => t.wr (Reg.ntsReqNts + 4 * k) 0) s
  t.setNts fun x => { x with rateLast := 0, rejLast := 0 }

/-- NTS_STATUS: SILENT, RUNNING, AEAD_FAIL (R351). -/
def ntsShow : State :=
  let run := s.ntsEnabled
  ((s.put Reg.ntsStatus Fld.ntsStatus_SILENT (!s.mayTransmit).toNat).put Reg.ntsStatus Fld.ntsStatus_RUNNING
    (run && s.mayTransmit).toNat).put Reg.ntsStatus Fld.ntsStatus_AEAD_FAIL (s.faultLatched 21).toNat

end State

/-! ### The rows -/

/-- NTS_REQUEST_RX (R322, R323): a frame that R322 gives to the responder is checked in order; any other is not the responder's. -/
def execNtsRequestRx (n : Fin 4) (frame : List Byte) (back : BitVec 32) (s : State) : Res :=
  let e := parseEth frame
  done (match parseUdp e with
  | some u => if s.ntsTakes n e u then s.ntsRequest n e u (s.rxStamp n 0 back.toNat) else s
  | none => s)

/-- NTS_RESPONSE_TX (R334): at or after T_tx the oldest response of the port is offered to it and counts, or is discarded and counts in LATE. -/
def execNtsResponseTx (n : Fin 4) (late : Bool) (s : State) : Res :=
  done (match s.nts.queue.find? (·.port == n.val) with
  | none => s
  | some r =>
    if s.fullTicks 0 < r.due then s
    else
    let t := s.setNts fun x => { x with queue := x.queue.eraseP (·.port == n.val) }
    if late then t.countSat Reg.ntsLate
    else (if r.cnt = 0 then t else t.countSat r.cnt).offerFrame n { src := 2, octets := r.frame })

/-- NTS_MINT (R329): ignored while BUSY; COUNT cookies are sealed under CURRENT. -/
def execNtsMint (count : Fin 8) (s : State) : Res :=
  done (if s.bit Reg.ntsMintStatus 3 then s
  else
    let key (k : Nat) : BitVec 256 :=
      BitVec.ofNat 256 ((List.range 8).foldl (fun a i => a * 2 ^ 32 + (s.nts.mintKey.get 0 (k + i)).toNat) 0)
    let st := (s.put Reg.ntsMintStatus ⟨3, 1⟩ 1).put Reg.ntsMintStatus ⟨4, 4⟩ (count + 1)
    match s.keys.cur with
    | some m =>
      let (cs, t) := State.mintCookies m (key 0) (key 8) (count + 1) st
      t.setNts fun x => { x with minting := cs.flatten }
    | none => st.setNts fun x => { x with minting := [] })

/-- NTS_MINT_DONE (R329, R344): the cookies are in the window, the mint keys are erased and RESULT is set. -/
def execNtsMintDone (s : State) : Res :=
  done (if !s.bit Reg.ntsMintStatus 3 then s
  else
    let r := if s.faultLatched 21 then 3 else if s.nts.minting.isEmpty then 2 else 1
    let t := (s.put Reg.ntsMintStatus ⟨3, 1⟩ 0).put Reg.ntsMintStatus ⟨0, 3⟩ r
    t.setNts fun x => { x with mintKey := [], minting := [], window := if r = 1 then SMap.ofList 0 0 x.minting else x.window })

end Sys2Proof.Machine
end

