-- ==== Sys2Proof/Machine/Ptp.lean ====
section
/-!
DEFINITION. The PTP engine (R291–R318): profiles, port states, foreign masters, messages, authentication, unicast grants, following,
published quality and the timestamp log.
-/

namespace Sys2Proof.Machine

/-! ### Messages -/

/-- The header of a PTP message (IEEE 1588), as far as the engine uses it. -/
structure PtpHdr where
  type : Nat
  dom : Nat
  flags : Nat
  corr : Int
  src : Nat
  seq : Nat
  log : Int
  len : Nat
deriving DecidableEq, Repr

/-- Read a message's header. -/
def ptpHdr (m : List Byte) : PtpHdr :=
  ⟨beAt m 0 1 % 16, beAt m 4 1, beAt m 6 2, sgn 64 (beAt m 8 8), beAt m 20 10, beAt m 30 2, sgn 8 (beAt m 33 1), beAt m 2 2⟩

/-- The length of a message's fixed part by its type. -/
def ptpFixed : Nat → Nat
  | 0 | 1 | 8 | 12 => 44
  | 2 | 3 | 9 | 10 => 54
  | 11 => 64
  | _ => 48

/-- The TLVs of a message from an offset: type, offset, length of the value. -/
def ptpTlvs : Nat → Nat → List Byte → List (Nat × Nat × Nat)
  | 0, _, _ => []
  | fuel + 1, off, m =>
    if m.length < off + 4 then []
    else
      let len := beAt m (off + 2) 2
      (beAt m off 2, off, len) :: ptpTlvs fuel (off + 4 + len) m

/-- The TLVs of a message within its messageLength. -/
def tlvsOf (m : List Byte) : List (Nat × Nat × Nat) :=
  let h := ptpHdr m
  ptpTlvs 64 (ptpFixed h.type) (m.take h.len)

/-- A PTP timestamp (48 bits of seconds, 32 of nanoseconds) in full ticks. -/
def ptpTime (b : List Byte) (o : Nat) : Int := (beAt b o 6 * 1000000000 + beAt b (o + 6) 4) * 65536

/-- A time in full ticks as a PTP timestamp, the fraction dropped. -/
def toPtpTime (t : Int) : List Byte :=
  beBytes 6 (t / secondTicks).toNat ++ beBytes 4 ((t % secondTicks) / 65536).toNat

/-- The fraction of a ns of a time in full ticks (FRACNS, R300). -/
def fracOf (t : Int) : Int := t % 65536

/-- Big-endian octets of a signed number. -/
def beBytesI (n : Nat) (i : Int) : List Byte := beBytes n (uns (8 * n) i)

/-- The comparison key of a dataset (IEEE 1588 clause 9.3.4): lower is better. -/
def dsKey (prio1 cls acc oslv prio2 gm : Nat) : Nat :=
  ((((prio1 * 256 + cls) * 256 + acc) * 65536 + oslv) * 256 + prio2) * 2 ^ 64 + gm

/-- The comparison key of a foreign master. -/
def Foreign.key (f : Foreign) : Nat := dsKey f.prio1 f.cls f.acc f.oslv f.prio2 f.gmId

/-- Foreign master `a` is better than `b` (R297, R316): of the two units of a divided pair the higher claim; else by dataset, then by steps removed, then
by identity. -/
def Foreign.better (a b : Foreign) : Bool :=
  if a.claim ≠ 0 ∧ b.claim ≠ 0 ∧ a.claim ≠ b.claim ∧ a.src / 65536 = (b.src / 65536) ^^^ 1 then decide (b.claim < a.claim)
  else if a.gmId = b.gmId then a.steps < b.steps || (a.steps == b.steps && a.src < b.src)
  else a.key < b.key

/-- The best of a list of foreign masters. -/
def bestForeign : List Foreign → Option Foreign
  | [] => none
  | f :: fs => match bestForeign fs with
    | none => some f
    | some g => if g.better f then some g else some f

/-- The clockAccuracy code of a bound in 0.25 ns (R304). -/
def accuracyOf (bound : Nat) : Nat :=
  let table := [(4, 0x1D), (10, 0x1E), (40, 0x1F), (100, 0x20), (400, 0x21), (1000, 0x22), (4000, 0x23), (10000, 0x24),
    (40000, 0x25), (100000, 0x26), (400000, 0x27), (1000000, 0x28), (4000000, 0x29), (10000000, 0x2A), (40000000, 0x2B),
    (100000000, 0x2C), (400000000, 0x2D), (1000000000, 0x2E), (4000000000, 0x2F)]
  match table.find? fun e => bound ≤ e.1 with
  | some e => e.2
  | none => 0x30

namespace State

variable (s : State)

/-- Change the engine. -/
def setPtp (f : PtpSt → PtpSt) : State := { s with ptp := f s.ptp }

/-- Port `n` of the engine. -/
def pport (n : Nat) : PtpPort := s.ptp.ports.get {} n

/-- Change port `n` of the engine. -/
def setPport (n : Nat) (f : PtpPort → PtpPort) : State :=
  s.setPtp fun p => { p with ports := p.ports.set {} n (f (p.ports.get {} n)) }

/-- PTP_CLOCK_ID. -/
def clockId : Nat := s.rd64 Reg.ptpClockIdLo

/-- The engine is enabled (R295). -/
def ptpOn : Bool := s.bit Reg.ptpCtrl 0 && s.clockId != 0

/-- The profile of port `n`; 5–7 act as 0 (R291). -/
def profile (n : Nat) : Nat :=
  let p := s.fld (Reg.ptpMCfg n) Fld.ptpMCfg_PROFILE
  if 4 < p then 0 else p

/-- A P2P profile. -/
def p2p (n : Nat) : Bool := s.profile n == 1 || s.profile n == 2

/-- The transport of port `n`; 3 acts as 0 (R292). -/
def transport (n : Nat) : Nat := s.fld (Reg.ptpMCfg n) Fld.ptpMCfg_TRANSPORT % 3

/-- The role of port `n`; 3 acts as OFF (R321). -/
def role (n : Nat) : Nat := s.fld (Reg.ptpMCfg n) Fld.ptpMCfg_ROLE % 3

/-- The domains of M and S. -/
def domM (n : Nat) : Nat := s.fld (Reg.ptpMCfg n) Fld.ptpMCfg_DOMAIN
/-- The follower's domain. -/
def domS (n : Nat) : Nat := s.fld (Reg.ptpSCfg n) Fld.ptpSCfg_DOMAIN

/-- The follower's target time base. -/
def tbS (n : Nat) : Nat := s.fld (Reg.ptpSCfg n) Fld.ptpSCfg_TB

/-- The follower is enabled. -/
def followOn (n : Nat) : Bool := s.ptpOn && s.on (Reg.ptpSCfg n) Fld.ptpSCfg_ENABLE

/-- The state of M on port `n`: 0 DISABLED, 1 LISTENING, 2 MASTER, 3 SLAVE, 4 PASSIVE, 5 SILENT (R320). -/
def mState (n : Nat) : Nat := s.rdn (Reg.ptpMState n) % 8

/-- The port may run PTP: engine and port enabled, role not OFF, the line port UP (R296). -/
def mOn (n : Nat) : Bool :=
  s.ptpOn && s.on (Reg.ptpMCfg n) Fld.ptpMCfg_ENABLE && s.role n != 0 && s.lineUp n

/-- Set a bit of PTP_EVENTS: interrupt 23 when it becomes set while enabled (R318). -/
def ptpEvent (b : Nat) : State :=
  if s.bit Reg.ptpEvents b then s
  else (s.putBit Reg.ptpEvents b true).raiseIrqIf (s.bit Reg.ptpEventsEn b) 23

/-! ### The unicast table (R309–R311) -/

/-- Entry `i`. -/
def ucEntry (i : Nat) : UcEntry := s.ptp.uc.get {} i

/-- An entry is in use. -/
def ucUsed (e : UcEntry) : Bool := e.ann.isSome || e.sync.isSome || e.dresp.isSome

/-- Sixteenths of a message per second at a signed log2 interval. -/
def rate16 (log : Int) : Nat := if log ≤ 0 then 16 * 2 ^ (-log).toNat else 16 / 2 ^ log.toNat

/-- The granted Sync rate in sixteenths, over all entries. -/
def syncRate16 : Nat := s.ptp.uc.foldl (fun a e => a + (match e.2.sync with | some g => rate16 g.log | none => 0)) 0

/-- Show PTP_UC_STATUS and PTP_UC_RATE. -/
def ucShow : State := (s.wrn Reg.ptpUcStatus s.ptp.uc.length).wrn Reg.ptpUcRate (s.syncRate16 / 16 % 2 ^ 20)

/-- Store entry `i`; a new or removed entry sets PTP_EVENTS.UC (R309). -/
def setUc (i : Nat) (e : UcEntry) : State :=
  let was := ucUsed (s.ucEntry i)
  let e' := if ucUsed e then e else {}
  let t := (s.setPtp fun p => { p with uc := p.uc.set {} i e' }).ucShow
  if was != ucUsed e then t.ptpEvent 0 else t

/-- Remove every grant of port `n` (R310). -/
def ucDropPort (n : Nat) : State :=
  let gone := s.ptp.uc.any fun e => e.2.port == n
  let t := (s.setPtp fun p => { p with uc := p.uc.filter fun e => e.2.port != n }).ucShow
  if gone then t.ptpEvent 0 else t

/-! ### Published quality (R303–R305) -/

/-- Interrupt 24 once a change has left every MASTER port, or at once with none (R305). -/
def pubCheck : State :=
  if s.ptp.pubChange && (List.range 4).all (fun n => !(s.mState n == 2 && (s.pport n).pubWait)) then
    (s.setPtp fun p => { p with pubChange := false }).raiseIrq 24
  else s

/-! ### Port states (R296, R297) -/

/-- The portNumber of S on port `n` (R295). -/
def portS (n : Nat) : Nat := 0x11 + n + 0x10 * s.unitSel

/-- The unit announces itself as the divided unit 1 (R316). -/
def divided : Bool := s.pairMode && s.bothFailed && s.unitSel == 1

/-- The sourcePortIdentity of M or S on port `n`. -/
def identity (n : Nat) (follower : Bool) : Nat :=
  if follower then s.clockId * 65536 + s.portS n
  else (if s.divided then s.clockId ^^^ 1 else s.clockId) * 65536 + n + 1

/-- The dataset that port `n` announces itself (R303, R316). -/
def ownSet (n : Nat) : Foreign :=
  let p := s.ptp.pub
  { prio1 := p.prio1, cls := p.cls, acc := p.acc, oslv := p.oslv,
    prio2 := if !p.bc && s.divided then s.rdn Reg.ptpDs % 256 else p.prio2,
    gmId := if p.bc then p.gmId else s.identity n false / 65536, steps := p.steps, src := s.identity n false }

/-- The best qualified foreign master of a domain on port `n`. -/
def bestIn (n dom : Nat) : Option Foreign := bestForeign ((s.pport n).foreign.filter fun f => f.dom == dom && f.qualified)

/-- The decision of R297 on port `n`: true is MASTER. -/
def decidesMaster (n : Nat) : Bool :=
  match s.bestIn n (s.domM n) with
  | some f => (s.ownSet n).better f
  | none => true

/-- A reply of a kind may be sent in a state of M (R298): peer delay except in DISABLED and SILENT, the others in MASTER. -/
def repliesIn (kind st : Nat) : Bool := if kind = 3 ∨ kind = 10 then st != 0 && st != 5 else st == 2

/-- Enter a state of M: PTP_EVENTS.STATE, replies that the state does not send are discarded, and the grants of a port that becomes PASSIVE, SLAVE or DISABLED by ROLE go (R310). -/
def setMState (n st : Nat) : State :=
  if s.mState n = st then s
  else
    let t := (s.put (Reg.ptpMState n) ⟨0, 3⟩ st).ptpEvent (8 + n)
    let t := if st = 3 ∨ st = 4 then t.ucDropPort n else t
    let t := t.setPport n fun p =>
      { p with replies := p.replies.filter fun r => repliesIn r.kind st, listenFrom := if st = 1 then s.monitorNow else p.listenFrom }
    t.pubCheck

/-- The state of R296 that follows from the present conditions. -/
def mNext (n : Nat) : Nat :=
  let st := s.mState n
  let sel := s.selId == 12 + n && s.domM n == s.domS n
  let rises := sel && !(s.pport n).selWas
  let decision := if s.decidesMaster n then 2 else 4
  if !s.mOn n then 0
  else if st = 0 then (if s.role n = 1 then 2 else 1)
  else if st = 5 then (if s.mayTransmit then (s.pport n).prior else 5)
  else if st ≠ 1 ∧ !s.mayTransmit then 5
  else if st ≠ 3 ∧ rises then 3
  else if st = 3 then (if sel then (if s.role n = 2 && decision = 2 && (s.bestIn n (s.domM n)).isSome then 2 else 3) else decision)
  else if s.role n = 1 then 2
  else if st = 1 then (if (s.bestIn n (s.domM n)).isSome && decision = 4 then 4 else 1)
  else decision

/-- Judge the state of M on port `n` (R296). -/
def mJudge (n : Nat) : State :=
  let st := s.mState n
  let nx := s.mNext n
  let t := s.setPport n fun p => { p with
    selWas := s.selId == 12 + n && s.domM n == s.domS n,
    prior := if nx = 5 ∧ st ≠ 5 then st else p.prior }
  let t := if s.role n = 0 then t.ucDropPort n else t
  t.setMState n nx

/-- PTP_STATUS: SILENT, ID_MISSING, RUNNING (R319). -/
def ptpShow : State :=
  ((s.putBit Reg.ptpStatus 2 (!s.mayTransmit)).putBit Reg.ptpStatus 1 (s.clockId == 0)).putBit Reg.ptpStatus 0 s.ptpOn

/-- Judge every port. -/
def mJudgeAll : State := (List.range 4).foldl (fun t n => t.mJudge n) s.ptpShow

/-! ### Sending (R292, R298–R307) -/

/-- controlField by message type (IEEE 1588). -/
def controlOf : Nat → Nat
  | 0 => 0
  | 1 => 1
  | 8 => 2
  | 9 => 3
  | _ => 5

/-- A message without authentication: header, body, TLVs. -/
def ptpBuild (n : Nat) (follower : Bool) (type seq dom flags : Nat) (corr log : Int) (body : List Byte) (extra : Nat) : List Byte :=
  beBytes 1 (type + (if s.profile n = 2 then 0x10 else 0)) ++ [0x12] ++ beBytes 2 (34 + body.length + extra) ++ beBytes 1 dom ++ [0] ++
    beBytes 2 flags ++ beBytesI 8 corr ++ beBytes 4 0 ++ beBytes 10 (s.identity n follower) ++ beBytes 2 seq ++
    beBytes 1 (controlOf type) ++ beBytesI 1 log ++ body

/-- The ICV over a message up to the ICV, its correctionField taken as zero (R307). -/
def icv (key : BitVec 256) (m : List Byte) : List Byte :=
  (beBytes 32 (Config.hmac key (m.take 8 ++ List.replicate 8 0 ++ m.drop 16)).toNat).take 16

/-- Add the AUTHENTICATION TLV while AUTH.TX is 1: none without a key enabled for transmit (R307). -/
def ptpSign (n : Nat) (build : Nat → List Byte) : Option (List Byte) :=
  if !s.bit (Reg.ptpAuth n) 1 then some (build 0)
  else
    let slot := s.fld (Reg.ptpAuth n) ⟨16, 4⟩
    match s.keyTx slot, s.ptpKey slot with
    | true, some k =>
      let m := build 26 ++ beBytes 2 0x8009 ++ beBytes 2 22 ++ beBytes 1 (s.fld (Reg.ptpAuth n) ⟨24, 8⟩) ++ [0] ++
        beBytes 4 (s.rdn (Reg.keysPtpId slot))
      some (m ++ icv k m)
    | _, _ => none

/-- The 802.1Q tag of port `n` (R292). -/
def ptpTag (n : Nat) : Option Nat :=
  let v := s.rdn (Reg.ptpVlan n)
  if v.testBit 16 then some (v % 65536 - v % 8192 + v % 4096) else none

/-- LINE_n_MAC as transmitted, a number with the first octet highest. -/
def lineMac (n : Nat) : Nat := beNat (leBytes 6 (s.rd64 (Reg.lineMacLo n) % 2 ^ 48))

/-- PTP_n_IPV6 as a number. -/
def ptpV6 (n : Nat) : Nat := (List.range 4).foldl (fun a k => a * 2 ^ 32 + s.rdn (Reg.ptpIpv6 n k)) 0

/-- The frame that carries a message (R292): to a unicast destination (kind, address, MAC) or to the group of its kind. -/
def ptpFrame (n type : Nat) (m : List Byte) (dst : Option (Nat × Nat × Nat)) : List Byte :=
  let peer := type = 2 ∨ type = 3 ∨ type = 10
  let port := if type < 8 then 319 else 320
  match dst with
  | some (kind, addr, mac) =>
    if kind = 0 then buildEth mac (s.lineMac n) (s.ptpTag n) 0x88F7 m
    else
      let v6 := kind == 2
      buildUdpFrame mac (s.lineMac n) (s.ptpTag n)
        ⟨v6, if v6 then s.ptpV6 n else s.rdn (Reg.ptpIpv4 n), addr, 64, port, port, m, true⟩ v6 0
  | none =>
    match s.transport n with
    | 1 =>
      let g := if peer then 0xE000006B else 0xE0000181
      buildUdpFrame (groupMac false g) (s.lineMac n) (s.ptpTag n) ⟨false, s.rdn (Reg.ptpIpv4 n), g, if peer then 1 else 64, port, port, m, true⟩
        false 0
    | 2 =>
      let g := if peer then 0xFF02 * 2 ^ 112 + 0x6B else 0xFF0E * 2 ^ 112 + 0x181
      buildUdpFrame (groupMac true g) (s.lineMac n) (s.ptpTag n) ⟨true, s.ptpV6 n, g, if peer then 1 else 64, port, port, m, true⟩ true 0
    | _ => buildEth (if peer ∨ s.profile n = 2 then 0x0180C200000E else 0x011B19000000) (s.lineMac n) (s.ptpTag n) 0x88F7 m

/-- Write a record of an event message to the TS FIFO (R317). -/
def tsRecord (n : Nat) (tx follower : Bool) (type seq : Nat) (stamp : Int) : State :=
  if type < 4 && s.bit Reg.ptpTsCtrl (12 + n) then
    let t := uns 64 stamp
    let w0 := n * 16384 + tx.toNat * 8192 + follower.toNat * 4096 + type * 256
    let r := Fifo.push 4096 s.ptp.ts [BitVec.ofNat 32 w0, BitVec.ofNat 32 (seq * 65536), BitVec.ofNat 32 t, BitVec.ofNat 32 (t / 2 ^ 32)]
    let rise := Fifo.crosses (s.rdn Reg.ptpTsCtrl % 4096) s.ptp.ts.entries.length r.1.entries.length
    let t := (s.setPtp fun p => { p with ts := r.1 }).wrn Reg.ptpTsStatus r.1.entries.length
    if r.2 then t.raiseFault 40 1 else t.raiseIrqIf rise 22
  else s

/-- Offer a signed message to the port; whether it was offered (R307, R276, R277). -/
def ptpOffer (n type : Nat) (build : Nat → List Byte) (dst : Option (Nat × Nat × Nat)) : State × Bool :=
  match s.ptpSign n build with
  | none => (s.countSat (Reg.ptpAuthNokey n), false)
  | some m =>
    let t := s.offerFrame n { src := 1, octets := s.ptpFrame n type m dst, tag := type + 1 }
    if s.lineUp n && !s.on (Reg.lineStatus n) Fld.lineStatus_PAUSED then (t.countSat (Reg.ptpTxMsg n), true) else (t, false)

/-- The next sequenceId of the multicast stream of a type on port `n`. -/
def nextSeq (n type : Nat) : Nat × State :=
  let q := (s.pport n).seqs.get 0 type
  (q, s.setPport n fun p => { p with seqs := p.seqs.set 0 type ((q + 1) % 65536) })

/-- One-step operation (R300). -/
def oneStep (n : Nat) : Bool :=
  !s.on (Reg.ptpMCfg n) Fld.ptpMCfg_TWO_STEP && s.transport n != 2 && !s.bit (Reg.ptpAuth n) 1 && s.profile n != 2

/-- M on port `n` may send Announce and Sync: MASTER with the claim, and asCapable in profile 2 (R301). -/
def mSends (n : Nat) : Bool := s.mState n == 2 && s.mayTransmit && (s.profile n != 2 || s.bit (Reg.ptpMState n) 8)

/-- A signed log2 interval of PTP_n_M_INTV at bit `lo`, clamped (R291). -/
def intv (n lo : Nat) (a b : Int) : Int := max a (min b (sgn 8 (s.rdn (Reg.ptpMIntv n) / 2 ^ lo % 256)))

/-- The Announce, Sync and delay-request intervals of port `n`. -/
def annLog (n : Nat) : Int := s.intv n 24 (-3) 4
/-- The Sync interval. -/
def syncLog (n : Nat) : Int := s.intv n 16 (-7) 1
/-- The delay-request interval. -/
def delayLog (n : Nat) : Int := s.intv n 8 (-7) 5

/-- The flag octets of an Announce (R303). -/
def annFlags : Nat :=
  let p := s.ptp.pub
  (if p.pending = 1 then 1 else 0) + (if p.pending = 2 then 2 else 0) + (if p.utc.testBit 16 then 4 else 0) + 8 + p.trace * 16

/-- The bound TLV (R306). -/
def boundTlv : List Byte :=
  let org := s.rdn Reg.ptpOrg / 256
  let st := Reg.ledgerStatus
  beBytes 2 3 ++ beBytes 2 50 ++ beBytes 3 org ++ beBytes 3 (s.rdn Reg.ptpOrgSub % 2 ^ 24) ++ [1] ++
    beBytes 1 (s.fld st Fld.ledgerStatus_SATURATED * 4 + s.fld st Fld.ledgerStatus_OVER_LIMIT * 2 + s.fld st Fld.ledgerStatus_UNTRACEABLE) ++
    beBytes 1 s.holdState ++ beBytes 1 (s.fld Reg.ledgerTrace Fld.ledgerTrace_ANCHOR_ID) ++ beBytes 4 (s.rdn Reg.ledgerBound) ++
    (List.range 8).flatMap (fun k => beBytes 4 (s.rdn (Reg.ledgerRef + 4 * k))) ++
    beBytes 2 (s.fld st Fld.ledgerStatus_SEQ) ++ beBytes 2 s.claim

/-- The body of an Announce of port `n` (R303, R306). -/
def annBody (n : Nat) : List Byte :=
  let p := s.ptp.pub
  let o := s.ownSet n
  List.replicate 10 0 ++ beBytes 2 (p.utc % 65536) ++ [0] ++ beBytes 1 o.prio1 ++ beBytes 1 o.cls ++ beBytes 1 o.acc ++ beBytes 2 o.oslv ++
    beBytes 1 o.prio2 ++ beBytes 8 o.gmId ++ beBytes 2 o.steps ++ beBytes 1 p.tsrc ++
    (if s.on (Reg.ptpMCfg n) Fld.ptpMCfg_BOUND_TLV && s.rdn Reg.ptpOrg / 256 != 0 then s.boundTlv else [])

/-- The unicast destination of an entry. -/
def dstOf (e : UcEntry) : Nat × Nat × Nat := (e.kind, e.addr, e.mac)

/-- The Follow_Up information TLV of profile 2 (R301; layout of IEEE 802.1AS). -/
def followInfo : List Byte :=
  beBytes 2 3 ++ beBytes 2 28 ++ [0x00, 0x80, 0xC2] ++ beBytes 3 1 ++ beBytes 4 0 ++ beBytes 2 (s.rdn Reg.ledgerSteps % 65536) ++
    beBytesI 12 (s.rd64i Reg.ledgerLastStepLo) ++ beBytes 4 0

/-! ### Receiving (R293, R308) -/

/-- The first failure of kind `k` in this second sets PTP_EVENTS.AUTH (R308). -/
def authFail (n cnt k : Nat) : State :=
  let t := s.countSat cnt
  if (s.pport n).authSeen.testBit k then t
  else (t.setPport n fun p => { p with authSeen := p.authSeen ||| 2 ^ k }).ptpEvent (12 + n)

/-- Check a message's AUTHENTICATION TLV (R308): none when the message is dropped. -/
def authCheck (n : Nat) (m : List Byte) : Bool × State :=
  let tlvs := tlvsOf m
  match tlvs.find? (·.1 == 0x8009) with
  | none => if s.bit (Reg.ptpAuth n) 2 then (false, s.authFail n (Reg.ptpAuthMissing n) 0) else (true, s)
  | some (_, off, len) =>
    let last := (tlvs.getLast?.map fun t => t.2.1) == some off
    let slot := s.keyFor (beAt m (off + 4) 1) (beAt m (off + 6) 4)
    match last && len == 22, slot.bind s.ptpKey with
    | true, some k =>
      if icv k (m.take (off + 10)) = slice m (off + 10) 16 then (true, s) else (false, s.authFail n (Reg.ptpAuthBad n) 2)
    | _, _ => (false, s.authFail n (Reg.ptpAuthNokey n) 1)

/-- The checks that a message of one of `types` passes before its fields are used (R293, R302, R308): its header when it is accepted. -/
def ptpAccept (m : PtpRx) (types : List Nat) : Option PtpHdr × State :=
  let n := m.port.val
  let h := ptpHdr m.msg
  if !s.ptpOn || !s.lineUp n || !types.contains h.type then (none, s)
  else if m.ovr || m.msg.length < 34 || beAt m.msg 1 1 % 16 != 2 || decide (1 < beAt m.msg 1 1 / 16) || m.sumBad then
    (none, s.countSat (Reg.ptpDrop n))
  else
    let (ok, t) := s.authCheck n m.msg
    if !ok then (none, t)
    else if h.src / 65536 = s.clockId then (none, t.countSat (Reg.ptpDrop n))
    else if !((h.dom == s.domM n && s.on (Reg.ptpMCfg n) Fld.ptpMCfg_ENABLE && s.role n != 0) || (h.dom == s.domS n && s.followOn n)) then
      (none, t.countSat (Reg.ptpNodom n))
    else (some h, t.countSat (Reg.ptpRxMsg n))

/-- The M instance of the port takes the message. -/
def forM (n : Nat) (h : PtpHdr) : Bool := h.dom == s.domM n && s.mOn n

/-- The S instance of the port takes the message: its domain, and with equal domains only while PASSIVE or SLAVE (R312). -/
def forS (n : Nat) (h : PtpHdr) : Bool :=
  h.dom == s.domS n && s.followOn n && (s.domM n != s.domS n || !s.mOn n || s.mState n == 3 || s.mState n == 4)

/-- The receive stamp of a message in TB_0 (R294). -/
def rxM (m : PtpRx) : Int := s.rxStamp m.port 0 m.back.toNat
/-- The receive stamp of a message in the follower's time base (R294). -/
def rxS (m : PtpRx) : Int := s.rxStamp m.port (s.tbS m.port) m.back.toNat

/-- The number of the last instant of a stream at 2^log s, `off` × 2^-48 ns after the whole multiples of its interval in TB_0 (R298, R310); the instant in
2^-48 ns; and whether it lies more than 1 ms back (R299). -/
def lastInstant (log : Int) (off : Nat) : Int × Int × Bool :=
  let i : Nat := if 0 ≤ log then secondFine * 2 ^ log.toNat else secondFine / 2 ^ (-log).toNat
  let k : Int := ((s.tb 0).t - off : Int) / i
  let t : Int := k * i + off
  (k, t, decide (1000000 * 2 ^ 48 < (s.tb 0).t - t))

/-- The offset of the unicast instants of the client in entry `i` (R310). -/
def clientOffset (log : Int) (i : Nat) : Nat :=
  (if 0 ≤ log then secondFine * 2 ^ log.toNat else secondFine / 2 ^ (-log).toNat) * i / 4096

/-- `us` microseconds have elapsed since `t` (R310, R315). -/
def elapsed (t : Int) (us : Nat) : Bool := decide (t + us * usTicks ≤ s.monitorNow)

/-- A reply can no longer leave within 1 ms of its request (R299). -/
def replyLate (r : Reply) : Bool := decide (r.got + 1000 * usTicks < s.monitorNow)

/-! ### Following (R312–R314) -/

/-- The parent of the follower: with S_CFG.UC the master at S_UC_IP, otherwise the best qualified of its domain (R312). -/
def parentOf (n : Nat) : Option Foreign :=
  if s.on (Reg.ptpSCfg n) Fld.ptpSCfg_UC then
    (s.pport n).foreign.find? fun f => f.dom == s.domS n && f.kind == 1 && f.addr == s.rdn (Reg.ptpSUcIp n)
  else s.bestIn n (s.domS n)

/-- The follower is entitled to follow now (R312). -/
def mayFollow (n : Nat) : Bool :=
  s.followOn n && (s.domM n != s.domS n || !s.mOn n || s.mState n == 3 || s.mState n == 4)

/-- Restart the delay window. -/
def windowRestart (n : Nat) : State :=
  (s.setPport n fun p => { p with dwin := [], gated := 0 }).putBit (Reg.ptpSStatus n) 4 false

/-- Show the parent and the follower's state (R320). -/
def followShow (n : Nat) : State :=
  match if s.mayFollow n then s.parentOf n else none with
  | none =>
    let t := s.put (Reg.ptpSStatus n) ⟨0, 2⟩ (if s.followOn n then 1 else 0)
    ((t.putBit (Reg.ptpSStatus n) 8 false).wr64 (Reg.ptpSGmLo n) 0).wr (Reg.ptpSParent n) 0
  | some f =>
    let trace := f.flags.testBit 4
    let ok := s.tbS n != 0 || trace || s.on (Reg.ptpSCfg n) Fld.ptpSCfg_ANY_TRACE
    let t := s.put (Reg.ptpSStatus n) ⟨0, 2⟩ (if ok then 2 else 3)
    ((t.putBit (Reg.ptpSStatus n) 8 trace).wr64 (Reg.ptpSGmLo n) f.gmId).wrn (Reg.ptpSParent n)
      (f.cls * 2 ^ 24 + f.acc * 65536 + f.steps)

/-- Judge the parent: a change sets PTP_EVENTS.PARENT and restarts the delay window (R312). -/
def followJudge (n : Nat) : State :=
  let p := if s.mayFollow n then (s.parentOf n).map (·.src) else none
  let t := if p = (s.pport n).parent then s
    else ((s.setPport n fun x => { x with parent := p, sync := none, fwd := none, dreq := none, dlog := none }).windowRestart n).ptpEvent (16 + n)
  t.followShow n

/-- The message is the parent's. -/
def fromParent (n : Nat) (h : PtpHdr) : Bool := s.forS n h && (s.pport n).parent == some h.src

/-- A value of d (R313, R314): the gate, the window, D and HAVE_D. -/
def delaySample (n : Nat) (d : Int) : State :=
  let w := (s.pport n).dwin
  let gate := s.fld (Reg.ptpSCfg n) Fld.ptpSCfg_DLY_GATE
  if gate ≠ 0 ∧ w ≠ [] ∧ median w + gate * 65536 < d then
    let t := s.countSat (Reg.ptpSGated n)
    if 15 ≤ (s.pport n).gated then t.windowRestart n else t.setPport n fun p => { p with gated := p.gated + 1 }
  else
    let w' := (d :: w).take (s.fld (Reg.ptpSCfg n) Fld.ptpSCfg_DLY_WIN + 1)
    (((s.setPport n fun p => { p with dwin := w', gated := 0 }).putBit (Reg.ptpSStatus n) 4 true).wriSat (Reg.ptpSDelay n) (median w'))

/-- OFS_UNC of reference 12 + n in 0.25 ns (R314). -/
def ofsUnc (n : Nat) : Nat :=
  let w := (s.pport n).dwin
  let hi := w.foldl max (w.headD 0)
  let lo := w.foldl min (w.headD 0)
  s.rdn (Reg.ptpSUncBase n) + ((hi - lo).toNat + 32767) / 32768

/-- A Sync is complete (R313): its forward time, and the offset when D exists, committed to its target (R312, R313). -/
def syncDone (n : Nat) (t1 t2 c : Int) : State :=
  let s1 := s.setPport n fun p => { p with fwd := some (t2 - t1 - c), sync := none, syncOld := false }
  let w := (s.pport n).dwin
  if w = [] then s1
  else
    let ofs := t1 + c + median w + s.rdi (Reg.ptpSAsym n) - t2
    let time := uns 64 t2
    let k := s.tbS n
    let trace := match s.parentOf n with | some f => f.flags.testBit 4 | none => false
    if k = 0 then
      if trace || s.on (Reg.ptpSCfg n) Fld.ptpSCfg_ANY_TRACE then
        (s1.ofsFromHardware (12 + n) ofs time (s.ofsUnc n)).incWrap (Reg.ptpSStatus n) ⟨16, 16⟩
      else s1
    else
      let s2 := s1.incWrap (Reg.ptpSStatus n) ⟨16, 16⟩
      if s.tbSrc k = 1 + n then s2.servoUpdate k ofs time else s2

/-- A step of time base `k`: a Sync of each follower of `k` that waits was received before it (R314). -/
def ptpStepped (k : Nat) : State :=
  (List.range 4).foldl (fun t n => if t.tbS n == k && (t.pport n).sync.isSome then t.setPport n fun p => { p with syncOld := true } else t) s

/-! ### Link delay (R301) -/

/-- A Pdelay exchange of port `n` was good or not: asCapable after three of a kind in a row (R301). -/
def pdResult (n : Nat) (good : Bool) : State :=
  let g := if good then (s.pport n).pdGood + 1 else 0
  let b := if good then 0 else (s.pport n).pdBad + 1
  let t := s.setPport n fun p => { p with pdGood := min g 3, pdBad := min b 3 }
  if 3 ≤ g then t.putBit (Reg.ptpMState n) 8 true
  else if 3 ≤ b then t.putBit (Reg.ptpMState n) 8 false
  else t

/-- The link delay of an exchange is `d` ticks (R301, R313). -/
def linkDelay (n : Nat) (d : Int) : State :=
  let s1 := s.wrnSat (Reg.ptpLinkDelay n) d.toNat
  let s2 := s1.pdResult n (d ≤ (s.rdn (Reg.ptpPdthr n) % 65536) * 65536)
  if s.p2p n && s.followOn n then s2.delaySample n d else s2

/-- An exchange is complete: t1, t4 by this port, t3 − t2 with corrections by the neighbour, and t3 for the neighbour rate ratio. -/
def pdDone (n : Nat) (t1 t4 turn c : Int) (t3 : Option Int) : State :=
  let p := s.pport n
  let nrr := match t3, p.pdLast with
    | some b, some (a, o) => if o < t4 then (b - a - (t4 - o)) * 2 ^ 41 / (t4 - o) else p.nrr
    | _, _ => p.nrr
  let d := ((t4 - t1) + (t4 - t1) * nrr / 2 ^ 41 - turn - c) / 2
  let last : Option (Int × Int) := (t3.map fun b => (b, t4)).or p.pdLast
  let s1 := s.setPport n fun p => { p with nrr := nrr, pdOpen := none, pdResp := none, pdLast := last }
  s1.linkDelay n d

/-! ### Unicast (R309, R315) -/

/-- The grant of kind 0 Announce, 1 Sync, 2 Delay_Resp in an entry. -/
def grantOf (e : UcEntry) (k : Nat) : Option Grant := if k = 0 then e.ann else if k = 1 then e.sync else e.dresp

/-- Put a grant into an entry. -/
def putGrant (e : UcEntry) (k : Nat) (g : Option Grant) : UcEntry :=
  if k = 0 then { e with ann := g } else if k = 1 then { e with sync := g } else { e with dresp := g }

/-- The kind of a messageType: Announce 11, Sync 0, Delay_Resp 9. -/
def kindOf (type : Nat) : Option Nat := if type = 11 then some 0 else if type = 0 then some 1 else if type = 9 then some 2 else none

/-- The entry of a client (port, identity, address). -/
def ucFind (n src kind addr : Nat) : Option Nat :=
  (s.ptp.uc.find? fun e => e.2.port == n && e.2.src == src && e.2.kind == kind && e.2.addr == addr).map (·.1)

/-- The lowest free entry. -/
def ucFree : Option Nat :=
  if 4096 ≤ s.ptp.uc.length then none
  else (List.range (s.ptp.uc.length + 1)).find? fun i => !(s.ptp.uc.any (·.1 == i))

/-- Count a denial and set PTP_EVENTS.DENY (R309); `lo` is the counter's place in PTP_UC_DENY. -/
def ucDeny (lo : Nat) : State := (s.incSat Reg.ptpUcDeny ⟨lo, 8⟩).ptpEvent 1

/-- Decide one REQUEST_UNICAST_TRANSMISSION TLV (R309): the granted duration and the state after. -/
def ucDecide (n src kind addr mac type : Nat) (log : Int) (dur : Nat) : Nat × State :=
  let pol := s.rdn Reg.ptpUcPolicy
  match kindOf type with
  | none => (0, s.ucDeny 0)
  | some k =>
    let minLog := sgn 4 (pol / 2 ^ (8 - 4 * k) % 16)
    if log < minLog then (0, s.ucDeny 8)
    else match (s.ucFind n src kind addr).or s.ucFree with
      | none => (0, s.ucDeny 24)
      | some i =>
        let e := s.ucEntry i
        let old := match e.sync with | some g => rate16 g.log | none => 0
        if k = 1 ∧ (s.rdn Reg.ptpUcBudget % 2 ^ 20) * 16 < s.syncRate16 - old + rate16 log then (0, s.ucDeny 16)
        else
          let d := max 10 (min (max 10 (pol / 65536)) dur)
          let was := (grantOf e k).getD {}
          let g : Grant := { was with log := log, upto := s.monitorNow + d * 1000000 * usTicks }
          (d, s.setUc i (putGrant { e with port := n, src := src, kind := kind, addr := addr, mac := mac } k (some g)))

/-- Answer the request TLVs of a Signaling message in order: the reply's TLVs (R309). -/
def ucAnswer (n src kind addr mac : Nat) (m : List Byte) : List (Nat × Nat × Nat) → State → List Byte × State
  | [], t => ([], t)
  | (ty, off, _) :: r, t =>
    if ty = 4 then
      let type := beAt m (off + 4) 1 / 16
      let (d, t) := t.ucDecide n src kind addr mac type (sgn 8 (beAt m (off + 5) 1)) (beAt m (off + 6) 4)
      let (bs, t) := ucAnswer n src kind addr mac m r t
      (beBytes 2 5 ++ beBytes 2 8 ++ slice m (off + 4) 2 ++ beBytes 4 d ++ [0, 1] ++ bs, t)
    else ucAnswer n src kind addr mac m r t

/-- Send a Signaling message with TLVs (R298). -/
def signal (n : Nat) (follower : Bool) (dom target : Nat) (tlvs : List Byte) (dst : Option (Nat × Nat × Nat)) : State :=
  let (q, t) := s.nextSeq n (if follower then 28 else 12)
  (t.ptpOffer n 12 (fun x => s.ptpBuild n follower 12 q dom 0x0400 0 0x7F (beBytes 10 target ++ tlvs) (x)) dst).1

/-- The Signaling message by which a unicast follower asks for Announce, Sync and Delay_Resp for 60 s each (R315).  The master's MAC is a
free value until a message of the master has shown it: the spec gives no register for it. -/
def ucAsk (n : Nat) : State :=
  let (mac, s1) : Nat × State := match (s.pport n).foreign.find? fun f => f.kind == 1 && f.addr == s.rdn (Reg.ptpSUcIp n) with
    | some f => (f.mac, s)
    | none => ((s.fresh 48).1.toNat, (s.fresh 48).2)
  let tlv (type : Nat) (log : Int) : List Byte := beBytes 2 4 ++ beBytes 2 6 ++ beBytes 1 (type * 16) ++ beBytesI 1 log ++ beBytes 4 60
  let s2 := s1.setPport n fun p => { p with ucAsked := some s.monitorNow, ucRetry := none }
  s2.signal n true (s.domS n) (2 ^ 80 - 1) (tlv 11 (s.annLog n) ++ tlv 0 (s.syncLog n) ++ tlv 9 (s.delayLog n))
    (some (1, s.rdn (Reg.ptpSUcIp n), mac))

/-- A denial or no reply (R315): retried after 10 s, PTP_EVENTS.PARENT. -/
def ucRefused (n : Nat) : State :=
  (s.setPport n fun p => { p with ucAsked := none, ucRetry := some (s.monitorNow + 10000000 * usTicks) }).ptpEvent (16 + n)

/-! ### Published quality (R303) and the second -/

/-- timeSource of the selected reference; 0xA0 with none (R303). -/
def timeSource : Nat :=
  match s.selected with
  | some k => s.rdn (Reg.ptpTsrc0 + 4 * (k / 4)) / 2 ^ (8 * (k % 4)) % 256
  | none => 0xA0

/-- The values to publish (R303, R331). -/
def published : Published :=
  let order := s.classOrder
  let st := Reg.ledgerStatus
  let un := s.on st Fld.ledgerStatus_UNTRACEABLE
  let bound := s.rdn Reg.ledgerBound
  let acc := if un || bound == 0xFFFFFFFF then 0xFE else accuracyOf bound
  let base : Published :=
    { order := order, cls := s.fld Reg.holdStatus Fld.holdStatus_CLASS, acc := acc, pending := s.leapPending, bound := bound,
      flags := s.fld st Fld.ledgerStatus_SATURATED * 4 + s.fld st Fld.ledgerStatus_OVER_LIMIT * 2 + un.toNat,
      hold := s.holdState, anchor := s.fld Reg.ledgerTrace Fld.ledgerTrace_ANCHOR_ID, seq := s.fld st Fld.ledgerStatus_SEQ,
      contrib := (List.range 8).map fun k => s.rdn (Reg.ledgerRef + 4 * k),
      prio1 := s.rdn Reg.ptpDs / 65536 % 256, prio2 := s.rdn Reg.ptpDs / 256 % 256, oslv := s.rdn Reg.ptpOslv % 65536,
      utc := s.rdn Reg.utcOffset, tsrc := s.timeSource, trace := if order = 4 ∨ order = 5 then 3 else 0 }
  let k := s.selId - 12
  let par := if s.bit Reg.ptpCtrl 1 && decide (12 ≤ s.selId) && decide (s.selId < 16) && s.holdState == 2 && !un then s.parentOf k else none
  match par with
  | some f => { base with bc := true, prio1 := f.prio1, cls := f.cls, acc := max f.acc acc, oslv := f.oslv, prio2 := f.prio2,
                          gmId := f.gmId, steps := f.steps + 1, tsrc := f.tsrc, trace := f.flags / 16 % 4 }
  | none => base

/-- Publish (R137 step 6, R303, R305, R331). -/
def publish : State :=
  let p := s.published
  let changed := p.cls != s.rdn Reg.ptpStatus / 256 % 256 || p.acc != s.rdn Reg.ptpStatus / 65536 % 256
  let t := s.setPtp fun x => { x with pub := p }
  let t := (t.put Reg.ptpStatus ⟨8, 8⟩ p.cls).put Reg.ptpStatus ⟨16, 8⟩ p.acc
  let t := (t.put Reg.ntsStatus Fld.ntsStatus_LI t.ntsLeap).put Reg.ntsStatus Fld.ntsStatus_STRATUM t.ntsStratum
  if changed then
    ((List.range 4).foldl (fun u n => u.setPport n fun x => { x with pubWait := u.mState n == 2 }) (t.setPtp fun x => { x with pubChange := true })).pubCheck
  else t

/-- One second of the engine: AUTH reports start again (R308), and states and parents are judged. -/
def ptpSecond : State :=
  (List.range 4).foldl (fun u n => ((u.setPport n fun p => { p with authSeen := 0 }).mJudge n).followJudge n) s.ptpShow

/-- A block reset of PTP (R318, R320): tables and the TS FIFO empty, every state DISABLED, counters clear; each port then restarts. -/
def ptpReset : State :=
  let t := s.setPtp fun p => { p with ports := [], uc := [], ts := p.ts.empty, pubChange := false }
  let t := (List.range 4).foldl (fun u n =>
    let u := (List.range 10).foldl (fun v k => v.wr (0x91080 + 0x200 * n + 4 * k) 0) u
    let u := (u.setMState n 0).wr (Reg.ptpMState n) 0
    ((u.wr (Reg.ptpSStatus n) 0).wr (Reg.ptpLinkDelay n) 0).wr (Reg.ptpSDelay n) 0) t
  let t := (List.range 10).foldl (fun u k => u.wr (Reg.ptpUcData k) 0) t
  let t := (((t.wr Reg.ptpUcDeny 0).wr Reg.ptpEvents 0).wr Reg.ptpUcSel 0).wr Reg.ptpTsStatus 0
  (t.ucShow).mJudgeAll

end State

/-! ### The rows: configuration and reception -/

/-- The defaults of a profile (R291): domain, M_INTV's intervals and timeout, allowed transports, the first allowed. -/
def profileDefaults (p : Nat) : Nat × Int × Int × Int × List Nat :=
  match p with
  | 2 => (0, 0, -3, 0, [0])
  | 3 => (127, -2, -3, -3, [1, 2])
  | 4 => (0, 1, -3, -3, [1])
  | _ => (0, 1, 0, 0, [0, 1, 2])

/-- PTP_PROFILE_WRITE (R291): the profile with its intervals and domains, and its first transport where TRANSPORT is not allowed. -/
def execPtpProfileWrite (n : Fin 4) (profile : Fin 8) (s : State) : Res :=
  let (dom, a, sy, d, tr) := profileDefaults profile
  let s1 := ((s.put (Reg.ptpMCfg n) Fld.ptpMCfg_PROFILE profile).put (Reg.ptpMCfg n) Fld.ptpMCfg_DOMAIN dom).put (Reg.ptpSCfg n)
    Fld.ptpSCfg_DOMAIN dom
  let s2 := s1.wrn (Reg.ptpMIntv n) (uns 8 a * 2 ^ 24 + uns 8 sy * 65536 + uns 8 d * 256 + 3)
  let s3 := if tr.contains (s.transport n) then s2 else s2.put (Reg.ptpMCfg n) Fld.ptpMCfg_TRANSPORT (tr.headD 0)
  done ((s3.mJudge n).followJudge n)

/-- Store an Announce in a foreign-master table of at most 8 for the domain (R297): qualified by a second one within four intervals. -/
def foreignUpdate (l : List Foreign) (f : Foreign) (window : Nat) : List Foreign :=
  match l.find? fun g => g.dom == f.dom && g.src == f.src with
  | some g =>
    l.map fun x => if x.dom == f.dom && x.src == f.src then
      { f with qualified := g.qualified || decide (f.last - g.last ≤ (window : Int)) } else x
  | none => if 8 ≤ (l.filter (·.dom == f.dom)).length then l else l ++ [f]

/-- Ticks in 2^k seconds. -/
def intervalTicks (k : Int) : Nat := if 0 ≤ k then 1000000 * usTicks * 2 ^ k.toNat else 1000000 * usTicks / 2 ^ (-k).toNat

/-- The claim in the bound TLV of an Announce under the unit's own organization codes (R306, R316), 0 without one. -/
def State.claimOf (s : State) (m : List Byte) : Nat :=
  if s.rdn Reg.ptpOrg / 256 = 0 then 0
  else match (tlvsOf m).find? fun t => t.1 == 3 && t.2.2 == 50 && beAt m (t.2.1 + 4) 3 == s.rdn Reg.ptpOrg / 256 &&
      beAt m (t.2.1 + 7) 3 == s.rdn Reg.ptpOrgSub % 2 ^ 24 with
    | some t => beAt m (t.2.1 + 52) 2
    | none => 0

/-- Foreign masters of port `n` that have become qualified, or are so no more, since `before` enter or leave the partner table (R515). -/
def ptpPartners (n : Nat) (before : List Foreign) (s : State) : State :=
  let was := before.filter (·.qualified)
  let now := (s.pport n).foreign.filter (·.qualified)
  let key (f : Foreign) : Nat := f.src / 65536
  let t := (now.filter fun f => !was.any fun g => g.dom == f.dom && g.src == f.src).foldl
    (fun (t : State) (f : Foreign) => t.sightLater (.seen 1 (key f) (key f % 2 ^ 32) (key f / 2 ^ 32) (n * 256 + f.dom))) s
  (was.filter fun f => !now.any fun g => g.dom == f.dom && g.src == f.src).foldl
    (fun (t : State) (f : Foreign) => t.sightLater (.gone 1 (key f) (n * 256 + f.dom))) t

/-- PTP_ANNOUNCE_RX (R296, R297): the foreign-master table, the port decision and the follower's parent. -/
def execPtpAnnounceRx (m : PtpRx) (s : State) : Res :=
  let n := m.port.val
  done (match s.ptpAccept m [11] with
  | (none, t) => t
  | (some h, t) =>
    if s.role n = 1 ∧ h.dom = s.domM n ∧ s.on (Reg.ptpMCfg n) Fld.ptpMCfg_ENABLE then t.countSat (Reg.ptpDrop n)
    else
      let f : Foreign :=
        { dom := h.dom, src := h.src, prio1 := beAt m.msg 47 1, cls := beAt m.msg 48 1, acc := beAt m.msg 49 1, oslv := beAt m.msg 50 2,
          prio2 := beAt m.msg 52 1, gmId := beAt m.msg 53 8, steps := beAt m.msg 61 2, tsrc := beAt m.msg 63 1, flags := h.flags,
          utc := beAt m.msg 44 2, last := s.monitorNow, claim := s.claimOf m.msg, logIntv := h.log, kind := m.kind, addr := m.addr.toNat, mac := m.mac.toNat }
      let t := t.setPport n fun p => { p with foreign := foreignUpdate p.foreign f (4 * intervalTicks h.log) }
      let t := (ptpPartners n (s.pport n).foreign t).sightLater (.heard 1 (h.src / 65536) (n * 256 + h.dom))
      (t.mJudge n).followJudge n)

/-- PTP_SYNC_RX (R313, R314): a Sync of the parent gives t1 and t2; a two-step Sync waits for its Follow_Up. -/
def execPtpSyncRx (m : PtpRx) (s : State) : Res :=
  let n := m.port.val
  done (match s.ptpAccept m [0] with
  | (none, t) => t
  | (some h, t) =>
    let t2 := s.rxS m
    let t := t.tsRecord n false true 0 h.seq t2
    if !s.fromParent n h then t
    else if h.flags / 512 % 2 = 1 then t.setPport n fun p => { p with sync := some (h.seq, t2, h.corr), syncOld := false }
    else t.syncDone n (ptpTime m.msg 34) t2 h.corr)

/-- PTP_FOLLOW_UP_RX (R313, R314): the precise origin of the Sync that waits; one that predates a step of the target is discarded. -/
def execPtpFollowUpRx (m : PtpRx) (s : State) : Res :=
  let n := m.port.val
  done (match s.ptpAccept m [8] with
  | (none, t) => t
  | (some h, t) =>
    match (s.pport n).sync with
    | none => t
    | some (q, t2, c) =>
      if !s.fromParent n h || q != h.seq then t
      else if (s.pport n).syncOld then (t.countSat (Reg.ptpSStepped n)).setPport n fun p => { p with sync := none, syncOld := false }
      else t.syncDone n (ptpTime m.msg 34) t2 (c + h.corr))

/-- PTP_DELAY_REQ_RX (R298, R300): in state MASTER of an E2E profile a Delay_Resp is owed; a unicast one only with a grant. -/
def execPtpDelayReqRx (m : PtpRx) (s : State) : Res :=
  let n := m.port.val
  done (match s.ptpAccept m [1] with
  | (none, t) => t
  | (some h, t) =>
    let rx := s.rxM m
    let t := t.tsRecord n false false 1 h.seq rx
    let uni := h.flags / 1024 % 2 = 1
    let client := s.ucFind n h.src m.kind m.addr.toNat
    let granted := match client with | some i => (s.ucEntry i).dresp.isSome | none => false
    if s.forM n h && s.mState n == 2 && !s.p2p n && (!decide uni || granted) then
      let r : Reply := { kind := 9, src := h.src, seq := h.seq, dom := h.dom, corr := h.corr, rx := rx, got := s.monitorNow,
                         dst := if uni then some (m.kind, m.addr.toNat, m.mac.toNat) else none,
                         logIntv := if uni then 0x7F else s.delayLog n }
      t.setPport n fun p => { p with replies := p.replies ++ [r] }
    else t)

/-- PTP_DELAY_RESP_RX (R313): completes the open Delay_Req of the follower and gives d. -/
def execPtpDelayRespRx (m : PtpRx) (s : State) : Res :=
  let n := m.port.val
  done (match s.ptpAccept m [9] with
  | (none, t) => t
  | (some h, t) =>
    match (s.pport n).dreq, (s.pport n).fwd with
    | some (q, t3), some f =>
      if s.fromParent n h && q == h.seq && beAt m.msg 44 10 == s.identity n true && !s.p2p n then
        let d := (f + (ptpTime m.msg 34 - t3 - h.corr)) / 2
        (t.setPport n fun p => { p with dreq := none, dlog := some h.log }).delaySample n d
      else t
    | _, _ => t)

/-- PTP_PDELAY_REQ_RX (R298): a Pdelay_Resp is owed in a P2P profile, except in DISABLED and SILENT. -/
def execPtpPdelayReqRx (m : PtpRx) (s : State) : Res :=
  let n := m.port.val
  done (match s.ptpAccept m [2] with
  | (none, t) => t
  | (some h, t) =>
    let rx := s.rxM m
    let t := t.tsRecord n false false 2 h.seq rx
    if s.p2p n && s.mState n != 0 && s.mState n != 5 then
      t.setPport n fun p => { p with replies := p.replies ++ [{ kind := 3, src := h.src, seq := h.seq, dom := h.dom, corr := h.corr, rx := rx, got := s.monitorNow }] }
    else t)

/-- PTP_PDELAY_RESP_RX (R301): the stamps of an exchange; in one-step it is complete. -/
def execPtpPdelayRespRx (m : PtpRx) (s : State) : Res :=
  let n := m.port.val
  done (match s.ptpAccept m [3] with
  | (none, t) => t
  | (some h, t) =>
    let t4 := s.rxM m
    let t := t.tsRecord n false false 3 h.seq t4
    match (s.pport n).pdOpen with
    | some (q, t1) =>
      if q == h.seq && beAt m.msg 44 10 == s.identity n false then
        if h.flags / 512 % 2 = 1 then t.setPport n fun p => { p with pdResp := some (ptpTime m.msg 34, t4, h.corr) }
        else t.pdDone n t1 t4 0 h.corr none
      else t
    | none => t)

/-- PTP_PDELAY_RESP_FUP_RX (R301): completes an exchange and judges asCapable. -/
def execPtpPdelayRespFupRx (m : PtpRx) (s : State) : Res :=
  let n := m.port.val
  done (match s.ptpAccept m [10] with
  | (none, t) => t
  | (some h, t) =>
    match (s.pport n).pdOpen, (s.pport n).pdResp with
    | some (q, t1), some (t2, t4, c) =>
      if q == h.seq && beAt m.msg 44 10 == s.identity n false then
        let t3 := ptpTime m.msg 34
        t.pdDone n t1 t4 (t3 - t2) (c + h.corr) (some (t3 + c + h.corr))
      else t
    | _, _ => t)

/-- PTP_UC_REQUEST_RX (R309): every request TLV is granted or denied, in one reply. -/
def execPtpUcRequestRx (m : PtpRx) (s : State) : Res :=
  let n := m.port.val
  done (match s.ptpAccept m [12] with
  | (none, t) => t
  | (some h, t) =>
    if s.forM n h && s.mState n == 2 && s.on (Reg.ptpMCfg n) Fld.ptpMCfg_UC then
      let (bs, t) := State.ucAnswer n h.src m.kind m.addr.toNat m.mac.toNat m.msg (tlvsOf m.msg) t
      if bs = [] then t else t.signal n false h.dom h.src bs (some (m.kind, m.addr.toNat, m.mac.toNat))
    else t)

/-- PTP_UC_CANCEL_RX (R310): the grants go at once and each cancellation is acknowledged. -/
def execPtpUcCancelRx (m : PtpRx) (s : State) : Res :=
  let n := m.port.val
  done (match s.ptpAccept m [12] with
  | (none, t) => t
  | (some h, t) =>
    let cs := (tlvsOf m.msg).filter (·.1 == 6)
    if cs.isEmpty || !s.forM n h then t
    else
      let t := cs.foldl (fun u c =>
        match State.kindOf (beAt m.msg (c.2.1 + 4) 1 / 16), u.ucFind n h.src m.kind m.addr.toNat with
        | some k, some i => u.setUc i (State.putGrant (u.ucEntry i) k none)
        | _, _ => u) t
      let ack := cs.flatMap fun c => beBytes 2 7 ++ beBytes 2 2 ++ slice m.msg (c.2.1 + 4) 1 ++ [0]
      if s.mState n = 0 ∨ s.mState n = 5 then t else t.signal n false h.dom h.src ack (some (m.kind, m.addr.toNat, m.mac.toNat)))

/-- PTP_UC_GRANT_RX (R315): each grant to the follower starts or renews; a duration of 0 is a denial. -/
def execPtpUcGrantRx (m : PtpRx) (s : State) : Res :=
  let n := m.port.val
  done (match s.ptpAccept m [12] with
  | (none, t) => t
  | (some h, t) =>
    let gs := (tlvsOf m.msg).filter (·.1 == 5)
    if gs.isEmpty || !(h.dom == s.domS n && s.followOn n && s.on (Reg.ptpSCfg n) Fld.ptpSCfg_UC) || m.kind.val != 1 ||
        m.addr.toNat != s.rdn (Reg.ptpSUcIp n) then t
    else
      let t := t.setPport n fun p => { p with ucAsked := none, ucRetry := none }
      gs.foldl (fun u g =>
        let d := beAt m.msg (g.2.1 + 6) 4
        match State.kindOf (beAt m.msg (g.2.1 + 4) 1 / 16) with
        | none => u
        | some k => if d = 0 then u.ucRefused n else u.setPport n fun p => { p with ucUpto := p.ucUpto.set 0 k (s.monitorNow + d * 1000000 * usTicks) }) t)

/-- PTP_MGMT_FORWARD (R293): a Management message, or a Signaling message without TLVs 4–7, goes unchanged to PTP_CTRL.HOST_Q. -/
def execPtpMgmtForward (m : PtpRx) (s : State) : Res :=
  let n := m.port.val
  done (match s.ptpAccept m [12, 13] with
  | (none, t) => t
  | (some h, t) =>
    if h.type = 12 ∧ (tlvsOf m.msg).any (fun x => 4 ≤ x.1 && x.1 ≤ 7) then t
    else t.hostFrame { q := s.fld Reg.ptpCtrl ⟨16, 2⟩, port := n, data := m.frame, stamp := uns 64 (s.rxStamp n (s.lineTb n) m.back.toNat) })

/-! ### The rows: transmission -/

namespace State

variable (s : State)

/-- The grant of kind `k` of the client in entry `i` of port `n`, while it runs (R310). -/
def grantRuns (n i k : Nat) : Option Grant :=
  if (s.ucEntry i).port = n then (grantOf (s.ucEntry i) k).filter fun g => decide (s.monitorNow < g.upto) else none

/-- The next scheduled message of a stream of port `n` (R298, R299, R310): multicast (kind 0 Announce, 1 Sync), or a client's grant.  With an instant that has
passed since the last one, `send` is given the state with that instant and the sequenceId used, the sequenceId, the interval, the unicast flag, the
destination and the instant; a late one is discarded and counted; on a port that is not UP a grant's message counts in TX_DOWN. -/
def schedule (n k : Nat) (client : Option Nat) (send : State → Nat → Int → Nat → Option (Nat × Nat × Nat) → Int → State) : State :=
  let go (t : State) (q : Nat) (log : Int) (uni : Nat) (dst : Option (Nat × Nat × Nat)) (at_ : Int) (late : Bool) : State :=
    if !s.lineUp n then t.countSat (Reg.lineTxDown n) else if late then t.countSat (Reg.ptpLate n) else send t q log uni dst at_
  match client with
  | none =>
    let log := if k = 0 then s.annLog n else s.syncLog n
    let (x, at_, late) := s.lastInstant log (if k = 0 then 50000 * 2 ^ 48 else 0)
    let was := if k = 0 then (s.pport n).annSent else (s.pport n).syncSent
    if !(s.mSends n && s.on (Reg.ptpMCfg n) Fld.ptpMCfg_MCAST) || was == some x then s
    else
      let (q, t) := s.nextSeq n (if k = 0 then 11 else 0)
      go (t.setPport n fun p => if k = 0 then { p with annSent := some x } else { p with syncSent := some x }) q log 0 none at_ late
  | some i =>
    match s.grantRuns n i k with
    | none => s
    | some g =>
      let (x, at_, late) := s.lastInstant g.log (clientOffset g.log i)
      let down := s.ptpOn && s.on (Reg.ptpMCfg n) Fld.ptpMCfg_ENABLE && s.role n != 0 && !s.lineUp n
      if !(s.mSends n || down) || g.sent == some x then s
      else
        go (s.setUc i (putGrant (s.ucEntry i) k (some { g with seq := (g.seq + 1) % 65536, sent := some x }))) g.seq g.log 0x400
          (some (dstOf (s.ucEntry i))) at_ late

end State

/-- PTP_ANNOUNCE_TX (R298, R303, R305): an Announce of a MASTER port at its instant, multicast or to a client with a grant. -/
def execPtpAnnounceTx (n : Fin 4) (client : Option (Fin 4096)) (s : State) : Res :=
  done (s.schedule n 0 (client.map (·.val)) fun t q log uni dst _ =>
    let (t, sent) := t.ptpOffer n 11 (fun x => s.ptpBuild n false 11 q (s.domM n) (s.annFlags + uni) 0 log (s.annBody n) x) dst
    if sent then (t.setPport n fun p => { p with pubWait := false }).pubCheck else t)

/-- PTP_SYNC_TX (R298–R300): a Sync of a MASTER port at its instant; in two-step its Follow_Up is owed. -/
def execPtpSyncTx (n : Fin 4) (client : Option (Fin 4096)) (back : BitVec 32) (s : State) : Res :=
  done (s.schedule n 1 (client.map (·.val)) fun t q log uni dst at_ =>
    let tx := s.txStamp n 0 back.toNat
    let one := s.oneStep n
    let (t, sent) := t.ptpOffer n 0 (fun x => s.ptpBuild n false 0 q (s.domM n) (uni + if one then 0 else 0x200)
      (if one then fracOf tx else 0) log (toPtpTime (if one then tx else at_ / 2 ^ 32)) x) dst
    if sent then
      let t := t.tsRecord n true false 0 q tx
      if one then t
      else t.setPport n fun p =>
        { p with replies := p.replies ++ [{ kind := 8, seq := q, dom := s.domM n, tx := tx, dst := dst, logIntv := log, got := s.monitorNow }] }
    else t)

/-- Take the oldest reply of a kind that port `n` owes: sent by `send` if the port's state allows it, discarded otherwise; one that can no longer leave
within 1 ms of its request counts in LATE (R298, R299). -/
def State.answer (s : State) (n kind : Nat) (send : Reply → State → State) : State :=
  match (s.pport n).replies.find? (·.kind == kind) with
  | none => s
  | some r =>
    let t := s.setPport n fun p => { p with replies := p.replies.eraseP (·.kind == kind) }
    if !(State.repliesIn kind (s.mState n) && s.mayTransmit) then t
    else if s.replyLate r then t.countSat (Reg.ptpLate n)
    else send r t

/-- The unicast flag of a reply. -/
def uniFlag (r : Reply) : Nat := if r.dst.isSome then 0x400 else 0

/-- PTP_FOLLOW_UP_TX (R298, R300, R301): the Sync's precise transmit stamp, its fraction in correctionField, and in profile 2 the information TLV. -/
def execPtpFollowUpTx (n : Fin 4) (s : State) : Res :=
  done (s.answer n 8 fun r t =>
    let body := toPtpTime r.tx ++ (if s.profile n = 2 then s.followInfo else [])
    (t.ptpOffer n 8 (fun x => s.ptpBuild n false 8 r.seq r.dom (uniFlag r) (fracOf r.tx) r.logIntv body x) r.dst).1)

/-- PTP_DELAY_RESP_TX (R298–R300): the receive stamp to the ns, and the request's correction less the stamp's fraction. -/
def execPtpDelayRespTx (n : Fin 4) (s : State) : Res :=
  done (s.answer n 9 fun r t =>
    let body := toPtpTime r.rx ++ beBytes 10 r.src
    (t.ptpOffer n 9 (fun x => s.ptpBuild n false 9 r.seq r.dom (uniFlag r) (r.corr - fracOf r.rx) r.logIntv body x) r.dst).1)

/-- PTP_DELAY_REQ_TX (R298): once in each interval a follower in an E2E domain sends a Delay_Req, to its unicast master where it has one. -/
def execPtpDelayReqTx (n : Fin 4) (back : BitVec 32) (s : State) : Res :=
  let slot := s.monitorNow / intervalTicks ((s.pport n).dlog.getD (s.delayLog n))
  done (match s.mayFollow n && !s.p2p n && (s.pport n).dreqSlot != some slot, (s.pport n).parent, s.parentOf n with
  | true, some _, some f =>
    let tx := s.txStamp n (s.tbS n) back.toNat
    let (q, t) := s.nextSeq n 1
    let uc := s.on (Reg.ptpSCfg n) Fld.ptpSCfg_UC
    let dst := if uc then some (1, f.addr, f.mac) else none
    let t := t.setPport n fun p => { p with dreqSlot := some slot }
    let (t, sent) := t.ptpOffer n 1 (fun x => s.ptpBuild n true 1 q (s.domS n) (if uc then 0x400 else 0) 0 0x7F (toPtpTime 0) x) dst
    if sent then (t.tsRecord n true true 1 q tx).setPport n fun p => { p with dreq := some (q, tx) } else t
  | _, _, _ => s)

/-- PTP_PDELAY_REQ_TX (R298, R301): at the delay-request interval a port in a P2P profile asks; an exchange still open is a missing one. -/
def execPtpPdelayReqTx (n : Fin 4) (back : BitVec 32) (s : State) : Res :=
  done (if s.p2p n && s.mOn n && s.mState n != 0 && s.mState n != 5 && s.mayTransmit &&
      (s.pport n).pdAt.all (fun t => decide (t + intervalTicks (s.delayLog n) ≤ s.monitorNow)) then
    let tx := s.txStamp n 0 back.toNat
    let t := if (s.pport n).pdOpen.isSome then s.pdResult n false else s
    let (q, t) := t.nextSeq n 2
    let (t, sent) := t.ptpOffer n 2 (fun x => s.ptpBuild n false 2 q (s.domM n) 0 0 (s.delayLog n) (List.replicate 20 0) x) none
    let t := t.setPport n fun p => { p with pdAt := some s.monitorNow, pdResp := none, pdOpen := if sent then some (q, tx) else none }
    if sent then t.tsRecord n true false 2 q tx else t
  else s)

/-- PTP_PDELAY_RESP_TX (R298–R300): one-step adds the turnaround to correctionField; two-step carries t2 and owes its Follow_Up. -/
def execPtpPdelayRespTx (n : Fin 4) (back : BitVec 32) (s : State) : Res :=
  done (s.answer n 3 fun r t =>
    let tx := s.txStamp n 0 back.toNat
    let one := s.oneStep n
    let body := (if one then toPtpTime 0 else toPtpTime r.rx) ++ beBytes 10 r.src
    let corr := if one then r.corr + (tx - r.rx) else - fracOf r.rx
    let (t, sent) := t.ptpOffer n 3 (fun x => s.ptpBuild n false 3 r.seq r.dom (if one then 0 else 0x200) corr 0x7F body x) none
    if sent then
      let t := t.tsRecord n true false 3 r.seq tx
      if one then t else t.setPport n fun p => { p with replies := p.replies ++ [{ r with kind := 10, tx := tx, got := s.monitorNow }] }
    else t)

/-- PTP_PDELAY_RESP_FUP_TX (R298, R300): carries t3. -/
def execPtpPdelayRespFupTx (n : Fin 4) (s : State) : Res :=
  done (s.answer n 10 fun r t =>
    (t.ptpOffer n 10 (fun x => s.ptpBuild n false 10 r.seq r.dom 0 (r.corr + fracOf r.tx) 0x7F (toPtpTime r.tx ++ beBytes 10 r.src) x) none).1)

/-! ### The rows: timeouts, grants and reads -/

/-- The announce receipt timeouts of port `n`: its timeout, at least 2, times an interval, since `t` (R297, R320). -/
def State.receiptOver (s : State) (n : Nat) (log : Int) (t : Int) : Bool :=
  decide (t + max 2 (s.rdn (Reg.ptpMIntv n) % 16) * intervalTicks log ≤ s.monitorNow)

/-- PTP_ANNOUNCE_TIMEOUT (R296, R297): a foreign master whose receipt timeout has passed is removed; a LISTENING port whose timer has run out with none
qualified becomes MASTER. -/
def execPtpAnnounceTimeout (n : Fin 4) (dom : BitVec 8) (src : Option (BitVec 80)) (s : State) : Res :=
  done (match src with
  | some f =>
    let t := s.setPport n fun p =>
      { p with foreign := p.foreign.filter fun g => !(g.dom == dom.toNat && g.src == f.toNat && s.receiptOver n g.logIntv g.last) }
    let t := ptpPartners n (s.pport n).foreign t
    (t.mJudge n).followJudge n
  | none => if s.mState n == 1 && (s.bestIn n (s.domM n)).isNone && s.receiptOver n (s.annLog n) (s.pport n).listenFrom then s.setMState n 2 else s)

/-- PTP_GRANT_EXPIRE (R310): a grant whose time has run out goes, and its entry with its last grant. -/
def execPtpGrantExpire (client : Fin 4096) (kind : Fin 3) (s : State) : Res :=
  done (match State.grantOf (s.ucEntry client) kind with
  | some g => if g.upto ≤ s.monitorNow then s.setUc client (State.putGrant (s.ucEntry client) kind none) else s
  | none => s)

/-- The follower of port `n` negotiates (R315): unicast over UDP/IPv4. -/
def State.negotiatesUc (s : State) (n : Nat) : Bool := s.followOn n && s.on (Reg.ptpSCfg n) Fld.ptpSCfg_UC && s.transport n == 1

/-- PTP_UC_RENEW (R315): the follower asks for its grants, one of which it has not or for 30 s at most, unless a request or a wait for a retry runs. -/
def execPtpUcRenew (n : Fin 4) (s : State) : Res :=
  let p := s.pport n
  done (if s.negotiatesUc n && p.ucAsked.isNone && p.ucRetry.isNone &&
      [0, 1, 2].any (fun k => decide (p.ucUpto.get 0 k ≤ s.monitorNow + 30000000 * usTicks)) then s.ucAsk n else s)

/-- PTP_UC_RETRY (R315): no reply within 1 s waits 10 s with PTP_EVENTS.PARENT; after a wait the request is sent again. -/
def execPtpUcRetry (n : Fin 4) (s : State) : Res :=
  let p := s.pport n
  done (if !s.negotiatesUc n then s
  else if p.ucAsked.any fun t => s.elapsed t 1000000 then s.ucRefused n
  else if p.ucRetry.any fun t => s.elapsed t 0 then s.ucAsk n
  else s)

/-- The words that describe an entry (R311). -/
def State.ucWords (s : State) (e : UcEntry) : List Nat :=
  let lg (g : Option Grant) : Nat := match g with | some g => uns 8 g.log | none => 0x80
  let lf (g : Option Grant) : Nat := match g with | some g => ((g.upto - s.monitorNow).toNat + 1000000 * usTicks - 1) / (1000000 * usTicks) | none => 0
  let a := if e.kind = 0 then e.addr * 2 ^ 80 else if e.kind = 1 then e.addr * 2 ^ 96 else e.addr
  [ (if State.ucUsed e then 2 ^ 31 else 0) + e.port * 2 ^ 28 + e.kind * 2 ^ 26 + e.src % 65536,
    e.src / 2 ^ 48, e.src / 2 ^ 16, a / 2 ^ 96, a / 2 ^ 64, a / 2 ^ 32, a,
    lg e.ann * 2 ^ 24 + lg e.sync * 2 ^ 16 + lg e.dresp * 2 ^ 8, lf e.ann * 65536 + lf e.sync, lf e.dresp ]

/-- PTP_UC_SEL_WRITE (R311): the entry is latched into PTP_UC_DATA. -/
def execPtpUcSelWrite (entry : Fin 4096) (s : State) : Res :=
  done ((s.wrn Reg.ptpUcSel entry).wrRun (Reg.ptpUcData 0) ((s.ucWords (s.ucEntry entry)).map (BitVec.ofNat 32)))

/-- PTP_TS_READ (R317, R551): removes the oldest record and latches its words; on an empty FIFO the last record with UNDERRUN. -/
def execPtpTsRead (s : State) : Res :=
  let (w, q) := Fifo.pop 4 s.ptp.ts
  let t := (s.setPtp fun p => { p with ts := q }).wrn Reg.ptpTsStatus q.entries.length
  done ((t.wr (Reg.ptpTs 0) w).wrRun (Reg.ptpTs 1) ((q.last ++ [0, 0, 0, 0]).drop 1 |>.take 3))

end Sys2Proof.Machine
end

