-- ==== Sys2Proof/Machine/Asrc.lean ====
section
/-!
DEFINITION. Asynchronous converters (R357–R359): channels, the groups that share an estimator, their lock and the words they write.
-/

namespace Sys2Proof.Machine

namespace State

variable (s : State)

/-! ### ASRC (R357–R359) -/

/-- ASRC channel `c` beyond its registers. -/
def asrcE (c : Nat) : AsrcSt := s.audio.asrc.get {} c

/-- Change ASRC channel `c`. -/
def setAsrc (c : Nat) (f : AsrcSt → AsrcSt) : State := s.setAudio fun a => { a with asrc := a.asrc.set {} c (f (a.asrc.get {} c)) }

/-- The source of ASRC channel `c`: 256 × kind + index. -/
def asrcSource (c : Nat) : Nat := s.rdn (Reg.asrcCfg c) / 2 ^ 28 % 4 * 256 + s.rdn (Reg.asrcCfg c) / 2 ^ 20 % 256

/-- The destination domain of ASRC channel `c`. -/
def asrcDom (c : Nat) : Nat := s.rdn (Reg.asrcCfg c) / 2 ^ 30 % 2

/-- ASRC_CHANNELS. -/
def asrcCount : Nat := if s.loader.built then min 128 (s.param 0x03 0) else 0

/-- The channels of a group. -/
def asrcGroup (src : Nat) : List Nat := (List.range s.asrcCount).filter fun c => (s.asrcE c).enabled && s.asrcSource c == src

/-- The lock of ASRC channel `c` changes: STATUS, its event bit, and for a lock the RECOVERY of the next sample. -/
def asrcPut (c : Nat) (lock : Bool) (rate : Nat) : State :=
  let s := (s.putBit (Reg.asrcStatus c) 1 lock).putBit (Reg.streamAsrcEvt (c / 32)) (c % 32) true
  let s := if lock then ((s.put (Reg.asrcStatus c) ⟨8, 24⟩ rate).putBit (Reg.asrcStatus c) 2 false) else s
  s.setAsrc c fun x => { x with fresh := lock }

/-- The measured rate of a locked group, 1/64 Hz, kept with those of the last second. -/
def asrcRate (src rate : Nat) : State :=
  s.setAudio fun a => { a with
    groups := a.groups.set 0 src rate,
    rates := a.rates.set [] src ((s.monitorNow, rate) :: (a.rates.get [] src).filter fun x => s.monitorNow - x.1 < secondTicks) }

/-- A measured rate outside 30 kHz–200 kHz, or more than 1,000 ppm from one within the last second (R358). -/
def asrcStrays (src rate : Nat) : Bool :=
  rate < 1920000 || 12800000 < rate || (s.audio.rates.get [] src).any fun x =>
    decide (s.monitorNow - x.1 ≤ secondTicks) && decide (1000 * x.2 < 1000000 * ((rate : Int) - x.2).natAbs)

/-- A group unlocks: interrupt 47 (R358). -/
def asrcUnlock (src : Nat) (range : Bool) : State :=
  if s.audio.groups.get 0 src = 0 then s
  else
    let g := s.asrcGroup src
    let s := g.foldl (fun t c => let t := t.asrcPut c false 0; if range then t.putBit (Reg.asrcStatus c) 2 true else t) s
    let s := s.setAudio fun a => { a with groups := a.groups.set 0 src 0, rates := a.rates.set [] src [] }
    let s := if range then s.raiseFault 9 (g.headD 0) else s
    s.raiseIrq 47

/-- ASRC_c_CFG has been written (R357, R387): the channel takes its slot, or does not run. -/
def asrcRefresh (c : Nat) : State :=
  let s := (s.releaseSlots (.asrc c)).setAsrc c fun _ => {}
  let s := s.putBit (Reg.asrcStatus c) 1 false
  let dst := s.rdn (Reg.asrcCfg c) % 8192
  if c < s.asrcCount && s.bit (Reg.asrcCfg c) 31 && s.slotsFree (.asrc c) (s.asrcDom c) dst 1 then
    let s := (s.takeSlots (.asrc c) dst 1).setAsrc c fun _ => { enabled := true }
    let r := s.audio.groups.get 0 (s.asrcSource c)
    if r = 0 then s else (s.asrcPut c true r).raiseIrq 47
  else s

/-- The word of ASRC channel `c` at a boundary of its destination: a free value while locked (log entry 21), with BRIDGED. -/
def asrcIngress (c : Nat) : List (Nat × Word) × State :=
  let dst := s.rdn (Reg.asrcCfg c) % 8192
  if !s.bit (Reg.asrcStatus c) 1 then ([(dst, 0x10)], s)
  else
    let (v, t) := s.fresh 24
    ([(dst, BitVec.ofNat 32 (v.toNat * 256 + 0x11 + (if (s.asrcE c).fresh then 2 else 0)))], t.setAsrc c fun x => { x with fresh := false })

/-- The ASRC groups whose channels go to domain `d` unlock: its rate changes (R358). -/
def asrcDomChange (d : Nat) : State :=
  let srcs := ((List.range s.asrcCount).filter fun c => (s.asrcE c).enabled && s.asrcDom c == d).map s.asrcSource
  srcs.foldl (fun t g => t.asrcUnlock g false) s

end State

end Sys2Proof.Machine
end

