-- ==== Sys2Proof/Machine/Serial.lean ====
section
/-!
DEFINITION. Serial-audio pins (ch. 12): personalities, locking, the elastic buffer, channel status, held inputs, and the frames
that outputs launch.
-/

namespace Sys2Proof.Machine

/-! ### Channel status (R364) -/

/-- One bit through the CRCC of AES3: x^8 + x^4 + x^3 + x^2 + 1, least significant bit first, preset to ones (PRESUMED, log entry 29). -/
def crccBit (c : Nat) (b : Bool) : Nat :=
  let x := c ^^^ b.toNat
  if x % 2 = 1 then (x / 2) ^^^ 0xB8 else x / 2

/-- The CRCC of a run of bits. -/
def crcc (bs : List Bool) : Nat := bs.foldl crccBit 0xFF

/-- The number that bits spell, least significant first. -/
def bitsNat : List Bool → Nat
  | [] => 0
  | b :: bs => b.toNat + 2 * bitsNat bs

/-- Odd number of ones among the low `n` bits. -/
def oddOnes (n v : Nat) : Bool := (List.range n).foldl (fun p i => xor p (v.testBit i)) false

namespace State

variable (s : State)

/-- Serial pin `n` beyond its registers. -/
def saAt (n : Nat) : SaSt := s.audio.sa.get {} n

/-- Change serial pin `n` beyond its registers. -/
def setSa (n : Nat) (f : SaSt → SaSt) : State := s.setAudio fun a => { a with sa := a.sa.set {} n (f (a.sa.get {} n)) }

/-- SA_n_PERSONALITY (R41). -/
def saParam (n : Nat) : Nat := if s.loader.built then s.param 0x20 n else 0

/-- The personality of pin `n` (R361): 0 unused, 1 MADI in, 2 MADI out, 3 AES3 in, 4 AES3 out, 5 TDM in, 6 TDM out. -/
def saPers (n : Nat) : Nat := s.saParam n % 16

/-- The domain of pin `n`: 0 A, 1 B, 2 X. -/
def saDom (n : Nat) : Nat := s.saParam n / 16 % 4

/-- Pin `n` is the complement of an AES3 pair (R361). -/
def saOdd (n : Nat) : Bool := n % 2 == 1 && (s.saPers (n - 1) == 3 || s.saPers (n - 1) == 4)

/-- Pin `n` is an input. -/
def saIn (n : Nat) : Bool := s.saPers n % 2 == 1 && s.saPers n ≤ 5

/-- Pin `n` is an output. -/
def saOut (n : Nat) : Bool := s.saPers n % 2 == 0 && 2 ≤ s.saPers n && s.saPers n ≤ 6

/-- The domain of the TDM pins of bank `b` (R362). -/
def bankDom (b : Nat) : Option Nat :=
  ((List.range 8).find? fun i => 5 ≤ s.saPers (8 * b + i)).map fun i => s.saDom (8 * b + i)

/-- CFG_ERR of bank `b`: SA_BCLK would exceed 49.152 MHz (R365). -/
def bankBad (b : Nat) : Bool :=
  match s.bankDom b with
  | some d => d < 2 && s.bit (Reg.serialBankCfg b) 4 && 96000 < s.nominalRate d
  | none => false

/-- MASTER of bank `b` (R365). -/
def bankMaster (b : Nat) : Bool := match s.bankDom b with | some d => d < 2 | none => false

/-- The channels of pin `n` (R361, R363–R365). -/
def saChans (n : Nat) : Nat :=
  match s.saPers n with
  | 1 | 2 => if s.saDom n < 2 && s.domainRate (s.saDom n) != 0 then 32 else 64
  | 3 | 4 => 2
  | 5 | 6 => if s.bit (Reg.serialBankCfg (n / 8)) 4 then 16 else 8
  | _ => 0

/-- The channels a MADI output sends (R363). -/
def saSent (n : Nat) : Nat :=
  if s.saPers n = 2 ∧ s.bit (Reg.saCfg n) 8 = true then s.saChans n * 7 / 8 else s.saChans n

/-- The first slot of pin `n`. -/
def saBase (n : Nat) : Nat := s.rdn (Reg.saSlot n) % 8192

/-- HOLD_MAX of pin `n`. -/
def saHoldMax (n : Nat) : Nat := s.fld (Reg.saCfg n) Fld.saCfg_HOLD_MAX

/-- STATE of pin `n`: 0 OFF, 1 SEARCH, 2 RUN, 3 LOST (R384). -/
def saState (n : Nat) : Nat := s.fld (Reg.saStatus n) ⟨0, 2⟩

/-- Put STATE of pin `n`; a change sets its event bit and raises interrupt 43 (R360, R384).  A pin that does not run delivers no samples to its ASRC group
(R358). -/
def saTo (n st : Nat) : State :=
  if s.saState n = st then s
  else
    let t := s.put (Reg.saStatus n) ⟨0, 2⟩ st
    let t := (if n < 32 then t.putBit Reg.serialEvtLo n true else t.putBit Reg.serialEvtHi (n - 32) true).raiseIrq 43
    if st = 2 then t else t.asrcUnlock n false

/-- Pin `n` may run as its configuration stands: enabled, a personality, a bank within its limit, a used domain, slots in it
(R365, R384, R385, R387). -/
def saMay (n : Nat) : Bool :=
  s.bit (Reg.saCfg n) 0 && (s.saIn n || s.saOut n) && !s.saOdd n && !(5 ≤ s.saPers n && s.bankBad (n / 8)) &&
    (if s.saDom n = 2 then s.saIn n
     else if s.saIn n then s.slotsFree (.sa n) (s.saDom n) (s.saBase n) (s.saChans n)
     else (List.range (s.saSent n)).all fun i => s.slotIn (s.saDom n) (s.saBase n + i))

/-- Stop pin `n`. -/
def saStop (n : Nat) : State := ((s.releaseSlots (.sa n)).setSa n fun _ => {}).saTo n 0

/-- Start pin `n` if it may run: an input searches, an output runs. -/
def saStart (n : Nat) : State :=
  if !s.saMay n || (s.saAt n).enabled then s
  else
    let t := s.setSa n fun x => { x with enabled := true }
    if s.saIn n then (if s.saDom n = 2 then t else t.takeSlots (.sa n) (s.saBase n) (s.saChans n)).saTo n 1
    else t.saTo n 2

/-- A write of the pin's configuration takes effect. -/
def saRefresh (n : Nat) (moved : Bool) : State :=
  if !s.bit (Reg.saCfg n) 0 then (if (s.saAt n).enabled then s.saStop n else s)
  else if moved && (s.saAt n).enabled then (s.saStop n).saStart n else s.saStart n

/-- The channel status of subframe 1 at a block start (R364): captured, unless a professional block's CRCC does not match. -/
def csCapture (n : Nat) (bs : List Bool) : State :=
  if bs.length ≠ 192 then s
  else if bs.headD false && bitsNat (bs.drop 184) != crcc (bs.take 184) then s.countSat (Reg.saCsBad n)
  else s.wrRun (Reg.saCs n 0) ((List.range 6).map fun k => BitVec.ofNat 32 (bitsNat ((bs.drop (32 * k)).take 32)))

/-- The C bit of subframe 1 of a frame. -/
def firstC : List ChanIn → Option Bool
  | .sample _ _ c _ :: _ => some c
  | _ => none

/-- Follow the channel status of an AES3 input (R364). -/
def csFollow (n : Nat) (chans : List ChanIn) (z : Bool) : State :=
  let acc := (s.saAt n).csAcc
  let t := if z then s.csCapture n acc else s
  let acc2 := match firstC chans with
    | none => []
    | some c => if z then [c] else if acc = [] then [] else acc ++ [c]
  t.setSa n fun x => { x with csAcc := acc2 }

/-- The word of a channel in a frame that has one (R360, R363–R365): the word and its new count of held boundaries. -/
def saWord (n : Nat) (lost : Bool) (held : Nat) (last : Word) (c : ChanIn) : Word × Nat :=
  let lim := s.saHoldMax n
  match c with
  | .inactive => (0, 0)
  | .badParity => if held + 1 > lim then (0, held + 1) else (last ||| 4, held + 1)
  | .sample a v _ _ =>
    let w := BitVec.ofNat 32 (a.toNat * 256)
    if lost || held > lim then (w ||| 3, 0)
    else if v && s.saPers n < 5 && s.bit (Reg.saCfg n) 9 then (0, 0)
    else (w ||| 1, 0)

/-- The C, U and block-start bits of a channel. -/
def cuOf (z : Bool) : ChanIn → Nat
  | .sample _ _ c u => c.toNat + 2 * u.toNat + 4 * z.toNat
  | _ => 0

/-- A boundary for which serial input `n` has no frame (R360, R366): its last words with HELD until HOLD_MAX is passed; a slip where its sender runs
slow. -/
def saMissing (n : Nat) : List Word × State :=
  let x := s.saAt n
  let chs := List.range (s.saChans n)
  let lim := s.saHoldMax n
  let t := if x.locked then s.countSat (Reg.saSlips n) else s
  let ws := chs.map fun i => if x.heldCh.get 0 i + 1 > lim then 0 else x.last.getD i 0 ||| 4
  let t := t.setSa n fun x => { x with run := x.run + 1, last := ws, heldCh := SMap.ofList 0 0 (chs.map fun i => x.heldCh.get 0 i + 1) }
  (ws, if x.run + 1 > lim then t.saTo n 3 else t)

/-- Serial input `n` takes the frame `f` into its slots (R360, R366): it is LOST when no channel has had a sample for HOLD_MAX boundaries. -/
def saTake (n : Nat) (f : SaFrame) : List Word × State :=
  let x := s.saAt n
  let lost := s.saState n == 3
  let r := (List.range (s.saChans n)).map fun i => s.saWord n lost (x.heldCh.get 0 i) (x.last.getD i 0) (f.chans.getD i .inactive)
  let t := s.setSa n fun x =>
    { x with buffer := x.buffer.drop 1, run := 0, last := r.map (·.1), heldCh := SMap.ofList 0 0 (r.map (·.2)), cu := f.chans.map (cuOf f.z) }
  (r.map (·.1), t.saTo n (if r.all fun e => s.saHoldMax n < e.2 then 3 else 2))

/-- The words that serial input `n` writes at a boundary whose number is `now` (R360, R366). -/
def saIngress (n now : Nat) : List (Nat × Word) × State :=
  let x := s.saAt n
  let chs := List.range (s.saChans n)
  let out (r : List Word × State) : List (Nat × Word) × State := (chs.map fun i => (s.saBase n + i, r.1.getD i 0), r.2)
  match x.buffer.head? with
  | some f => if f.due ≤ now then out (s.saTake n f) else if s.saState n = 2 then out (s.saMissing n) else out ([], s)
  | none => if s.saState n = 2 then out (s.saMissing n) else out ([], s)

/-! ### Outputs (R27, R363–R365) -/

/-- A subframe: audio in [31:8]; V, U, C and even parity P in bits 0–3; mode bits in [7:4]. -/
def subframe (w : Word) (c u : Bool) (mode : Nat) : Word :=
  let a := w.toNat / 256
  let v := !w.toNat.testBit 0
  let p := xor (oddOnes 24 a) (xor v (xor c u))
  BitVec.ofNat 32 (a * 256 + mode * 16 + p.toNat * 8 + c.toNat * 4 + u.toNat * 2 + v.toNat)

/-- Bit `i` of the channel-status block of pin `n` as its registers hold it. -/
def csBit (n i : Nat) : Bool := s.bit (Reg.saCs n (i / 32)) (i % 32)

/-- The C and U bits that receive stream `i` has in force, by channel (R375). -/
def streamCu (i : Nat) : List Nat := (s.audio.rx.get {} i).cu

/-- One frame of output `n` from its slot words (R363–R365): the words on the wire, and the pin after it. -/
def saFrame (n : Nat) (ws : List Word) : List Word × SaSt :=
  let x := s.saAt n
  let next (x : SaSt) (f : Nat) (a b : Nat) : SaSt :=
    if f = 191 then { x with frame := 0, crcA := 0xFF, crcB := 0xFF } else { x with frame := f + 1, crcA := a, crcB := b }
  match s.saPers n with
  | 2 =>
    let f := x.frame
    let c := s.csBit n f
    ((List.range ws.length).map fun i =>
      subframe (ws.getD i 0) c false ((i == 0).toNat + 2 + 4 * (i % 2) + 8 * (f == 0).toNat), next x f 0xFF 0xFF)
  | 4 =>
    let cu := s.streamCu (s.fld (Reg.saCfg n) Fld.saCfg_CS_STREAM)
    let strm := s.bit (Reg.saCfg n) 10
    let restart := strm && (cu.getD 0 0).testBit 2
    let f := if restart then 0 else x.frame
    let (ka, kb) := if restart then (0xFF, 0xFF) else (x.crcA, x.crcB)
    let ca := if 184 ≤ f then ka.testBit (f - 184) else if strm then (cu.getD 0 0).testBit 0 else s.csBit n f
    let cb := if 184 ≤ f then kb.testBit (f - 184) else if strm then (cu.getD 1 0).testBit 0 else s.csBit n f
    let step (k : Nat) (b : Bool) : Nat := if f < 184 then crccBit k b else k
    ([subframe (ws.getD 0 0) ca false (8 * (f == 0).toNat), subframe (ws.getD 1 0) cb false 4], next x f (step ka ca) (step kb cb))
  | _ => (ws.map fun w => BitVec.ofNat 32 (w.toNat / 256 * 256), x)

/-- The slots that output `n` reads. -/
def saReads (n : Nat) : List Nat := (List.range (s.saSent n)).map fun i => s.saBase n + i

/-- The words that output `n` launches (R27): a direct route's word before the slot's; a word that came too late is replaced by the previous one with
HELD. -/
def saWords (n : Nat) (late : Bool) : List Word :=
  if late then (s.saAt n).last.map (· ||| 4) else (s.saReads n).map fun i => s.store.direct.get (s.slot i) i

/-- Output `n` launches its frame; a word that came too late is counted (R27). -/
def saLaunch (n : Nat) (late : Bool) : State :=
  let ws := s.saWords n late
  let t := if late then s.countSat (Reg.saLate n) else s
  let (wire, x) := s.saFrame n ws
  let t := t.setSa n fun _ => { x with last := ws }
  if s.saPers n = 6 then t else t.send (.serialFrame n wire)

/-- The bits of a TDM frame, most significant first in each slot; formats 0 and 2 delay them by one clock (R365). -/
def tdmBits (fmt : Nat) (wire : List Word) : List Bool :=
  let bits := wire.flatMap fun w => (List.range 32).map fun i => w.toNat.testBit (31 - i)
  if fmt = 0 ∨ fmt = 2 then false :: bits.dropLast else bits

/-- Frame sync over a TDM frame of `n` bit clocks (R365). -/
def tdmSync (fmt n : Nat) : List Bool :=
  (List.range n).map fun c => match fmt with
    | 0 | 1 => c == 0
    | 2 => decide (n / 2 ≤ c)
    | _ => decide (c < n / 2)

/-- The frame of bank `b`, a master of domain `dom`, with the pins that run as outputs in it (R365). -/
def tdmLaunch (dom b : Nat) (late : List Nat) : State :=
  if !(s.bankMaster b && s.bankDom b == some dom && !s.bankBad b) then s
  else
    let cfg := Reg.serialBankCfg b
    let fmt := s.fld cfg ⟨2, 2⟩
    let n := if s.bit cfg 4 then 16 else 8
    let pins := ((List.range 8).map (8 * b + ·)).filter fun p => (s.saAt p).enabled && s.saPers p == 6
    s.send (.tdmFrame b (s.bit cfg 0) (tdmSync fmt (32 * n)) (pins.map fun p => (p, tdmBits fmt (s.saFrame p (s.saWords p (late.contains p))).1)))

/-- A block reset of SERIAL (R377): inputs return to SEARCH and counters clear. -/
def serialReset : State :=
  let t := (List.range 48).foldl (fun t n =>
    let t := [Reg.saSlips n, Reg.saParity n, Reg.saLate n, Reg.saCsBad n].foldl (fun t a => t.wr a 0) t
    if t.saIn n then
      let e := (t.saAt n).enabled
      let t := t.wrRun (Reg.saCs n 0) (List.replicate 6 0)
      (t.setSa n fun _ => { enabled := e }).wrn (Reg.saStatus n) e.toNat
    else t) s
  (t.wr Reg.serialEvtLo 0).wr Reg.serialEvtHi 0

end State

/-! ### The rows -/

/-- The next instant of domain `d` is less than 3.5 µs away, and so a word that completes now enters a boundary later, in PAIR mode (R489). -/
def State.wordLate (s : State) (d : Nat) : Bool :=
  let (num, den) := s.rateQ d
  let t := (s.tb 0).t
  s.pairMode && decide ((t * num / (secondFine * den) + 1) * secondFine * den < (t + 3500 * 2 ^ 48) * num)

/-- SERIAL_FRAME_RX (R364, R366, R489): parity and channel status are counted and followed; the frame enters the elastic buffer of two
frames, or is dropped and counted as a slip. -/
def execSerialFrameRx (n : Fin 48) (chans : List ChanIn) (z : Bool) (s : State) : Res :=
  done (
    let x := s.saAt n
    if !(x.enabled && x.locked && s.saIn n) then s
    else
      let s1 := s.countSatBy (Reg.saParity n) (chans.filter (· == ChanIn.badParity)).length
      let s2 := if s.saPers n = 3 then s1.csFollow n chans z else s1
      if s.saDom n = 2 then s2.setSa n fun x => { x with cu := chans.map (State.cuOf z) }
      else if 2 ≤ x.buffer.length then s2.countSat (Reg.saSlips n)
      else
        let due := (s.domAt (s.saDom n)).n + (if s.wordLate (s.saDom n) then 2 else 1)
        s2.setSa n fun x => { x with buffer := x.buffer ++ [⟨due, chans, z⟩] })

/-- SERIAL_LOCK (R378, R384): the input runs at its measured rate; out of LOST an input of domain A or B comes with its first sample (R360). -/
def execSerialLock (n : Fin 48) (rate : BitVec 24) (s : State) : Res :=
  done (if !((s.saAt n).enabled && s.saIn n) then s
  else
    let t := (s.put (Reg.saStatus n) ⟨8, 24⟩ rate.toNat).setSa n fun x => { x with locked := true }
    if t.saState n = 1 || t.saDom n == 2 then t.saTo n 2 else t)

/-- SERIAL_LOCK_LOST (R360, R378): frames stop; an input of domain X is lost at once, one of A or B by R360. -/
def execSerialLockLost (n : Fin 48) (s : State) : Res :=
  done (if !((s.saAt n).locked && s.saIn n) then s
  else
    let t := s.setSa n fun x => { x with locked := false, csAcc := [] }
    if t.saDom n = 2 then t.saTo n 3 else t)

/-- SERIAL_LAUNCH (R27, R365): 560 ns after a boundary of domain `dom` each master bank and each running output launches its frame; `late` names the pins a word did not reach. -/
def execSerialLaunch (dom : Fin 2) (late : List Nat) (s : State) : Res :=
  done (if !s.domUsed dom then s
  else
    let t := (List.range 6).foldl (fun (t : State) (b : Nat) => t.tdmLaunch dom b late) s
    ((List.range 48).filter fun n => (s.saAt n).enabled && s.saOut n && s.saDom n == dom.val).foldl
      (fun t n => t.saLaunch n (late.contains n)) t)

end Sys2Proof.Machine
end

