-- ==== Sys2Proof/Machine/Stream.lean ====
section
/-!
DEFINITION. Network streams, asynchronous converters and bridges (ch. 12): matching and checks of received packets, lanes and claims,
playout, transmit packets and their policy, and the block resets of STREAM and STORE.
-/

namespace Sys2Proof.Machine

/-! ### Packets -/

/-- The claim in a block of one-byte header-extension elements (R369): the first with the ID and L = 1. -/
def claimIn (id : Nat) : Nat → List Byte → Option Nat
  | 0, _ => none
  | _ + 1, [] => none
  | fuel + 1, b :: bs =>
    let n := b.toNat
    if n = 0 then claimIn id fuel bs
    else if n / 16 = 15 then none
    else if n / 16 = id ∧ n % 16 = 1 then (if 2 ≤ bs.length then some (beNat (bs.take 2)) else none)
    else claimIn id fuel (bs.drop (n % 16 + 1))

/-- An RTP packet taken apart (R368): payload type, timestamp, claim, payload; `none` where the version is not 2 or it is cut short. -/
def parseRtp (id : Nat) (b : List Byte) : Option (Nat × Nat × Option Nat × List Byte) :=
  let v := beAt b 0 1
  let h := 12 + 4 * (v % 16)
  if b.length < h ∨ v / 64 ≠ 2 then none
  else
    let x := v.testBit 4
    let words := if x then beAt b (h + 2) 2 else 0
    let ext := if x then 4 + 4 * words else 0
    if b.length < h + ext then none
    else
      let body := b.drop (h + ext)
      let pad := if v.testBit 5 then (body.getLastD 0).toNat else 0
      let claim := if x && beAt b h 2 == 0xBEDE then claimIn id (4 * words + 1) (slice b (h + 4) (4 * words)) else none
      some (beAt b 1 1 % 128, beAt b 4 4, claim, body.take (body.length - pad))

/-- The octets of a sample (R367). -/
def sampleSize (prof enc : Nat) : Nat :=
  match prof with
  | 1 => 4
  | 2 => if enc = 0 then 3 else if enc = 1 then 2 else 4
  | _ => if enc = 1 then 2 else 3

/-- A received sample as a slot word, with its C, U and block-start bits (R375, R376).  The order of the bits in an AM824 label
is that of SMPTE ST 2110-31 (PRESUMED, log entry 29). -/
def sampleWord (prof enc : Nat) (b : List Byte) : Word × Nat :=
  if prof = 1 then
    let l := beAt b 0 1
    (if l.testBit 0 then 0 else BitVec.ofNat 32 (beAt b 1 3 * 256 + 1),
     (l.testBit 2).toNat + 2 * (l.testBit 1).toNat + 4 * (l.testBit 5).toNat)
  else if sampleSize prof enc = 2 then (BitVec.ofNat 32 (beAt b 0 2 * 65536 + 1), 0)
  else (BitVec.ofNat 32 (beAt b 0 3 * 256 + 1), 0)

/-- The samples of a payload: rows of `ch` channels. -/
def samplesOf (prof enc ch : Nat) : Nat → List Byte → List (List Word × List Nat)
  | 0, _ => []
  | n + 1, b =>
    let sz := sampleSize prof enc
    let row := (List.range ch).map fun c => sampleWord prof enc (slice b (c * sz) sz)
    (row.map (·.1), row.map (·.2)) :: samplesOf prof enc ch n (b.drop (ch * sz))

/-- The nsr code of IEEE 1722 AAF for a rate (PRESUMED, log entry 29). -/
def nsrOf (hz : Nat) : Nat :=
  match hz with
  | 44100 => 4 | 48000 => 5 | 88200 => 6 | 96000 => 7 | 176400 => 8 | 192000 => 9 | _ => 0

/-- The AAF format code and bit depth of an encoding (PRESUMED, log entry 29). -/
def aafFormat (enc : Nat) : Nat × Nat := if enc = 0 then (3, 24) else if enc = 1 then (4, 16) else (2, 32)

/-- XRATE in Hz (R382). -/
def xrateHz (x : Nat) : Nat :=
  match x with
  | 0 => 44100 | 1 => 48000 | 2 => 88200 | 3 => 96000 | 4 => 176400 | _ => 192000

/-- A signed 32-bit difference (R355). -/
def diff32 (a b : Nat) : Int := sgn 32 (a + 2 ^ 32 - b % 2 ^ 32)

namespace State

variable (s : State)

/-- Receive entry `i` beyond its registers. -/
def rxE (i : Nat) : RxSt := s.audio.rx.get {} i

/-- Change receive entry `i`. -/
def setRx (i : Nat) (f : RxSt → RxSt) : State := s.setAudio fun a => { a with rx := a.rx.set {} i (f (a.rx.get {} i)) }

/-- Transmit entry `i` beyond its registers. -/
def txE (i : Nat) : TxSt := s.audio.tx.get {} i

/-- Change transmit entry `i`. -/
def setTx (i : Nat) (f : TxSt → TxSt) : State := s.setAudio fun a => { a with tx := a.tx.set {} i (f (a.tx.get {} i)) }

/-- CLAIM_ID in force (R383). -/
def claimId : Nat := let c := s.rdn Reg.streamCtrl / 256 % 16; if c = 0 ∨ c = 15 then 7 else c

/-- STREAM_CTRL.EN. -/
def streamEn : Bool := s.bit Reg.streamCtrl 0

/-! ### Entry registers (R379–R382); `b` is the entry's base -/

/-- FORMAT.PROFILE. -/
def fmtProf (b : Nat) : Nat := s.rdn (b + 4) / 2 ^ 30
/-- FORMAT.ENC; profile 1 ignores it. -/
def fmtEnc (b : Nat) : Nat := if s.fmtProf b = 1 then 0 else s.rdn (b + 4) / 2 ^ 28 % 4
/-- FORMAT.CHANNELS. -/
def fmtCh (b : Nat) : Nat := s.rdn (b + 4) / 256 % 128
/-- FORMAT.SAMPLES. -/
def fmtSmp (b : Nat) : Nat := s.rdn (b + 4) % 256
/-- FORMAT.PT. -/
def fmtPt (b : Nat) : Nat := s.rdn (b + 4) / 65536 % 128
/-- Address word `k` of path `p`. -/
def pAddr (b p k : Nat) : Nat := s.rdn (b + 0x10 + 0x10 * p + 4 * k)
/-- P_CFG of path `p`. -/
def pCfg (b p : Nat) : Nat := s.rdn (b + 0x30 + 4 * p)
/-- P_CFG.PORT. -/
def pPort (b p : Nat) : Nat := s.pCfg b p / 2 ^ 30
/-- P_CFG.KIND: 0 off, 1 IPv4, 2 IPv6, 3 L2. -/
def pKind (b p : Nat) : Nat := s.pCfg b p / 2 ^ 28 % 4
/-- P_CFG.VID. -/
def pVid (b p : Nat) : Nat := s.pCfg b p / 65536 % 4096
/-- P_CFG.UDP_PORT. -/
def pUdp (b p : Nat) : Nat := s.pCfg b p % 65536
/-- Path `p` is enabled and not off. -/
def pOn (b p : Nat) : Bool := s.bit b (2 + p) && s.pKind b p != 0
/-- The IP group of path `p`. -/
def pIp (b p : Nat) : Nat :=
  if s.pKind b p = 1 then s.pAddr b p 0
  else s.pAddr b p 0 * 2 ^ 96 + s.pAddr b p 1 * 2 ^ 64 + s.pAddr b p 2 * 2 ^ 32 + s.pAddr b p 3
/-- The MAC of an L2 path (R381). -/
def pMac (b p : Nat) : Nat := s.pAddr b p 0 * 65536 + s.pAddr b p 1 / 65536
/-- The stream_id of an L2 path. -/
def pStream (b p : Nat) : Nat := s.pAddr b p 2 * 2 ^ 32 + s.pAddr b p 3

/-- A path's kind suits the profile, and an IP address is a group (R367, R381). -/
def pathOk (b p : Nat) : Bool :=
  !s.pOn b p ||
    (if s.fmtProf b = 2 then s.pKind b p == 3
     else if s.pKind b p = 1 then s.pAddr b p 0 / 2 ^ 28 == 14
     else s.pKind b p == 2 && s.pAddr b p 0 / 2 ^ 24 == 255)

/-- The values of FORMAT and the paths lie inside the table of R367. -/
def fmtOk (b : Nat) : Bool :=
  let ch := s.fmtCh b
  1 ≤ ch && ch ≤ 64 && s.pathOk b 0 && s.pathOk b 1 &&
    (match s.fmtProf b with
     | 0 => s.fmtEnc b ≤ 1
     | 1 => ch % 2 == 0
     | 2 => s.fmtEnc b ≤ 2
     | _ => s.fmtEnc b == 0)

/-! ### Media counts (R354) -/

/-- The media count of time base `tb` now at a rate: the largest k with k ÷ f at or before its time. -/
def mediaOf (tb num den : Nat) : Nat := (s.tb tb).t * num / (secondFine * den)

/-- The SP now running for receive entry `i` and the media count of its last boundary. -/
def rxNow (i : Nat) : Nat × Nat :=
  let d := s.rdn (Reg.rxSlot i) / 2 ^ 30
  if d < 2 then ((s.domAt d).n, (s.domAt d).count)
  else
    let m := s.mediaOf (s.rdn (Reg.rxSlot i) / 2 ^ 27 % 8) (xrateHz (s.rdn (Reg.rxSlot i) / 2 ^ 24 % 8)) 1
    (m, m)

/-- The SP in which a packet that completes now is reckoned to arrive, and its media count (R489). -/
def rxArrival (i : Nat) : Nat × Nat :=
  let d := s.rdn (Reg.rxSlot i) / 2 ^ 30
  let add := if d < 2 then (s.wordLate d).toNat else 0
  ((s.rxNow i).1 + add, (s.rxNow i).2 + add)

/-! ### Receive entries: state and lanes (R372–R374) -/

/-- STATE of receive entry `i`: 0 OFF, 1 WAIT, 2 PLAY, 3 LOST. -/
def rxState (i : Nat) : Nat := s.rdn (Reg.rxStatus i) % 4

/-- Set the event bit of receive entry `i` and raise interrupt 43. -/
def rxEvent (i : Nat) : State := (s.putBit (Reg.streamRxEvt (i / 32)) (i % 32) true).raiseIrq 43

/-- Put STATE of receive entry `i` (R372); an entry that leaves PLAY delivers no samples to its ASRC group (R358). -/
def rxTo (i st : Nat) : State :=
  if s.rxState i = st then s
  else
    let t := (s.put (Reg.rxStatus i) ⟨0, 2⟩ st).rxEvent i
    if st = 2 then t else t.asrcUnlock (256 + i) false

/-- Count a discarded packet with its reason (R371). -/
def rxDiscard (i why : Nat) : State := (s.countSat (Reg.rxDiscard i)).put (Reg.rxStatus i) ⟨4, 4⟩ why

/-- Show LIVE_PATHS: the paths heard within 64 SP (R373). -/
def rxLivePaths (i now : Nat) : State :=
  let h := (s.rxE i).heard
  let live (p : Nat) : Bool := match h.get 0 p with | 0 => false | k + 1 => now - k ≤ 64
  s.put (Reg.rxStatus i) ⟨10, 2⟩ ((live 0).toNat + 2 * (live 1).toNat)

end State

namespace RxLane

/-- A lane without sources is free. -/
def free (l : RxLane) : Bool := l.sources.isEmpty

/-- A lane lives while one of its sources has been heard within `hold` SP (R374). -/
def live (l : RxLane) (now hold : Nat) : Bool := l.sources.any fun x => now - x.heard ≤ hold

/-- Take a source out. -/
def dropSrc (l : RxLane) (path addr : Nat) : RxLane :=
  let r := l.sources.filter fun x => !(x.path == path && x.addr == addr)
  if r = [] then {} else { l with sources := r }

/-- Put a source in, heard now with its claim, which the lane takes. -/
def addSrc (l : RxLane) (path addr claim now : Nat) : RxLane :=
  { l with claim := claim, sources := (l.sources.filter fun x => !(x.path == path && x.addr == addr)) ++ [⟨path, addr, claim, now⟩] }

/-- The lane holds a source. -/
def has (l : RxLane) (path addr : Nat) : Bool := l.sources.any fun x => x.path == path && x.addr == addr

end RxLane

namespace RxSt

/-- Lane `k` of an entry. -/
def lane (x : RxSt) (k : Nat) : RxLane := if k = 0 then x.lane0 else x.lane1

/-- Change lane `k` of an entry. -/
def setLane (x : RxSt) (k : Nat) (f : RxLane → RxLane) : RxSt :=
  if k = 0 then { x with lane0 := f x.lane0 } else { x with lane1 := f x.lane1 }

/-- The sources of both lanes. -/
def sources (x : RxSt) : List RxSource := x.lane0.sources ++ x.lane1.sources

/-- The lane a source is bound to. -/
def laneOf (x : RxSt) (path addr : Nat) : Option Nat :=
  if x.lane0.has path addr then some 0 else if x.lane1.has path addr then some 1 else none

/-- Take a source out of whichever lane holds it. -/
def dropSrc (x : RxSt) (path addr : Nat) : RxSt :=
  let y := if x.lane0.has path addr then { x with lane0 := x.lane0.dropSrc path addr } else x
  if y.lane1.has path addr then { y with lane1 := y.lane1.dropSrc path addr } else y

/-- A new source finds its lane (R374): one of equal claim, a free one, or the one of lower claim, which is emptied. -/
def bindNew (x : RxSt) (path addr claim now : Nat) : Option Nat × RxSt :=
  let a := x.lane0
  let b := x.lane1
  let pick : Option (Nat × Bool) :=
    if !a.free && a.claim == claim then some (0, false)
    else if !b.free && b.claim == claim then some (1, false)
    else if a.free then some (0, true)
    else if b.free then some (1, true)
    else if a.claim < claim ∧ a.claim ≤ b.claim then some (0, true)
    else if b.claim < claim then some (1, true)
    else none
  match pick with
  | none => (none, x)
  | some (k, fresh) => (some k, x.setLane k fun l => (if fresh then {} else l).addSrc path addr claim now)

/-- Bind a packet's source (R374): the lane, or none when it is refused; the entry after; and whether equal claims met on the path. -/
def bindSrc (x : RxSt) (path addr claim now hold : Nat) : Option Nat × RxSt × Bool :=
  let mine (r : RxSource) : Bool := r.path == path && r.addr == addr
  let rivals := x.sources.filter fun r => r.path == path && r.addr != addr && r.claim == claim
  let was := x.refused.any fun r => mine r && r.claim == claim
  let x0 := { x with refused := x.refused.filter fun r => !mine r }
  if claim != 0 && was && !rivals.isEmpty then (none, { x0 with refused := x0.refused ++ [⟨path, addr, claim, now⟩] }, false)
  else
    match (if claim = 0 then none else rivals.find? fun r => now - r.heard ≤ hold) with
    | some r =>
      if addr < r.addr then
        let k := (x0.laneOf path r.addr).getD 0
        let y := (x0.dropSrc path addr).setLane k fun l =>
          (({ l with sources := l.sources.filter fun q => !(q.path == path && q.addr == r.addr) }).addSrc path addr claim now)
        (some k, { y with refused := y.refused ++ [r] }, true)
      else
        let y := x0.dropSrc path addr
        (none, { y with refused := y.refused ++ [⟨path, addr, claim, now⟩] }, true)
    | none =>
      match x0.laneOf path addr with
      | some k => (some k, x0.setLane k fun l => l.addSrc path addr claim now, false)
      | none => let r := x0.bindNew path addr claim now; (r.1, r.2, false)

end RxSt

/-- Place the samples of a packet in a lane (R372, R373), `pos` the boundary of the first and `media` the last boundary: the lane, and the numbers
stored, duplicate and early. -/
def placeSamples (path bufSp media : Nat) : RxLane → Nat → Nat → List (List Word × List Nat) → RxLane × Nat × Nat × Nat
  | l, _, _, [] => (l, 0, 0, 0)
  | l, pos, ts, x :: xs =>
    let ahead := diff32 pos (media + 1)
    let p := pos % 2 ^ 32
    let here : RxLane × Nat × Nat × Nat :=
      if ahead < 0 then (l, 0, (if l.passed.get 0 p ≠ 0 ∧ l.passed.get 0 p ≠ path + 1 then 1 else 0), 0)
      else if (bufSp : Int) - 1 < ahead then (l, 0, 0, 1)
      else if (l.buf.get {} p).words ≠ [] then (l, 0, 1, 0)
      else ({ l with buf := l.buf.set {} p ⟨x.1, path, ts % 2 ^ 32, x.2⟩ }, 1, 0, 0)
    let r := placeSamples path bufSp media here.1 (pos + 1) (ts + 1) xs
    (r.1, here.2.1 + r.2.1, here.2.2.1 + r.2.2.1, here.2.2.2 + r.2.2.2)

namespace State

variable (s : State)

/-- A checked packet reaches receive entry `i` on a path (R371–R374); `at_` is the boundary of its first sample where the packet itself
names it (R376). -/
def rxTake (i path addr : Nat) (claim : Option Nat) (ts : Nat) (at_ : Option Nat) (smp : List (List Word × List Nat)) : State :=
  let x := s.rxE i
  let (now, media) := s.rxArrival i
  let known := x.sources.any fun r => r.path == path && r.addr == addr
  if !known && 4 ≤ x.sources.length then s.rxDiscard i 4
  else
    let c := claim.getD (s.rdn (Reg.rxClaimCfg i) % 65536)
    let hold := max 1 (s.rdn (Reg.rxCtrl i) / 2 ^ 24)
    let (k?, y, clash) := x.bindSrc path addr c now hold
    let s := s.setRx i fun _ => y
    let s := if clash then (s.raiseFault 28 (0x4000 + i)).putBit (Reg.rxStatus i) 12 true else s
    match k? with
    | none => s.rxDiscard i 6
    | some k =>
      let st := s.rxState i
      let fixed := s.bit (Reg.rxPlayout i) 31
      let off := if fixed then s.rdn (Reg.rxPlayout i) / 65536 % 4096 else if st = 2 then y.offset else uns 32 (diff32 (media + 1) ts)
      let pos := at_.getD (ts + off)
      let (l, stored, dup, early) := placeSamples path y.bufSp media (y.lane k) pos ts smp
      let s := s.setRx i fun z => z.setLane k fun _ => l
      let s := s.countSatBy (Reg.rxDup i) dup
      let s := if 0 < early then s.rxDiscard i 3 else if stored + dup = 0 then s.rxDiscard i 2 else s
      if stored + dup = 0 then s
      else
        let s := s.countSat (Reg.rxPkt i + 4 * path)
        let s := (s.setRx i fun z => { z with heard := z.heard.set 0 path (now + 1), offset := if at_.isSome then z.offset else off }).rxLivePaths i now
        let s := if fixed || at_.isSome then s else s.put (Reg.rxPlayout i) ⟨16, 12⟩ off
        if st = 2 ∨ stored = 0 then s
        else
          let s := if st = 3 then (s.countSat (Reg.rxResumes i)).setRx i fun z => { z with recover := true } else s
          (s.setRx i fun z => { z with held := 0 }).rxTo i 2

/-- The paths on which a frame received on port `n` belongs to receive entry `i` (R371). -/
def rxMatch (i n : Nat) (e : Eth) : Option Nat :=
  let b := Reg.rxCtrl i
  let vid := (e.tag.getD 0) % 4096
  if s.rxState i = 0 then none
  else [0, 1].find? fun p =>
    s.pOn b p && s.pPort b p == n && s.pVid b p == vid &&
      (if s.pKind b p = 3 then e.type == 0x22F0 && e.dst == s.pMac b p && beAt e.body 4 8 == s.pStream b p
       else match parseUdp e with
         | some u => u.v6 == (s.pKind b p == 2) && u.dst == s.pIp b p && u.dport == s.pUdp b p
         | none => false)

/-- Some receive entry matches a frame (R31). -/
def streamMatches (n : Nat) (e : Eth) : Bool := s.streamEn && (List.range 256).any fun i => (s.rxMatch i n e).isSome

/-- The boundary at which a presentation time of 32 bits in ns falls (R376), for a domain's rate. -/
def aafBoundary (pt : Nat) (num den : Nat) : Nat :=
  let now : Nat := (s.tb 0).t / 2 ^ 48
  let t : Int := (now : Int) + diff32 pt now
  ((2 * t * num + 1000000000 * den) / (2 * 1000000000 * den)).toNat

/-- The rate of receive entry `i` as a fraction. -/
def rxRate (i : Nat) : Nat × Nat :=
  let d := s.rdn (Reg.rxSlot i) / 2 ^ 30
  if d < 2 then s.rateQ d else (xrateHz (s.rdn (Reg.rxSlot i) / 2 ^ 24 % 8), 1)

/-- The nominal rate of receive entry `i`, Hz. -/
def rxHz (i : Nat) : Nat :=
  let d := s.rdn (Reg.rxSlot i) / 2 ^ 30
  if d < 2 then s.nominalRate d else xrateHz (s.rdn (Reg.rxSlot i) / 2 ^ 24 % 8)

/-- The payload of a packet is k whole samples, 1–255, or 1–32 in profile 3 (R371). -/
def rowsIn (prof enc ch len : Nat) : Option Nat :=
  let row := ch * sampleSize prof enc
  let k := len / row
  if row = 0 ∨ len % row ≠ 0 ∨ k = 0 ∨ (if prof = 3 then 32 else 255) < k then none else some k

/-- A frame that belongs to receive entry `i` on path `p` (R371, R375, R376). -/
def rxFrame (i p : Nat) (e : Eth) : State :=
  let b := Reg.rxCtrl i
  let prof := s.fmtProf b
  let enc := s.fmtEnc b
  let ch := s.fmtCh b
  if prof = 2 then
    let (f, depth) := aafFormat enc
    let len := beAt e.body 20 2
    let ok := beAt e.body 0 1 == 2 && beAt e.body 16 1 == f && beAt e.body 17 1 / 16 == nsrOf (s.rxHz i) &&
      beAt e.body 17 2 % 1024 == ch && beAt e.body 19 1 == depth && 24 + len ≤ e.body.length
    match (if ok then rowsIn prof enc ch len else none) with
    | none => s.rxDiscard i 1
    | some k =>
      let (num, den) := s.rxRate i
      let m := s.aafBoundary (beAt e.body 12 4) num den
      s.rxTake i p e.src none m (some m) (samplesOf prof enc ch k (slice e.body 24 len))
  else
    match parseUdp e with
    | none => s
    | some u =>
      match parseRtp s.claimId u.payload with
      | none => s.rxDiscard i 1
      | some (pt, ts, claim, body) =>
        match (if pt = s.fmtPt b then rowsIn prof enc ch body.length else none) with
        | none => s.rxDiscard i 1
        | some k => s.rxTake i p u.src claim ts none (samplesOf prof enc ch k body)

/-- Serial inputs and receive entries stand aside: the slots of entry `i` are its own while enabled. -/
def rxCfgOk (i : Nat) : Bool :=
  let b := Reg.rxCtrl i
  let d := s.rdn (Reg.rxSlot i) / 2 ^ 30
  let buf := s.rdn (Reg.rxPlayout i) % 16
  let off := s.rdn (Reg.rxPlayout i) / 65536 % 4096
  s.fmtOk b && 4 ≤ buf && buf ≤ 12 && (!s.bit (Reg.rxPlayout i) 31 || (1 ≤ off && off < 2 ^ buf)) &&
    (if d = 2 then s.rdn (Reg.rxSlot i) / 2 ^ 24 % 8 ≤ 5
     else d < 2 && s.slotsFree (.rx i) d (s.rdn (Reg.rxSlot i) % 8192) (s.fmtCh b))

/-- RX_s_CTRL.ENABLE has been written 1 (R372). -/
def rxStart (i : Nat) : State :=
  let b := Reg.rxCtrl i
  let s := (s.putBit (Reg.rxStatus i) 15 false).putBit (Reg.rxStatus i) 14 false
  if !s.rxCfgOk i then s.putBit (Reg.rxStatus i) 15 true
  else
    let d := s.rdn (Reg.rxSlot i) / 2 ^ 30
    let base := s.rdn (Reg.rxSlot i) % 8192
    let ch := s.fmtCh b
    let bufSp := 2 ^ (s.rdn (Reg.rxPlayout i) % 16)
    let pages := (8 * bufSp * ch + 4095) / 4096
    if s.poolFree < pages then s.putBit (Reg.rxStatus i) 14 true
    else
      let s := s.takePages pages
      let s := if d < 2 then s.takeSlots (.rx i) base ch else s
      (s.setRx i fun _ => { pages := pages, dom := d, base := base, chans := ch, bufSp := bufSp, xAt := (s.rxNow i).2 }).rxTo i 1

/-- The sources that receive entry `i` has gained or lost since `before` enter or leave the partner table (R515); `ssrc` of the packet at hand. -/
def rxPartners (i ssrc : Nat) (before : List RxSource) : State :=
  let now := (s.rxE i).sources
  let same (a b : RxSource) : Bool := a.path == b.path && a.addr == b.addr
  let words (a : Nat) : Nat × Nat :=
    if s.fmtProf (Reg.rxCtrl i) = 2 then (a % 2 ^ 32, a / 2 ^ 32 % 65536)
    else if 2 ^ 32 ≤ a then (a % 2 ^ 32, a / 2 ^ 32 % 2 ^ 32) else (a, ssrc)
  let t := (now.filter fun r => !before.any (same r)).foldl
    (fun (t : State) (r : RxSource) => t.sightLater (.seen 2 r.addr (words r.addr).1 (words r.addr).2 (r.path * 256 + i))) s
  (before.filter fun r => !now.any (same r)).foldl (fun (t : State) (r : RxSource) => t.sightLater (.gone 2 r.addr (r.path * 256 + i))) t

/-- RX_s_CTRL.ENABLE has been written 0 (R372): buffers return, slots zero. -/
def rxStop (i : Nat) : State :=
  let old := (s.rxE i).sources
  let s := if s.rxState i = 0 then s else (((s.returnPages (s.rxE i).pages).releaseSlots (.rx i)).setRx i fun _ => {}).rxPartners i 0 old
  let s := s.rxTo i 0
  (s.wrn (Reg.rxStatus i) (s.rdn (Reg.rxStatus i) &&& 0x10F0)).wr (Reg.rxClaimStatus i) 0

/-- A write of ENABLE takes effect. -/
def rxEnable (i : Nat) (en : Bool) : State :=
  if !en then s.rxStop i else if s.rxState i = 0 then s.rxStart i else s

/-- The words that receive entry `i` writes at boundary `media`, number `now`, of its domain (R360, R372–R374). -/
def rxIngress (i now media : Nat) : List (Nat × Word) × State :=
  let x := s.rxE i
  let m := media % 2 ^ 32
  let hold := max 1 (s.rdn (Reg.rxCtrl i) / 2 ^ 24)
  let lim := s.rdn (Reg.rxCtrl i) / 65536 % 256
  let la := x.lane0.live now hold
  let lb := x.lane1.live now hold
  let first := if la && (!lb || x.lane1.claim ≤ x.lane0.claim) then some 0 else if lb then some 1 else none
  let sel := match first with | some k => (x.lane k).claim | none => 0
  let second := if la && lb then (match first with | some k => (x.lane (1 - k)).claim | none => 0) else 0
  -- the higher live claim
  let s := if s.rdn (Reg.rxClaimStatus i) / 65536 = sel then s else s.rxEvent i
  let s := s.wrn (Reg.rxClaimStatus i) (sel * 65536 + second)
  let pick (k : Nat) : Option RxSample := let r := (x.lane k).buf.get {} m; if r.words = [] then none else some r
  let got : Option RxSample := match first with
    | none => none
    | some k => match pick k with
      | some r => some r
      | none => if s.bit (Reg.rxCtrl i) 1 && la && lb then pick (1 - k) else none
  -- the boundary passes in both lanes
  let pass (l : RxLane) : RxLane :=
    let r := l.buf.get {} m
    let l := if r.words = [] then l else { l with passed := l.passed.set 0 m (r.path + 1) }
    { l with buf := l.buf.filter fun e => decide (0 < diff32 e.1 m),
             passed := l.passed.filter fun e => decide (0 ≤ diff32 m e.1) && decide (diff32 m e.1 ≤ (x.bufSp : Int)) }
  let s := (s.setRx i fun y => { y with lane0 := pass y.lane0, lane1 := pass y.lane1 }).rxLivePaths i now
  let out (ws : List Word) : List (Nat × Word) := (List.range x.chans).map fun c => (x.base + c, ws.getD c 0)
  if s.rxState i ≠ 2 then (out [], s)
  else match got with
    | some r =>
      let ws := if x.recover then r.words.map (· ||| 3) else r.words
      let s := s.setRx i fun y => { y with held := 0, last := ws, cu := r.cu, recover := false }
      (out ws, s.wrn (Reg.rxLastTs i) r.ts)
    | none =>
      if lim < x.held + 1 then
        (out [], (s.setRx i fun y => { y with held := 0, last := [], cu := [] }).rxTo i 3)
      else
        let ws := (List.range x.chans).map fun c => x.last.getD c 0 ||| 4
        (out ws, (s.countSat (Reg.rxHeld i)).setRx i fun y => { y with held := x.held + 1, last := ws })

/-- The boundaries of receive entries in domain X (R354, R360): the media count that each takes from its own time base has gone on. -/
def xStreams : State :=
  s.audio.rx.foldl (fun (t : State) (e : Nat × RxSt) =>
    let m := (t.rxNow e.1).2
    if t.rxState e.1 = 0 ∨ (t.rxE e.1).dom ≠ 2 ∨ (t.rxE e.1).xAt = m then t
    else (t.rxIngress e.1 m m).2.setRx e.1 fun x => { x with xAt := m }) s

/-! ### Transmit entries (R368–R370, R375, R376) -/

/-- STATE of transmit entry `i`: 0 OFF, 1 SENDING, 2 SILENT, 3 CFG_ERR. -/
def txState (i : Nat) : Nat := s.rdn (Reg.txStatus i) % 8

/-- Put STATE of transmit entry `i`: a change raises interrupt 44 (R370). -/
def txTo (i st : Nat) : State :=
  if s.txState i = st then s
  else ((s.wrn (Reg.txStatus i) st).putBit (Reg.streamTxEvt (i / 32)) (i % 32) true).raiseIrq 44

/-- The sending policy of R370. -/
def txMay (i : Nat) : Bool :=
  !s.pairMode || (s.claim != 0 && s.pairState != 3 &&
    ((s.rdn (Reg.txCtrl i) / 16 % 4 == 0 && s.fmtProf (Reg.txCtrl i) != 2) || s.holding || s.bothFailed))

/-- CLAIM_EXT as it reads (R382). -/
def txExt (i : Nat) : Bool :=
  match s.fmtProf (Reg.txCtrl i) with | 3 => true | 2 => false | _ => s.bit (Reg.txCtrl i) 1

/-- The policy is judged again: SENDING or SILENT (R370). -/
def txJudge (i : Nat) : State :=
  if s.txState i = 1 ∨ s.txState i = 2 then s.txTo i (if s.txMay i then 1 else 2) else s

/-- Every transmit entry is judged again. -/
def txJudgeAll : State := (List.range 256).foldl (fun t i => t.txJudge i) s

/-- The domain of transmit entry `i`. -/
def txDom (i : Nat) : Nat := s.rdn (Reg.txSlot i) / 2 ^ 30

/-- The frame length of a transmit entry on path `p`, FCS included (R367). -/
def txFrameLen (i p : Nat) : Nat :=
  let b := Reg.txCtrl i
  let pay := s.fmtSmp b * s.fmtCh b * sampleSize (s.fmtProf b) (s.fmtEnc b)
  18 + (if s.pVid b p = 0 then 0 else 4) + pay +
    (if s.fmtProf b = 2 then 24 else (if s.pKind b p = 1 then 20 else 40) + 20 + (if s.txExt i then 8 else 0))

/-- The configuration of a transmit entry is valid (R367). -/
def txCfgOk (i : Nat) : Bool :=
  let b := Reg.txCtrl i
  let d := s.txDom i
  let base := s.rdn (Reg.txSlot i) % 8192
  s.fmtOk b && 1 ≤ s.fmtSmp b && (s.fmtProf b != 3 || s.fmtSmp b ≤ 32) && d < 2 &&
    (List.range (s.fmtCh b)).all (fun c => s.slotIn d (base + c)) &&
    [0, 1].all fun p => !s.pOn b p || s.txFrameLen i p ≤ s.maxFrame (s.pPort b p)

/-- TX_s_CTRL.ENABLE has been written (R367, R368, R370). -/
def txEnable (i : Nat) (en : Bool) : State :=
  if !en then (s.setTx i fun _ => {}).txTo i 0
  else if s.txState i = 1 ∨ s.txState i = 2 then s
  else if !s.txCfgOk i then s.txTo i 3
  else (s.setTx i fun _ => {}).txTo i (if s.txMay i then 1 else 2)

/-- The C, U and block-start bits for the channels of a transmit entry (R375). -/
def txCu (i ch : Nat) : List Nat :=
  let src := s.rdn (Reg.txCsSrc i)
  let k := src % 256
  match src / 256 % 4 with
  | 1 => let cu := (s.saAt k).cu; (List.range ch).map fun c => cu.getD (c % 2) 0
  | 2 => let cu := s.streamCu k; (List.range ch).map fun c => cu.getD c 0
  | _ => List.replicate ch (if (s.txE i).frame % 192 = 0 then 4 else 0)

/-- A sample on the wire (R368, R375, R376); VALID clear is sent as zero. -/
def sampleBytes (prof enc c : Nat) (w : Word) (cu : Nat) : List Byte :=
  let a : Int := if validOf w then audioOf w else 0
  if prof = 1 then
    let n := uns 24 a
    let v := !validOf w
    let p := xor (oddOnes 24 n) (xor v (xor (cu.testBit 0) (cu.testBit 1)))
    let label := (cu.testBit 2).toNat * 32 + (c % 2 == 0).toNat * 16 + p.toNat * 8 + (cu.testBit 0).toNat * 4 + (cu.testBit 1).toNat * 2 + v.toNat
    beBytes 1 label ++ beBytes 3 n
  else if sampleSize prof enc = 2 then beBytes 2 (uns 16 (satI 16 (divAway a 256)))
  else if sampleSize prof enc = 4 then beBytes 4 (uns 24 a * 256)
  else beBytes 3 (uns 24 a)

/-- The payload of a packet. -/
def payloadOf (prof enc : Nat) (rows : List (List Word × List Nat)) : List Byte :=
  rows.flatMap fun r => (List.range r.1.length).flatMap fun c => sampleBytes prof enc c (r.1.getD c 0) (r.2.getD c 0)

/-- The timestamp of a packet whose first sample was read at boundary `first`: the media count (R354, R368), or for AAF the TB_0 time in ns of
boundary first + AAF_LAT (R376). -/
def txStampOf (i first : Nat) : Nat :=
  let tm := s.rdn (Reg.txTiming i)
  if s.fmtProf (Reg.txCtrl i) = 2 then
    let (num, den) := s.rateQ (s.txDom i)
    (first + tm % 4096) * 1000000000 * den / num % 2 ^ 32
  else first % 2 ^ 32

/-- The RTP packet of an entry (R368, R369). -/
def rtpPacket (i ts seq : Nat) (mark : Bool) (pay : List Byte) : List Byte :=
  let x := s.txExt i
  beBytes 1 (0x80 + 16 * x.toNat) ++ beBytes 1 (128 * mark.toNat + s.fmtPt (Reg.txCtrl i)) ++ beBytes 2 seq ++ beBytes 4 ts ++
    beBytes 4 (s.rdn (Reg.txSsrc i)) ++
    (if x then [0xBE, 0xDE, 0, 1] ++ beBytes 1 (16 * s.claimId + 1) ++ beBytes 2 s.claim ++ [0] else []) ++ pay

/-- The IEEE 1722 AAF packet of an entry (R376). -/
def aafPacket (i p ts seq : Nat) (pay : List Byte) : List Byte :=
  let b := Reg.txCtrl i
  let (f, depth) := aafFormat (s.fmtEnc b)
  [0x02, 0x81] ++ beBytes 1 seq ++ [0] ++ beBytes 8 (s.pStream b p) ++ beBytes 4 ts ++ beBytes 1 f ++
    beBytes 2 (nsrOf (s.nominalRate (s.txDom i)) * 4096 + s.fmtCh b) ++ beBytes 1 depth ++ beBytes 2 pay.length ++ [0, 0] ++ pay

/-- The frame of an entry on path `p`. -/
def txFrameOn (i p ts seq : Nat) (mark : Bool) (pay : List Byte) : List Byte :=
  let b := Reg.txCtrl i
  let n := s.pPort b p
  let tm := s.rdn (Reg.txTiming i)
  let tag := if s.pVid b p = 0 then none else some (tm / 2 ^ 15 % 8 * 8192 + s.pVid b p)
  if s.fmtProf b = 2 then buildEth (s.pMac b p) (s.lineMac n) tag 0x22F0 (s.aafPacket i p ts seq pay)
  else
    let v6 := s.pKind b p == 2
    let src := if v6 then (List.range 4).foldl (fun a k => a * 2 ^ 32 + s.rdn (Reg.streamPortIpv6 n k)) 0 else s.rdn (Reg.streamPortIpv4 n)
    buildUdpFrame (groupMac v6 (s.pIp b p)) (s.lineMac n) tag
      ⟨v6, src, s.pIp b p, tm / 2 ^ 24, s.pUdp b p, s.pUdp b p, s.rtpPacket i ts seq mark pay, true⟩ v6 (tm / 2 ^ 18 % 64)

/-- The packet of transmit entry `i` is complete (R368, R370): it takes its number, and goes to path 0 and then path 1 as the policy
allows. -/
def txSendPacket (i : Nat) : State :=
  let b := Reg.txCtrl i
  let x := s.txE i
  let seq := s.rdn (Reg.txSeq i) % 65536
  let ts := s.txStampOf i x.first
  let pay := payloadOf (s.fmtProf b) (s.fmtEnc b) x.acc
  let s := s.txJudge i
  let frames := ([0, 1].filter (s.pOn b)).map fun p => (s.pPort b p, s.txFrameOn i p ts seq x.mark pay)
  let s := ((s.wrn (Reg.txSeq i) ((seq + 1) % 65536)).wrn (Reg.txLastTs i) ts).setTx i fun x => { x with acc := [], mark := false }
  if s.txMay i then frames.foldl (fun t f => t.offerFrame f.1 ⟨0, f.2, 0⟩) (s.countSat (Reg.txPkts i)) else s

/-- A boundary of its domain at transmit entry `i` (R370): the sample is read; the last of a packet sends it. -/
def txBoundary (i media : Nat) : State :=
  let b := Reg.txCtrl i
  let ch := s.fmtCh b
  let base := s.rdn (Reg.txSlot i) % 8192
  let tb := s.rdn (Reg.txTiming i) / 4096 % 8
  let (num, den) := s.rateQ (s.txDom i)
  let count := if tb = 0 ∨ s.fmtProf b = 2 then media else s.mediaOf tb num den
  let row := ((List.range ch).map fun c => s.slot (base + c), s.txCu i ch)
  let s := s.setTx i fun x => { x with first := if x.acc = [] then count else x.first, acc := x.acc ++ [row], frame := (x.frame + 1) % 192 }
  if s.fmtSmp b ≤ (s.txE i).acc.length then s.txSendPacket i else s

/-- A jump of the media count of domain `d` (R355): M in the next packet of its transmit entries. -/
def domJump (d : Nat) : State :=
  (List.range 256).foldl (fun t i => if (t.txState i = 1 ∨ t.txState i = 2) ∧ t.txDom i = d then t.setTx i fun x => { x with mark := true } else t) s

/-! ### Bridges (R356) -/

/-- AB_BRIDGES. -/
def bridgeCount : Nat := if s.loader.built then min 256 (s.param 0x04 0) else 0

/-- The destination domain of bridge `i`. -/
def bridgeDst (i : Nat) : Nat := if s.bit (Reg.bridge i) 30 then 0 else 1

/-- Bridge `i` beyond its register. -/
def bridgeE (i : Nat) : BridgeSt := s.audio.bridge.get {} i

/-- Change bridge `i` beyond its register. -/
def setBridge (i : Nat) (f : BridgeSt → BridgeSt) : State :=
  s.setAudio fun a => { a with bridge := a.bridge.set {} i (f (a.bridge.get {} i)) }

/-- Bridge `i` runs. -/
def bridgeRuns (i : Nat) : Bool := (s.bridgeE i).on

/-- The source slot of bridge `i`. -/
def bridgeSrc (i : Nat) : Nat := s.rdn (Reg.bridge i) / 8192 % 8192

/-- BRIDGE_i has been written (R356, R385, R387). -/
def bridgeRefresh (i : Nat) : State :=
  let s := (s.releaseSlots (.bridge i)).setBridge i fun _ => {}
  let s := (s.putBit (Reg.bridge i) 28 false).putBit (Reg.bridge i) 29 false
  let dst := s.rdn (Reg.bridge i) % 8192
  if s.bridgeCount ≤ i || !s.bit (Reg.bridge i) 31 then s
  else if s.slotsFree (.bridge i) (s.bridgeDst i) dst 1 && s.slotIn (1 - s.bridgeDst i) (s.bridgeSrc i) then
    let s := (s.takeSlots (.bridge i) dst 1).setBridge i fun _ => { on := true }
    s.putBit (Reg.bridge i) 29 (!s.exactRatio)
  else s.putBit (Reg.bridge i) 28 true

/-- The running bridges into domain `d`. -/
def bridgesInto (d : Nat) : List Nat := (List.range s.bridgeCount).filter fun i => s.bridgeRuns i && s.bridgeDst i == d

/-- The input samples a filter spans (DEDUCED, log entry 57): the 16 SP of R25 before and behind its centre, at most 32 × 192,000 ÷ 44,100. -/
def bridgeSpan : Nat := 140

/-- The words of domain `d` latched at its boundary `b` enter the filters of the bridges that start there (R356). -/
def bridgeTake (d b : Nat) : State :=
  (s.bridgesInto (1 - d)).foldl (fun (t : State) (i : Nat) => t.setBridge i fun x =>
    { x with inputs := (⟨t.edges, b, t.slot (t.bridgeSrc i)⟩ :: x.inputs).take bridgeSpan }) s

/-- The input samples of bridge `i` that were latched before this instant (R20). -/
def bridgeInputs (i : Nat) : List BridgeIn := (s.bridgeE i).inputs.filter fun x => x.edge < s.edges

/-- The word of bridge `i` at boundary `k` of its destination (R356): its filter's value 16 SP back (R25, log entry 57), with BRIDGED, and VALID, HELD and
RECOVERY of the newest input sample; a word with VALID clear carries zero audio (R386). -/
def bridgeIngress (i k : Nat) : List (Nat × Word) × State :=
  let dst := s.rdn (Reg.bridge i) % 8192
  let t := s.putBit (Reg.bridge i) 29 (!s.exactRatio)
  if !s.exactRatio then ([(dst, 0x10)], t)
  else
    let ins := s.bridgeInputs i
    let (a, b) := s.rateQ (1 - s.bridgeDst i)
    let (c, e) := s.rateQ (s.bridgeDst i)
    match ins with
    | [] => ([(dst, 0x10)], t)
    | x :: _ =>
      let flags := 0x10 + flagsOf x.word % 8
      let centre := ((k : Int) - 16) * (e * a : Nat) - (x.count * b * c : Nat)
      let v := if validOf x.word then Config.bridgeFilter (c * b) (e * a) centre (ins.map fun y => audioOf y.word) else 0
      ([(dst, BitVec.ofNat 32 (v.toNat * 256 + flags))], t)

/-! ### Block resets -/

/-- A block reset of STREAM (R377). -/
def streamReset : State :=
  let s := (List.range 256).foldl (fun (t : State) (i : Nat) =>
    let t := (List.range 7).foldl (fun t k => t.wr (Reg.rxClaimStatus i + 4 * k) 0) t
    let t := t.wr (Reg.rxLastTs i) 0
    let t := [Reg.txPkts i, Reg.txSeq i, Reg.txLastTs i].foldl (fun t a => t.wr a 0) t
    let t := if t.txState i = 1 ∨ t.txState i = 2 then t.setTx i fun _ => {} else t
    if t.rxState i = 0 then t
    else ((t.wrn (Reg.rxStatus i) 1).setRx i fun x => { pages := x.pages, dom := x.dom, base := x.base, chans := x.chans, bufSp := x.bufSp, xAt := x.xAt }).rxPartners i 0 (t.rxE i).sources) s
  (List.range 20).foldl (fun t k => t.wr (Reg.streamRxEvt 0 + 4 * k) 0) s

end State

/-! ### The rows -/

/-- STREAM_PACKET_RX (R371): the frame reaches every receive entry it belongs to. -/
def execStreamPacketRx (n : Fin 4) (frame : List Byte) (s : State) : Res :=
  done (if !s.streamEn then s
  else
    let e := parseEth frame
    let (src, ssrc) : Nat × Nat := match parseUdp e with | some u => (u.src, beAt u.payload 8 4) | none => (e.src, 0)
    (List.range 256).foldl (fun t i => match t.rxMatch i n e with
      | some p => ((t.rxFrame i p e).rxPartners i ssrc (t.rxE i).sources).sightLater (.heard 2 src (p * 256 + i))
      | none => t) s)

/-- STREAM_SOURCE_TIMEOUT (R371): a source unheard for 64 SP is removed. -/
def execStreamSourceTimeout (i : Fin 256) (path : Fin 2) (addr : BitVec 128) (s : State) : Res :=
  done (
    let x := s.rxE i
    let now := (s.rxNow i).1
    let hit (r : RxSource) : Bool := r.path == path.val && r.addr == addr.toNat && decide (64 ≤ now - r.heard)
    if !(x.sources ++ x.refused).any hit then s
    else
      (s.setRx i fun x => { x.dropSrc path addr.toNat with refused := x.refused.filter fun r => !hit r }).rxPartners i 0 x.sources)

/-- STREAM_RX_ENABLE (R372). -/
def execStreamRxEnable (i : Fin 256) (enable : Bool) (s : State) : Res :=
  done ((s.putBit (Reg.rxCtrl i) 0 enable).rxEnable i enable)

/-- STREAM_TX_ENABLE (R370). -/
def execStreamTxEnable (i : Fin 256) (enable : Bool) (s : State) : Res :=
  done ((s.putBit (Reg.txCtrl i) 0 enable).txEnable i enable)

/-- The source of an ASRC group delivers samples in domain X: a serial input that runs, or a receive entry in PLAY (R354, R357). -/
def State.asrcFed (s : State) (stream : Bool) (n : Nat) : Bool :=
  if stream then s.rxState n == 2 && (s.rxE n).dom == 2 else s.saState n == 2 && s.saIn n && s.saDom n == 2

/-- ASRC_LOCK (R357, R358): the group of a source that delivers samples locks within 30 kHz–200 kHz. -/
def execAsrcLock (stream : Bool) (index : Fin 256) (rate : BitVec 24) (s : State) : Res :=
  done (
    let src := stream.toNat * 256 + index.val
    if s.asrcGroup src = [] ∨ s.asrcFed stream index = false ∨ s.audio.groups.get 0 src ≠ 0 ∨ rate.toNat < 1920000 ∨ 12800000 < rate.toNat then s
    else
      let t := (s.asrcGroup src).foldl (fun t c => t.asrcPut c true rate.toNat) s
      (t.asrcRate src rate.toNat).raiseIrq 47)

/-- ASRC_UNLOCK (R358): the estimator of a group measures a rate, 0 when its source has stopped; a destination that changes its rate unlocks the group at
its boundary. -/
def execAsrcUnlock (stream : Bool) (index : Fin 256) (rate : BitVec 24) (s : State) : Res :=
  done (
    let src := stream.toNat * 256 + index.val
    if s.audio.groups.get 0 src = 0 then s
    else if rate = 0 then s.asrcUnlock src false
    else if s.asrcStrays src rate.toNat then s.asrcUnlock src true
    else (s.asrcGroup src).foldl (fun t c => t.put (Reg.asrcStatus c) ⟨8, 24⟩ rate.toNat) (s.asrcRate src rate.toNat))

end Sys2Proof.Machine
end

