-- ==== Sys2Proof/Machine/Pair.lean ====
section
/-!
DEFINITION. The redundant pair and the Ivern link (R466–R500): the claim and its arbitration, training, the messages, lockstep, joins and
handovers.
-/

namespace Sys2Proof.Machine

namespace State

variable (s : State)

/-! ### The claim (R466–R469) -/

/-- SYN_G is LOCKED. -/
def synGLocked : Bool := s.fld (Reg.synStatus 0) ⟨0, 3⟩ == 4

/-- The unit's claim by R467: 0 without a structure, in DOWN and while a class-3 fault is latched. -/
def claimNow : Nat :=
  if !s.loader.built || s.pairState == 1 || s.class3 then 0
  else if s.pairState = 0 then 3 * 16384 + s.pair.health
  else s.pair.role * 16384 + s.pair.epoch * 256 + s.pair.health

/-- Show the claim; a change re-judges the transmit entries (R370). -/
def claimShow : State :=
  let t := s.put Reg.pairClaim ⟨0, 16⟩ s.claimNow
  if t.claim = s.claim ∧ t.pairState = s.pairState ∧ t.holding = s.holding then t else t.txJudgeAll

/-- PAIR_STATUS.HOLDING. -/
def holdsBit : Bool := s.on Reg.pairStatus Fld.pairStatus_HOLDING

/-- Reference 18 loses activity at once (R488). -/
def loseRef18 : State := if s.monitored 18 then s.activityLoss 18 else s

/-- Put HOLDING: a unit that starts to hold the claim loses reference 18 (R472, R488). -/
def putHolding (b : Bool) : State :=
  let t := s.putBit Reg.pairStatus 9 b
  if b && !s.holdsBit then t.loseRef18 else t

/-- After a change from `before`: the claim is shown, and interrupt 55 marks a change of HOLDING, ROLE or EPOCH (R476). -/
def claimDone (before : State) : State :=
  let t := s.claimShow
  t.raiseIrqIf (t.holdsBit != before.holdsBit || t.pair.role != before.pair.role || t.pair.epoch != before.pair.epoch) 55

/-- Enter a pair state (R466): DIVERGED shows state 6. -/
def pairTo (st : Nat) : State := (s.put Reg.pairStatus Fld.pairStatus_STATE st).putBit Reg.pairStatus 11 (st == 6)

/-- Put the role. -/
def setRole (r : Nat) : State := s.setPair fun p => { p with role := r }

/-- Put the EPOCH. -/
def setEpoch (e : Nat) : State := s.setPair fun p => { p with epoch := e % 64 }

/-- A full image with PAIR_MODE has been applied (R466, R474, R498): SOLO, or ALONE from DOWN or SOLO unless the unit has left. -/
def pairApply : State :=
  let t := if !s.pairMode then ((s.pairTo 0).setPair fun p => { p with role := 3, epoch := 0, settle := none, handover := none, below := 0 }).putBit Reg.pairStatus 9 false
    else if (s.pairState = 0 ∨ s.pairState = 1) ∧ s.pair.left = false then
      (s.pairTo 2).setPair fun p => { p with role := 2, epoch := 0, settle := some 0, seenHolder := false }
    else s
  t.claimDone s

/-- The structure is discarded: DOWN (R466). -/
def pairDown : State :=
  (((s.pairTo 1).setPair fun p => { p with role := 0, epoch := 0, settle := none, handover := none, below := 0, source := false }).putBit Reg.pairStatus 9 false).claimDone s

/-- P ÷ 4 of R468: the lowest MARGIN_PCT of a running lane in the last whole TB_0 second and since, and 63 when no lane runs. -/
def marginTerm : Nat := min 63 (min s.facet.pctNow s.facet.pctLast / 4)

/-- HEALTH (R468). -/
def healthNow : Nat :=
  let clean := match s.pair.degraded with
    | none => true
    | some x => decide (((max 1 (s.fld Reg.pairCtrl Fld.pairCtrl_HEALTH_HOLD) * secondTicks : Nat) : Int) ≤ s.monitorNow - x)
  let timeOk := (s.holdState == 2 || s.holdState == 3) && !s.on Reg.ledgerStatus Fld.ledgerStatus_UNTRACEABLE
  clean.toNat * 128 + timeOk.toNat * 64 + s.marginTerm

/-- HEALTH is recomputed and shown (R468, R499). -/
def healthStep : State :=
  let h := s.healthNow
  let t := s.setPair fun p => { p with health := h }
  ((t.put Reg.pairHealth ⟨0, 8⟩ h).putBit Reg.pairHealth 10 (h.testBit 6)).putBit Reg.pairHealth 9 (h.testBit 7)

/-- The partner's HEALTH and claim. -/
def partnerHealth : Nat := s.fld Reg.pairHealth ⟨16, 8⟩

/-- The partner's claim from its last HEALTH message. -/
def partnerClaim : Nat := s.rdn Reg.pairClaim / 65536

/-- Octets `o` to `o + 7` of a structure digest as a message carries them. -/
def digestWord (d : BitVec 256) (k : Nat) : Nat := beNat (slice (leBytes 32 d.toNat) (8 * k) 8)

/-- The five words of a control message with a digest (R484). -/
def withDigest (w : Nat) : List Nat := w :: (List.range 4).map (digestWord s.loader.digest)

/-- Send a CONTROL message. -/
def control (code : Nat) (words : List Nat) : State := s.ivernSend 8 code words

/-- The number of the current 48 kHz frame: TB_0 × 48,000, low 32 bits (R471, R484). -/
def frameNo : Nat := (s.tb 0).t * 48000 / secondFine % 2 ^ 32

/-! ### Resynchronisation, joins and loss (R493–R496) -/

/-- The unit enters JOINING at ROLE 1 (R493, R495). -/
def enterJoining (back : Nat) : State :=
  (s.pairTo 3).setPair fun p => { p with role := 1, from_ := back, asked := false, keyed := false, lockAt := [], image := [] }

/-- Resynchronise (R493): RESYNC is sent and the unit joins again; the third time within 60 s it enters DIVERGED_STANDBY with UNSTABLE instead. -/
def resync : State :=
  let now := s.monitorNow
  let recent := now :: s.pair.resyncs.filter fun x => decide (now - x ≤ 60 * (secondTicks : Int))
  let t := s.setPair fun p => { p with resyncs := recent, mismatch := false }
  if 3 ≤ recent.length then (((t.pairTo 6).setRole 2).putBit Reg.pairStatus 12 true).raiseIrq 54
  else (t.control 6 []).enterJoining 6

/-- A handover starts (R475): CONTROL HANDOVER names a frame two frames ahead and the next EPOCH. -/
def startHandover (re : Bool) : State :=
  let f := (s.frameNo + 2) % 2 ^ 32
  let e := (s.pair.epoch + 1) % 64
  (s.control 4 [f * 2 ^ 32 + e * 2 ^ 24]).setPair fun p => { p with handover := some ⟨f, e, 2, re⟩, below := 0 }

/-- An agreed handover takes effect at the start of its frame (R475, R493). -/
def handoverEffect : State :=
  match s.pair.handover with
  | none => s
  | some h =>
    if 2 ^ 31 ≤ (s.frameNo + 2 ^ 32 - h.frame) % 2 ^ 32 then s
    else
      let t := ((s.setPair fun p => { p with handover := none }).setEpoch h.epoch).setRole h.role
      let t := if h.role = 3 then (if s.pairState = 5 then t.pairTo 4 else t)
        else if s.pairState = 4 then t.pairTo 5 else t
      let t := if h.role = 2 then t.putHolding false else t
      if h.resync then t.resync else t

/-- A join is abandoned (R476, R495): back to the state it came from, or ALONE at ROLE 2 when the holder is lost. -/
def joinAbandon (holderLost : Bool) : State :=
  if s.pairState ≠ 3 then s
  else
    let st := if holderLost then 2 else s.pair.from_
    ((s.pairTo st).setRole 2).setPair fun p => { p with lockAt := [], asked := false }

/-- Training starts again from step 1 (R485). -/
def retrain : State := s.setPair fun p =>
  { p with
    lock0 := false, lock1 := false, deskew := false, hello := false, times := 0, timeSent := [], delays := [], helloAt := none, timeAt := none,
    silent := 0 }

/-- The effects of a lost link on the pair states (R496): the holder serves ALONE, the standby diverges. -/
def loseLockstep : State :=
  let t := s.joinAbandon false
  let t := t.setPair fun p => { p with source := false, mirror := [], digests := [], digestsIn := [], missRun := 0, lockAt := [], mismatch := false, handover := none }
  if t.pairState = 4 then t.pairTo 2
  else if t.pairState = 5 then (t.pairTo 6).raiseIrq 54
  else if t.pairState = 7 then (if t.pair.role = 3 then t.pairTo 2 else (t.pairTo 6).raiseIrq 54)
  else t

/-- The link is lost (R486, R488, R496); `leave` for a CONTROL LEAVE, which raises no fault. -/
def linkLost (leave : Bool) : State :=
  let up := s.ivernUp
  let t := s.retrain
  if !up then t
  else
    let t := (t.putBit Reg.pairStatus 8 false).raiseIrq 53
    let t := if leave then t else (t.countSat Reg.pairLinkLosses).raiseFault 26 0
    let t := t.loseRef18
    let t := if leave && t.pairState != 3 then (t.pairTo 2).setPair fun p => { p with source := false, mirror := [], digests := [], digestsIn := [], missRun := 0, lockAt := [], mismatch := false, handover := none }
      else t.loseLockstep
    t.claimDone s

/-- Whether the link may train (R485). -/
def mayTrain : Bool := s.pairMode && s.bit Reg.pairCtrl 0 && s.synGLocked

/-- The conditions of training are judged again, after LINK_EN or SYN_G has changed. -/
def pairLineJudge : State := if s.mayTrain then s else s.linkLost false

/-- Compare the structure digests (R466, R494): a unit whose partner's differs enters FOREIGN with interrupt 54; a holder whose digests agree
again is ALONE. -/
def digestJudge : State :=
  match s.pair.partnerDig with
  | none => s
  | some d =>
    let same := d == digestWord s.loader.digest 0
    let st := s.pairState
    if !s.ivernUp then s
    else if !same && (st == 2 || st == 4 || st == 5 || st == 6) && !s.on Reg.pairStatus Fld.pairStatus_UNSTABLE then
      (s.pairTo 7).raiseIrq 54
    else if same && st == 7 && s.pair.role == 3 then s.pairTo 2 else s

/-- The TB_0 difference of the units is at most 1.0 µs (R494). -/
def offsetOk : Bool := decide ((s.rdi Reg.pairOffset).natAbs ≤ 65536000)

/-- A unit in STANDBY whose TB_0 lies more than 1.0 µs from the holder's resynchronises, without fault 27 (R494). -/
def standbyJudge : State :=
  if s.pairMode && decide (s.pairState = 5) && s.ivernUp && !s.offsetOk then s.resync.claimDone s else s

/-- A TB_0 second boundary: a join starts where R494 holds, or follows a RESYNC (R493, R495). -/
def pairSecond : State :=
  if !s.pairMode then s
  else
    let start (t : State) : State :=
      let t := t.control 2 (t.withDigest (t.seconds 0 % 2 ^ 48 * 65536))
      (t.countSat Reg.pairResyncs).setPair fun p => { p with asked := true, began := s.monitorNow, moved := 0 }
    let st := s.pairState
    let ok := s.ivernUp && decide (s.partnerClaim / 16384 = 3) && s.pair.partnerDig == some (digestWord s.loader.digest 0) && s.offsetOk
    if st = 3 ∧ s.pair.asked = false then start s
    else if (st = 2 ∨ st = 6 ∨ st = 7) ∧ s.pair.role = 2 ∧ s.on Reg.pairStatus Fld.pairStatus_UNSTABLE = false ∧ ok = true then
      (start (s.enterJoining st)).claimDone s
    else s

/-- A mismatch of digests at boundary `b` of domain `d` (R493): fault 27, interrupt 54, and the comparison of HEALTH in the next frame. -/
def mismatchAt (d b : Nat) : State :=
  (((((s.countSat Reg.pairMismatches).wrn Reg.pairLastMismatch (b % 2 ^ 32 / 2 * 2 + d)).raiseFault 27 d).raiseIrq 54)).setPair fun p =>
    { p with mismatch := true, missRun := 0, digests := [], digestsIn := [] }

/-- The unit is in lockstep. -/
def inLockstep : Bool := s.pairMode && (s.pairState == 4 || s.pairState == 5)

/-- The unit merges its ingress with the partner's (R490). -/
def merges : Bool := s.pairMode && (s.pairState == 4 || s.pairState == 5 || s.pairState == 7)

/-- Lock boundaries have been reached in every used domain (R495): the joining unit enters STANDBY with the holder's EPOCH, the source ACTIVE. -/
def lockReached (d : Nat) : State :=
  let t := s.setPair fun p => { p with lockAt := p.lockAt.set none d none }
  if ((t.pair.lockAt.get none 0).isSome && t.domUsed 0) || ((t.pair.lockAt.get none 1).isSome && t.domUsed 1) then t
  else
    let us : Nat := (t.monitorNow - t.pair.began).toNat * 1000000 / secondTicks
    let t := t.wrnSat Reg.pairLastJoinUs us
    let u := if t.pairState = 3 then ((t.pairTo 5).setRole 2).setEpoch (t.partnerClaim / 256 % 64)
      else if t.pair.source then t.pairTo 4 else t
    (u.setPair fun p => { p with source := false, digests := [], digestsIn := [], missRun := 0, lockAt := [] }).claimDone s

/-- A boundary of domain `d` with media count `b`: a lock boundary named for it (R495). -/
def lockBoundary (d b : Nat) : State :=
  match s.pair.lockAt.get none d with
  | some x => if 2 ^ 31 ≤ (b % 2 ^ 32 + 2 ^ 32 - x) % 2 ^ 32 then s else s.lockReached d
  | none => s

/-- Count the octets of a join (R499: PAIR_XFER, units of 64 KiB). -/
def xferCount (n : Nat) : State :=
  let t := s.setPair fun p => { p with moved := p.moved + n }
  t.wrnSat Reg.pairXfer (t.pair.moved / 65536)

/-! ### Lockstep at a boundary (R489–R492) -/

/-- The runs of consecutive slots of an ingress, at most 2,046 each (R481): base and words, in the order of the list. -/
def runsOf : List (Nat × Word) → List (Nat × List Word)
  | [] => []
  | (a, w) :: es =>
    match runsOf es with
    | (b, ws) :: rs => if b = a + 1 ∧ ws.length < 2046 then (a, w :: ws) :: rs else (a, [w]) :: (b, ws) :: rs
    | [] => [(a, [w])]

/-- Pairs of slot words in 64-bit words (R481). -/
def pairWords : List Word → List Nat
  | [] => []
  | [a] => [a.toNat * 2 ^ 32]
  | a :: b :: ws => (a.toNat * 2 ^ 32 + b.toNat) :: pairWords ws

/-- Send the MIRROR messages of boundary `b` of domain `d` (R481, R489). -/
def mirrorSend (d b : Nat) (ws : List (Nat × Word)) : State :=
  if s.ivernUp && (s.merges || s.pair.source) then
    let runs := match runsOf ws with | [] => [(0, [])] | rs => rs
    let n := runs.length
    (runs.zipIdx).foldl (fun (t : State) (r : (Nat × List Word) × Nat) =>
      t.ivernSend 1 (if r.2 + 1 = n then 128 + d else d)
        ((b % 2 ^ 32 * 2 ^ 32 + r.1.1 * 65536 + r.1.2.length) :: pairWords r.1.2)) s
  else s

/-- The better of two candidates for a slot, `a` unit 0's (R490). -/
def mergeWord (a b : Word) : Word :=
  let cls (w : Word) : Nat := if validOf w then (if w.toNat.testBit 2 then 1 else 0) else 2
  if cls b < cls a then b else a

/-- Merge the ingress of the two units (R490). -/
def mergeIngress (mine theirs : List (Nat × Word)) : List (Nat × Word) :=
  let one := s.unitSel == 1
  (mine.map fun e => match theirs.find? fun (x : Nat × Word) => x.1 == e.1 with
    | some t => (e.1, if one then mergeWord t.2 e.2 else mergeWord e.2 t.2)
    | none => e) ++ theirs.filter fun e => !mine.any fun x => x.1 == e.1

/-- The ingress of boundary `b` of domain `d` (R490): merged while the unit merges; a partner's ingress without its LAST run counts as missed. -/
def ingressMerge (d b : Nat) (mine : List (Nat × Word)) : List (Nat × Word) × State :=
  let m := b % 2 ^ 32
  let got : Option MirrorIn := s.pair.mirror.find? fun (x : MirrorIn) => x.dom == d && x.b == m
  let t := s.setPair fun p => { p with mirror := p.mirror.filter fun (x : MirrorIn) => x.dom != d || decide (0 < diff32 x.b m) }
  if !s.merges then (mine, t)
  else match got with
    | some g => if g.last then (s.mergeIngress mine g.words, t) else (mine, t.countSat Reg.pairMirrorMiss)
    | none => (mine, t.countSat Reg.pairMirrorMiss)

/-- The mirrored writes due at boundary `b` of domain `d` (R491). -/
def writesDue (d b : Nat) : List MirrorWrite :=
  s.pair.writes.filter fun w => w.dom == d && decide (0 ≤ diff32 (b % 2 ^ 32) w.b)

/-- Remove them. -/
def dropWrites (d b : Nat) : State := s.setPair fun p =>
  { p with writes := p.writes.filter fun w => w.dom != d || decide (diff32 (b % 2 ^ 32) w.b < 0) }

/-- The slots of domain `d` with a writer, in ascending order (R492). -/
def writtenSlots (d : Nat) : List Nat :=
  (List.range 8192).filter fun i => s.slotDom i == d && (s.ownerOf i != .none || s.store.routes.any fun e => s.routeRuns e.2 && dstOfW e.2.w0 == i)

/-- The digest of boundary `b` of domain `d` (R492). -/
def digestOf (d b : Nat) : Nat :=
  let octets := beBytes 1 d ++ beBytes 4 b ++ (s.writtenSlots d).flatMap fun i => beBytes 2 i ++ beBytes 4 (s.slot i).toNat
  crcM 64 0x42F0E1EBA9EA3693 (2 ^ 64 - 1) octets ^^^ (2 ^ 64 - 1)

/-- Two digests of one boundary meet (R493). -/
def digestMeet (d b mine theirs : Nat) : State :=
  let t := s.setPair fun p => { p with digests := p.digests.filter (fun x => x.1 != d || x.2.1 != b), digestsIn := p.digestsIn.filter (fun x => x.1 != d || x.2.1 != b) }
  if mine = theirs then t.setPair fun p => { p with missRun := 0 } else t.mismatchAt d b

/-- The partner's digest for boundary `b` of domain `d` has not come within 32 SP (R493): a miss; eight in a row count as a mismatch. -/
def digestMiss (d b : Nat) : State :=
  let t := (s.countSat Reg.pairDigestMiss).setPair fun p =>
    { p with
      missRun := p.missRun + 1
      digests := p.digests.filter fun (x : Nat × Nat × Nat) => x.1 != d || x.2.1 != b }
  if 8 ≤ t.pair.missRun then t.mismatchAt d b else t

/-- The SP of domain `d` that have passed since its boundary `b`. -/
def spSince (d b : Nat) : Int := diff32 ((s.domAt d).count % 2 ^ 32) b

/-- The digest of a boundary in lockstep is computed, sent and compared (R492, R493). -/
def digestBoundary (d b : Nat) : State :=
  if !s.inLockstep || !s.ivernUp then s
  else
    let m := b % 2 ^ 32
    let v := s.digestOf d m
    let t := (s.ivernSend 3 d [m * 2 ^ 32, v]).setPair fun p => { p with digests := (d, m, v) :: p.digests }
    match t.pair.digestsIn.find? fun (x : Nat × Nat × Nat) => x.1 == d && x.2.1 == m with
    | some x => t.digestMeet d m v x.2.2
    | none => t

/-- Deliver the words of a KEY message of the join: the whole ring and its schedule (R340, R495). -/
def sendRing : State :=
  let t := (List.range 4).foldl (fun (t : State) (i : Nat) => t.sendKey i (slotRecord (t.ring i))) s
  t.sendKey 4 t.rotRecord

end State

/-! ### The rows -/

/-- The settling of a unit new in ALONE (R474): 48 frames, a further 48 for UNITSEL 1, then ROLE 3 unless a ROLE-3 claim has been seen. -/
def settleFrame (winner : Nat) (s : State) : State :=
  match s.pair.settle with
  | none => s
  | some n =>
    let seen := s.pair.seenHolder || winner / 16384 == 3
    let lim := if s.unitSel = 0 ∨ seen = true then 48 else 96
    if n + 1 < lim then s.setPair fun p => { p with settle := some (n + 1), seenHolder := seen }
    else s.setPair fun p => { p with settle := none, seenHolder := seen, role := if seen || s.pairState != 2 then p.role else 3 }

/-- The slots (0–19) this unit drives low in a frame with claim `c`, given the line as sampled (R471): it falls silent after losing a bit. -/
def driven (c unit : Nat) (low : Nat) : List Nat :=
  if c = 0 then []
  else
    let bits := (List.range 16).foldl (fun (r : List Nat × Bool) i =>
      if r.2 then r
      else if c.testBit (15 - i) then (r.1 ++ [i + 1], false)
      else (r.1, low.testBit (i + 1))) ([], false)
    0 :: bits.1 ++ (if bits.2 then [] else [17 + unit])

/-- The number of the arbitration frame that may run now (R471): the holder's frames start at its own TB_0 instants, those of any other unit
up to 5 µs around its own. -/
def State.arbFrame (s : State) : Nat := ((s.tb 0).t + (if s.holdsBit then 0 else 5000 * 2 ^ 48)) * 48000 / secondFine

/-- One more frame without a HEALTH message while the link is up; the eighth loses it (R486). -/
def State.healthMissed (s : State) : State :=
  if !s.ivernUp then s
  else
    let t := s.setPair fun p => { p with silent := p.silent + 1 }
    if 8 ≤ t.pair.silent then t.linkLost false else t

/-- CLAIM_FRAME (R468, R471–R476, R480, R486), once a frame: HEALTH, a missing partner, a handover that is due, the HEALTH message, the
arbitration, CLAIM_IO's state, the claim, settling, promotion, and the comparison of HEALTH. -/
def execClaimFrame (low : BitVec 20) (s : State) : Res :=
  done (
    let s0 := s
    if !s.loader.built || s.pair.frameAt == some s.arbFrame then s
    else
      let s := (s.setPair fun p => { p with frameAt := some s.arbFrame }).healthMissed.healthStep
      if !s.pairMode then s.claimDone s0
      else
        let s := s.handoverEffect.claimShow
        let s := if s.ivernUp then (s.ivernSend 4 0 [s.claim * 2 ^ 48 + s.pairState * 2 ^ 40 + s.pair.health * 2 ^ 32, State.digestWord s.loader.digest 0]).setPair fun p => { p with sentClaim := s.claim } else s
        let quiet := match s.pair.settle with | some n => decide (n < 48) | none => false
        let c := if quiet then 0 else s.claim
        let v := low.toNat
        let w := (List.range 16).foldl (fun (a i : Nat) => a * 2 + (v.testBit (i + 1)).toNat) 0
        let mine := driven c s.unitSel v
        let s := if c = 0 then s else s.send (.claim c mine)
        let both := v.testBit 17 && v.testBit 18
        let wonBits := c != 0 && w == c
        let won := wonBits && !v.testBit (18 - s.unitSel)
        let s := if wonBits && both then s.raiseFault 28 0 else s
        let s := s.put Reg.pairArb ⟨16, 16⟩ w
        let s := if won then s.incWrap Reg.pairArb ⟨0, 16⟩ else s
        -- CLAIM_IO
        let bad := v.testBit 19 || mine.any fun i => !v.testBit i
        let s := s.setPair fun p => { p with badRun := if bad then p.badRun + 1 else 0, goodRun := if bad then 0 else p.goodRun + 1 }
        let s := if 3 ≤ s.pair.badRun then s.putBit Reg.pairStatus 10 true else if 48 ≤ s.pair.goodRun then s.putBit Reg.pairStatus 10 false else s
        let cioBad := s.on Reg.pairStatus Fld.pairStatus_CLAIMIO_BAD
        -- who holds the claim
        let hold := if cioBad then s.claim != 0 && (!s.ivernUp || decide (s.partnerClaim < s.pair.sentClaim)) else won
        let settling := s.pair.settle.isSome
        let s := settleFrame w s
        let s := if hold && s.pair.role == 2 && !settling && !(cioBad && !s.ivernUp) then
            let t := (s.setRole 3).setEpoch (s.pair.epoch + 1)
            if t.pairState = 5 then t.pairTo 4 else if t.pairState = 6 then t.pairTo 2 else t
          else s
        let lost := s.holdsBit && !hold && s.pair.role == 3 && (cioBad || !bad)
        let s := s.putHolding hold
        let s := if lost then (let t := s.setRole 2; if t.pairState = 4 then t.pairTo 5 else t) else s
        -- a degraded holder
        let under := s.pairState == 4 && hold && s.ivernUp && s.pair.handover.isNone &&
          decide (s.pair.health + s.fld Reg.pairCtrl Fld.pairCtrl_HYST < s.partnerHealth)
        let s := s.setPair fun p => { p with below := if under then p.below + 1 else 0 }
        let s := if 48 ≤ s.pair.below then s.startHandover false else s
        (s.claimDone s0).standbyJudge)

/-- IVERN_BLOCK_LOCK (R485, step 2). -/
def execIvernBlockLock (lane : Fin 2) (s : State) : Res :=
  done (if s.mayTrain then s.setPair fun p => if lane.val = 0 then { p with lock0 := true } else { p with lock1 := true } else s)

/-- IVERN_DESKEW (R485, step 3). -/
def execIvernDeskew (s : State) : Res :=
  done (if s.mayTrain && s.pair.lock0 && s.pair.lock1 then s.setPair fun p => { p with deskew := true } else s)

/-- IVERN_HELLO_TX (R484, R485, step 4): HELLO every 1 ms until one has been received and accepted. -/
def execIvernHelloTx (s : State) : Res :=
  let due := match s.pair.helloAt with | some x => decide ((secondTicks : Int) ≤ (s.monitorNow - x) * 1000) | none => true
  done (if s.mayTrain && s.pair.deskew && !s.pair.hello && due then
    let g := s.rdn Reg.globalId
    (s.setPair fun p => { p with helloAt := some s.monitorNow }).control 1 (s.withDigest (g / 65536 * 2 ^ 48 + g % 256 * 2 ^ 40 + s.unitSel * 2 ^ 32))
  else s)

/-- IVERN_HELLO_RX (R484, R485, step 5): the partner's digest is shown; equal UNITSEL or another part or stepping refuse the link. -/
def execIvernHelloRx (w0 : BitVec 64) (digest : BitVec 256) (s : State) : Res :=
  done (if s.mayTrain && s.pair.deskew then
    let w := w0.toNat
    let g := s.rdn Reg.globalId
    let s := (List.range 8).foldl (fun (t : State) (i : Nat) => t.wrn (Reg.pairPartnerDigest i) (digest.toNat / 2 ^ (32 * i))) s
    let same := decide (w / 2 ^ 32 % 256 = s.unitSel)
    let step := decide (w / 2 ^ 48 ≠ g / 65536) || decide (w / 2 ^ 40 % 256 ≠ g % 256)
    let s := ((s.putBit Reg.pairStatus 14 same).putBit Reg.pairStatus 15 (!same && step)).putBit Reg.pairStatus 13 false
    s.setPair fun p => { p with hello := !same && !step, times := 0, partnerDig := some (State.digestWord digest 0) }
  else s)

/-- IVERN_TIME_TX (R480, R483): t1, the stamp of the last TIME message received with its SEQ, the bound and the holdover state; once the link is
up, 16 in each TB_0 second. -/
def execIvernTimeTx (back : BitVec 32) (s : State) : Res :=
  let slot := (s.tb 0).t * 16 / secondFine
  done (if s.mayTrain && s.pair.hello && !(s.ivernUp && s.pair.timeAt == some slot) then
    let t1 := (s.captured 0 back.toNat % 2 ^ 64).toNat
    let n := s.pair.seq.get 0 5
    let s := s.setPair fun p => { p with timeSent := ((n, t1) :: p.timeSent).take 32, timeAt := some slot }
    s.ivernSend 5 0 [t1, s.pair.timeGot.2,
      s.rdn Reg.ledgerBound * 2 ^ 32 + s.holdState * 2 ^ 24 + s.fld Reg.holdStatus Fld.holdStatus_CLASS * 65536 + s.pair.timeGot.1, s.seconds 0 % 2 ^ 48]
  else s)

/-- The uncertainty of the pair's offsets (R487): PAIR_UNC_BASE and half the spread of the delays of the last 16 exchanges, rounded up to 0.25 ns. -/
def State.pairUnc (s : State) : Nat :=
  let hi := s.pair.delays.foldl max (s.pair.delays.headD 0)
  let lo := s.pair.delays.foldl min (s.pair.delays.headD 0)
  s.rdn Reg.pairUncBase + ((hi - lo + 65535) / 65536).toNat

/-- An offset from the partner, whose TIME message came at `t2` with word 2 `w` (R133, R487): while it holds the claim and its time is known, the
offset goes to reference 18, and an accepted one brings the partner's bound. -/
def State.pairSample (s : State) (ofs : Int) (w t2 : Nat) : State :=
  if s.ivernUp && decide (s.partnerClaim / 16384 = 3) && !s.holdsBit && decide (w / 2 ^ 24 % 256 ≠ 0) then
    let t := if ofsVerdict (s.tick 0) t2 = 0 then { s with hold := { s.hold with pairBound := w / 2 ^ 32 } } else s
    t.ofsFromHardware 18 ofs t2 s.pairUnc
  else s

/-- The exchange of a TIME message received at `t2` with this unit's message sent at `t3` (R485, steps 6 and 7; R487): delay and offset are shown;
the link comes up after 16 exchanges, or is refused. -/
def State.timeExchange (s : State) (t1 t2 t3 t4 : Nat) : Int × State :=
  let a := State.tickDiff t2 t1
  let b := State.tickDiff t4 t3
  let d := (a + b) / 2
  let ofs := (b - a - s.rdi Reg.pairAsym) / 2
  let s := s.setPair fun p => { p with delays := ((a + b) :: p.delays).take 16, times := min 16 (p.times + 1) }
  let s := (s.put Reg.pairLatency ⟨0, 16⟩ (min 65535 (d / 65536).toNat)).wriSat Reg.pairOffset ofs
  (ofs,
    if s.ivernUp || s.pair.times < 16 then s
    else if 900 * 65536 < d then (s.putBit Reg.pairStatus 13 true).setPair fun p => { p with hello := false, times := 0 }
    else ((((s.putBit Reg.pairStatus 8 true).setPair fun p => { p with silent := 0 }).raiseIrq 53).digestJudge).claimDone s)

/-- IVERN_TIME_RX (R483, R485, R487, R494): the stamp of the message is kept for the next TIME message; where it answers one of this unit's, the
exchange is evaluated and its offset offered to reference 18. -/
def execIvernTimeRx (seq : BitVec 16) (w0 w1 w2 w3 : BitVec 64) (back : BitVec 32) (s : State) : Res :=
  done (if !(s.mayTrain && s.pair.hello) then s
  else
    let _ := w3
    let t2 := (s.captured 0 back.toNat % 2 ^ 64).toNat
    let s := s.setPair fun p => { p with timeGot := (seq.toNat, t2) }
    match s.pair.timeSent.find? fun (e : Nat × Nat) => e.1 == w2.toNat % 65536 with
    | none => s
    | some e =>
      let (ofs, s) := s.timeExchange w0.toNat t2 e.2 w1.toNat
      (s.pairSample ofs w2.toNat t2).standbyJudge)

/-- IVERN_LINK_LOSS (R486). -/
def execIvernLinkLoss (s : State) : Res := done (s.linkLost false)

/-- IVERN_MIRROR_RX (R481): a run of the partner's ingress; one that is malformed is discarded and counted. -/
def execIvernMirrorRx (dom : Fin 2) (last : Bool) (b : BitVec 32) (base n : BitVec 16) (words : List Word) (s : State) : Res :=
  done (if 2046 < n.toNat ∨ (n = 0 ∧ last = false) then s.countSat Reg.pairCrcErr
  else
    let new : List (Nat × Word) := (List.range n.toNat).map fun i => (base.toNat + i, words.getD i 0)
    let old : MirrorIn := (s.pair.mirror.find? fun (x : MirrorIn) => x.dom == dom.val && x.b == b.toNat).getD ⟨dom, b.toNat, [], false⟩
    let got : MirrorIn := { old with words := old.words ++ new, last := old.last || last }
    let rest := s.pair.mirror.filter fun (x : MirrorIn) => x.dom != dom.val || x.b != b.toNat
    s.setPair fun p => { p with mirror := got :: rest })

/-- IVERN_DIGEST_RX (R493): compared with this unit's digest of the boundary, now or when it is computed; one that comes more than 32 SP late
counts as a miss. -/
def execIvernDigestRx (dom : Fin 2) (b : BitVec 32) (digest : BitVec 64) (s : State) : Res :=
  done (if !s.inLockstep then s
  else match s.pair.digests.find? fun (x : Nat × Nat × Nat) => x.1 == dom.val && x.2.1 == b.toNat with
    | some x => (if 32 < s.spSince dom b.toNat then s.digestMiss dom b.toNat else s.digestMeet dom b.toNat x.2.2 digest.toNat).claimDone s
    | none =>
      if s.spSince dom b.toNat < 0 then s.setPair fun p => { p with digestsIn := (dom.val, b.toNat, digest.toNat) :: p.digestsIn }
      else s)

/-- PAIR_DIGEST_TIMEOUT (R493): 32 SP have passed since boundary `b`, and the partner's digest for it has not come. -/
def execPairDigestTimeout (dom : Fin 2) (b : BitVec 32) (s : State) : Res :=
  done (if s.inLockstep && decide (32 ≤ s.spSince dom b.toNat) &&
      s.pair.digests.any (fun (x : Nat × Nat × Nat) => x.1 == dom.val && x.2.1 == b.toNat) then s.digestMiss dom b.toNat
  else s)

/-- IVERN_WRITE_RX (R482, R491): the writes wait for their boundary. -/
def execIvernWriteRx (dom : Fin 2) (b : BitVec 32) (writes : List (Fin 2 × BitVec 30 × Word)) (s : State) : Res :=
  done (s.setPair fun p => { p with writes := p.writes ++ writes.map fun (w : Fin 2 × BitVec 30 × Word) => ⟨dom, b.toNat, w.1, w.2.1.toNat, w.2.2⟩ })

/-- IVERN_HEALTH_RX (R469, R473, R480, R493): the partner's claim, state, HEALTH and digest; a claim of 0 ends reference 18; the holder's EPOCH is
followed; a join ends when its source's claim changes; after a mismatch the lower HEALTH gives way. -/
def execIvernHealthRx (w0 w1 : BitVec 64) (s : State) : Res :=
  done (if !s.pairMode then s
  else
    let s0 := s
    let c := w0.toNat / 2 ^ 48
    let was := s.partnerClaim
    let s := (s.put Reg.pairClaim ⟨16, 16⟩ c).put Reg.pairHealth ⟨16, 8⟩ (w0.toNat / 2 ^ 32 % 256)
    let s := s.setPair fun p => { p with partnerState := w0.toNat / 2 ^ 40 % 256, partnerDig := some w1.toNat, silent := 0 }
    let s := if c = 0 ∧ was ≠ 0 then s.loseRef18 else s
    let s := if s.pairState = 3 ∧ s.pair.asked = true ∧ c / 256 ≠ was / 256 then s.joinAbandon (c == 0) else s
    let s := if (s.pairState = 3 ∨ s.pairState = 5) ∧ c / 16384 = 3 then s.setEpoch (c / 256) else s
    let s := s.digestJudge
    let s := if s.pair.mismatch then
        let s := s.setPair fun p => { p with mismatch := false }
        if s.pairState = 4 then (if s.pair.health < s.partnerHealth then s.startHandover true else s)
        else if s.pairState = 5 then (if s.partnerHealth < s.pair.health then s else s.resync) else s
      else s
    s.claimDone s0)

/-- IVERN_KEY_RX (R327, R340, R484): a slot or rotation record is applied only if it opens under this unit's pair key; else it is counted. -/
def execIvernKeyRx (aux : Byte) (start sealed_ : List Byte) (s : State) : Res :=
  done (
    let s := s.setPair fun p => { p with keyed := true }
    match s.keys.pair with
    | none => s.countSat Reg.keysPairFail
    | some k =>
      match Config.sivOpen k [start] sealed_ with
      | none => s.countSat Reg.keysPairFail
      | some r =>
        if aux.toNat < 4 then (s.setRing aux.toNat (State.readSlot r)).ringShow
        else if aux.toNat = 4 then s.readRot r else s)

/-- IVERN_STATE_RX (R484): bulk state for a join.  The model's layout of space 0 is the BAR0 offset, of space 1 four octets a slot, and of space 2 the
BAR2 offset of the lane memories; words beyond it, and the other spaces, are kept as received (log entry 32). -/
def execIvernStateRx (space : Byte) (off : BitVec 64) (words : List (BitVec 64)) (s : State) : Res :=
  done (if s.pairState ≠ 3 then s
  else
    let sp := space.toNat
    (words.zipIdx).foldl (fun (t : State) (e : BitVec 64 × Nat) =>
      let o := off.toNat + 8 * e.2
      let hi := BitVec.ofNat 32 (e.1.toNat / 2 ^ 32)
      let lo := BitVec.ofNat 32 e.1.toNat
      if sp = 0 ∧ o < 2 ^ 24 then (t.wr o hi).wr (o + 4) lo
      else if sp = 1 ∧ o < 32768 then t.setStore fun x => { x with slots := (x.slots.set 0 (o / 4) hi).set 0 (o / 4 + 1) lo }
      else if sp = 2 ∧ o < 256 * 0x20000 ∧ 0x8000 ≤ o % 0x20000 ∧ o % 0x20000 < 0x18000 then
        let a := o % 0x20000
        let y := decide (0x10000 ≤ a)
        let i := (if y then a - 0x10000 else a - 0x8000) / 4
        (t.memWr (o / 0x20000) y i hi).memWr (o / 0x20000) y (i + 1) lo
      else t.setPair fun p => { p with image := p.image.set 0 (2 ^ 32 * sp + o) e.1 }) (s.xferCount (8 * words.length)))

/-- IVERN_JOIN_REQ_RX (R484, R495): accepted by the holder with the same digest: the ring and the bulk state are sent. -/
def execIvernJoinReqRx (sec : BitVec 48) (digest : BitVec 256) (s : State) : Res :=
  done (
    let _ := sec
    if s.pairMode && s.holdsBit && decide (digest = s.loader.digest) && (s.pairState == 2 || s.pairState == 4) then
      let t := s.setPair fun p => { p with source := true, began := s.monitorNow, moved := 0 }
      [0, 5, 2, 1, 3, 4].foldl (fun (t : State) (sp : Nat) => t.send (.bulkState sp)) t.sendRing
    else s)

/-- PAIR_JOIN_DRAINED (R495, step 3): the source sends LOCK, naming the boundaries two SP ahead. -/
def execPairJoinDrained (s : State) : Res :=
  done (if s.pair.source && s.pair.lockAt.isEmpty then
    let a := ((s.domAt 0).count + 2) % 2 ^ 32
    let b := ((s.domAt 1).count + 2) % 2 ^ 32
    (s.control 3 [a * 2 ^ 32 + b]).setPair fun p => { p with lockAt := (p.lockAt.set none 0 (some a)).set none 1 (some b) }
  else s)

/-- IVERN_LOCK_RX (R495): the lock boundaries of a unit that joins. -/
def execIvernLockRx (a b : BitVec 32) (s : State) : Res :=
  done (if s.pairState = 3 then s.setPair fun p => { p with lockAt := (p.lockAt.set none 0 (some a.toNat)).set none 1 (some b.toNat) } else s)

/-- IVERN_HANDOVER_RX (R475): the partner takes ROLE 3 with the new EPOCH at the named frame. -/
def execIvernHandoverRx (frame : BitVec 32) (epoch : BitVec 8) (s : State) : Res :=
  done (if s.pairMode && s.ivernUp && !s.holdsBit && s.claim != 0 && (s.pairState == 5 || s.pairState == 7) then
    s.setPair fun p => { p with handover := some { frame := frame.toNat, epoch := epoch.toNat % 64, role := 3 } }
  else s)

/-- IVERN_LEAVE_RX (R486, R498): the link drops without fault 26 and the unit serves ALONE. -/
def execIvernLeaveRx (s : State) : Res := done (s.linkLost true)

/-- IVERN_RESYNC_RX (R493): the partner rejoins; the holder serves ALONE until the lock. -/
def execIvernResyncRx (s : State) : Res :=
  done (if s.pairState = 4 then
    ((s.pairTo 2).setPair fun p => { p with digests := [], digestsIn := [], missRun := 0, mismatch := false }).claimDone s
  else s)

/-- The octets of a message's blocks form a good message (R478, R479): START, LEN data blocks and END in their places, a known TYPE, and the
CRC-32 over the header and body. -/
def messageGood (msg : List Byte) : Bool :=
  let n := msg.length - 8
  let type := beNat (slice msg 1 1)
  decide (msg.length = 8 * (beNat (slice msg 2 2) + 2)) && msg.headD 0 == 0x78 && slice msg n 1 == [0x87] && 1 ≤ type && type ≤ 8 &&
    beNat (slice msg (n + 1) 4) == crc32 (slice msg 1 (n - 1))

/-- IVERN_BAD_MESSAGE (R479): a message whose CRC, LEN or TYPE is bad is discarded and counted. -/
def execIvernBadMessage (msg : List Byte) (s : State) : Res := done (if messageGood msg then s else s.countSat Reg.pairCrcErr)

/-- PAIR_JOIN_KEY_TIMEOUT (R495): without a KEY message within 1 s of JOIN_REQ the join is abandoned. -/
def execPairJoinKeyTimeout (s : State) : Res :=
  done (if s.pairState = 3 ∧ s.pair.asked = true ∧ s.pair.keyed = false ∧ (secondTicks : Int) ≤ s.monitorNow - s.pair.began then
    (s.joinAbandon false).claimDone s
  else s)

/-- PAIR_HANDOVER (R475): on the holder, with the link up and the partner in STANDBY or FOREIGN with HEALTH of at least 128. -/
def execPairHandover (s : State) : Res :=
  done (if s.pairMode && s.holdsBit && s.ivernUp && s.pair.handover.isNone && (s.pair.partnerState == 5 || s.pair.partnerState == 7) &&
      decide (128 ≤ s.partnerHealth) then s.startHandover false else s)

/-- PAIR_LEAVE (R498): a unit that does not hold the claim sends LEAVE and enters DOWN with claim 0. -/
def execPairLeave (s : State) : Res :=
  done (if s.pairMode && !s.holdsBit && s.pairState != 1 then
    let t := if s.ivernUp then s.control 5 [] else s
    ((t.pairTo 1).setPair fun p => { p with left := true, role := 0, settle := none, handover := none, source := false }).claimDone s
  else s)

/-- PAIR_RESYNC (R493): UNSTABLE clears, and a diverged unit may join again. -/
def execPairResync (s : State) : Res := done ((s.putBit Reg.pairStatus 12 false).setPair fun p => { p with resyncs := [] })

/-- A block reset of PAIR (R493): the counters and the digest history clear. -/
def State.pairReset (s : State) : State :=
  ([Reg.pairMismatches, Reg.pairDigestMiss, Reg.pairMirrorMiss, Reg.pairCrcErr, Reg.pairLinkLosses, Reg.pairResyncs].foldl (fun (t : State) (a : Nat) => t.wr a 0) s).setPair
    fun p => { p with digests := [], digestsIn := [], missRun := 0 }

end Sys2Proof.Machine
end

