-- ==== Sys2Proof/Machine/Chain.lean ====
section
/-!
DEFINITION. The Parpo chain (R501–R517): cycles, origin selection, forwarding, hop delay, enumeration and the heartbeat.
-/

namespace Sys2Proof.Machine

namespace State

variable (s : State)

/-- This unit's DEVICE_UID. -/
def uid64 : Nat := s.otp.uid.toNat

/-- The conditions of the heartbeat (R512). -/
def heartbeat : Bool :=
  s.chainMode && s.bit Reg.chainCtrl 0 && s.bit Reg.chainCtrl 1 && s.synGLocked && s.running && !s.chain.noIo &&
    !([19, 33, 39, 43].any s.faultLatched)

/-- A side transmits (R501). -/
def chainSends : Bool := s.chainMode && s.bit Reg.chainCtrl 0 && s.synGLocked && s.running

/-- Whether origin `a` (claim, UID) ranks above `b` (R505): the higher claim, and of equal claims the lower UID. -/
def originAbove (a b : Nat × Nat) : Bool := b.1 < a.1 || (a.1 == b.1 && a.2 < b.2)

/-- The side this node would follow (R505): the highest origin claim, then the lower UID, the lower hop count, and the upstream side. -/
def chainBest : Option Nat :=
  match (s.cside 0).tod, (s.cside 1).tod with
  | none, none => none
  | some _, none => some 0
  | none, some _ => some 1
  | some a, some b =>
    if originAbove (a.claim, a.uid) (b.claim, b.uid) then some 0
    else if originAbove (b.claim, b.uid) (a.claim, a.uid) then some 1
    else if b.hop < a.hop then some 1 else some 0

/-- The node originates (R505): ORIGINATE, a claim, and no TOD of a higher origin. -/
def originates : Bool :=
  s.bit Reg.chainCtrl 4 && s.claim != 0 &&
    [0, 1].all fun k => match (s.cside k).tod with
      | some t => t.uid == s.uid64 || !originAbove (t.claim, t.uid) (s.claim, s.uid64)
      | none => true

/-- The followed side; none for an originator or an isolated node. -/
def chainFollows : Option Nat := if s.originates then none else s.chainBest

/-- CHAIN_STATUS.STATE (R517). -/
def chainStateNow : Nat :=
  if !s.chainMode then 0 else if !s.heartbeat then 1 else if s.originates then 2 else if s.chainBest.isSome then 3 else 4

/-- Reference 17 loses activity (R509). -/
def loseRef17 : State := if s.monitored 17 then s.activityLoss 17 else s

/-- The followed side as shown, while STATE is FOLLOW. -/
def chainShownSide : Option Nat := if s.fld Reg.chainStatus ⟨0, 3⟩ = 3 then some (s.fld Reg.chainStatus ⟨7, 1⟩) else none

/-- Recompute CHAIN_STATUS and CHAIN_ORIGIN: a change of the followed side is a loss of reference 17 (R509), and a topology change raises
interrupt 56 (R514). -/
def chainRefresh : State :=
  let st := s.chainStateNow
  let f := if st = 3 then s.chainFollows else none
  let side := f.getD 0
  let tod : Option ChainTod := match f with | some k => (s.cside k).tod | none => none
  let trace := match tod with | some t => !t.flags.testBit 1 | none => false
  let w := trace.toNat * 512 + s.fld Reg.chainStatus ⟨8, 1⟩ * 256 + side * 128 + s.heartbeat.toNat * 64 + (s.cside 1).up.toNat * 32 + (s.cside 0).up.toNat * 16 + st
  let addr := if st = 2 then 0 else s.rdn Reg.chainOrigin % 256
  let org := match tod with
    | some t => t.claim * 65536 + t.hop * 256 + addr
    | none => (if st = 2 then s.claim * 65536 else 0) + addr
  let topo := decide (w % 512 / 128 ≠ s.rdn Reg.chainStatus % 512 / 128) || decide (w % 64 / 16 ≠ s.rdn Reg.chainStatus % 64 / 16) ||
    decide (st ≠ s.rdn Reg.chainStatus % 8) || decide (addr ≠ s.rdn Reg.chainOrigin % 256)
  let moved := f.isSome && s.chain.lastSide.isSome && decide (f ≠ s.chain.lastSide)
  let t := (((s.wrn Reg.chainStatus w).wrn Reg.chainOrigin org).raiseIrqIf topo 56).setChain fun c =>
    { c with lastSide := if f.isSome then f else c.lastSide }
  if moved then t.loseRef17 else t

/-! ### Frames (R502, R503, R507) -/

/-- A message frame: 46 octets and their CRC-16 (R503). -/
def chainFrameOf (type hops addr : Nat) (body : List Byte) : List Byte :=
  let head := (beBytes 1 type ++ beBytes 1 hops ++ beBytes 1 addr ++ [0] ++ body ++ List.replicate 42 0).take 46
  head ++ beBytes 2 (crcM 16 0x1021 0xFFFF head)

/-- Its own chain address (R510). -/
def chainAddr : Nat := s.rdn Reg.chainOrigin % 256

/-- The order of a frame in a queue: TOD, HOP, ENUM, PARTNER (R507). -/
def chainRank : ChainMsg → Nat
  | .tod => 0
  | .hop => 1
  | .enum _ => 2
  | .partner _ => 3

/-- Queue a frame on side `k` in the order of R507, or drop and count it. -/
def chainQueue (k : Nat) (m : ChainMsg) : State :=
  let q := (s.cside k).queue
  if 32 ≤ q.length then s.countSat Reg.chainDrops
  else s.setCside k fun x => { x with queue := q.filter (fun a => chainRank a ≤ chainRank m) ++ [m] ++ q.filter (fun a => chainRank m < chainRank a) }

/-- The TOD of this node at this cycle (R503, R505, R506). -/
def chainTodFrame : List Byte :=
  let (claim, uid, hop) : Nat × Nat × Nat := match s.chainFollows with
    | some k => (match (s.cside k).tod with | some t => (t.claim, t.uid, t.hop + 1) | none => (0, 0, 0))
    | none => (s.claim, s.uid64, 0)
  let flags := s.rdn Reg.utcOffset / 2 ^ 31 + s.class3.toNat * 2 + s.leapPending * 4
  let bound := if s.class3 then 0xFFFFFFFF else s.rdn Reg.ledgerBound
  chainFrameOf 1 0 s.chainAddr (beBytes 6 (s.seconds 0) ++ beBytes 2 (s.rdn Reg.utcOffset) ++ beBytes 1 flags ++
    beBytes 1 (s.fld Reg.holdStatus Fld.holdStatus_CLASS) ++ beBytes 4 bound ++ beBytes 2 claim ++ beBytes 8 uid ++ beBytes 1 hop)

/-- The stamps of side `k` in this second: TX marker and RX marker. -/
def chainMarks (k : Nat) : Nat × Nat := (s.loupe.marks.get 0 (2 * k), s.loupe.marks.get 0 (2 * k + 1))

/-- The HOP frame of side `k` (R503, R508). -/
def chainHopFrame (k : Nat) : List Byte :=
  let (tx, rx) := s.chainMarks k
  chainFrameOf 2 0 s.chainAddr (beBytes 8 tx ++ beBytes 8 rx ++ beBytes 2 s.chain.cycle ++ beBytes 8 s.uid64)

/-- This node's PARTNER frame (R503, R511). -/
def chainPartnerFrame : List Byte :=
  chainFrameOf 4 0 s.chainAddr (beBytes 8 s.uid64 ++ beBytes 2 0x9256 ++ beBytes 2 s.claim ++ beBytes 1 s.chainAddr)

/-- Whether a frame waiting on side `k` is sent: a node sends TOD while it originates, or on the side it does not follow (R506). -/
def chainMaySend (k : Nat) : ChainMsg → Bool
  | .tod => s.originates || (match s.chainFollows with | some f => f != k | none => false)
  | _ => true

/-- The octets of a waiting frame as it is sent. -/
def chainOctets (k : Nat) : ChainMsg → List Byte
  | .tod => s.chainTodFrame
  | .hop => s.chainHopFrame k
  | .enum b => b
  | .partner b => b

/-- One cycle of side `k`, number `n` (R502): FRAME48 and at most one message frame. -/
def chainSideCycle (n k : Nat) : State :=
  let t := s.send (.chainFrame (k == 0) (beBytes 2 n ++ beBytes 1 (crcM 8 0x07 0 (beBytes 2 n))))
  match (t.cside k).queue with
  | [] => t
  | m :: ms =>
    let u := t.setCside k fun x => { x with queue := ms }
    if s.chainMaySend k m then u.send (.chainFrame (k == 0) (t.chainOctets k m)) else u

/-- A TB_0 second boundary at the chain (R508): the markers of the second's first cycle are to be stamped. -/
def chainSecond : State :=
  if !s.chainSends then s
  else
    let t := { s with loupe := { s.loupe with marks := [] } }
    [0, 1].foldl (fun (t : State) (k : Nat) => t.setCside k fun x => { x with hopSent := !x.up })
      (t.setChain fun c => { c with cycle := s.frameNo % 65536 })

/-- A block reset of CHAIN (R514): counters and delay windows clear. -/
def chainReset : State :=
  let t := [Reg.chainCrcErr, Reg.chainDrops, Reg.chainLosses, Reg.chainUpDelay, Reg.chainDnDelay].foldl (fun (t : State) (a : Nat) => t.wr a 0) s
  [0, 1].foldl (fun (t : State) (k : Nat) => t.setCside k fun x => { x with sums := [] }) t

end State

/-! ### The rows -/

/-- CHAIN_CYCLE (R502, R506, R508, R510, R511), once for each 48 kHz instant of TB_0: TOD with the cycle of a second boundary, ENUM one cycle later, PARTNER one cycle after ENUM is handled, and
HOP once both markers are stamped; then each side sends. -/
def execChainCycle (s : State) : Res :=
  let s := s.chainRefresh
  let now := (s.tb 0).t * 48000 / secondFine
  done (if !s.chainSends || s.chain.cycleAt == some now then s
  else
    let s := s.setChain fun c => { c with cycleAt := some now }
    let k := s.frameNo
    let p := now % 48000
    let org := s.fld Reg.chainStatus ⟨0, 3⟩ == 2
    let s := if org && p == 0 then (s.chainQueue 0 .tod).chainQueue 1 .tod else s
    let s := if s.chain.partnerDue then
        [0, 1].foldl (fun (t : State) (i : Nat) => if (t.cside i).up then t.chainQueue i (.partner t.chainPartnerFrame) else t)
          (s.setChain fun c => { c with partnerDue := false })
      else s
    let s := if org && p == 1 then
        let e := State.chainFrameOf 3 0 s.chainAddr (beBytes 1 0 ++ beBytes 8 s.uid64)
        ((s.chainQueue 0 (.enum e)).chainQueue 1 (.enum e)).setChain fun c => { c with partnerDue := true }
      else s
    let s := [0, 1].foldl (fun (t : State) (i : Nat) =>
      let m := t.chainMarks i
      if (t.cside i).up && !(t.cside i).hopSent && m.1 != 0 && m.2 != 0 then (t.setCside i fun x => { x with hopSent := true }).chainQueue i .hop else t) s
    (s.chainSideCycle k 0).chainSideCycle k 1)

/-- CHAIN_FRAME48_RX (R504): 8 in a row with a correct CRC make a side UP. -/
def execChainFrame48Rx (side : Fin 2) (k : BitVec 16) (crc : BitVec 8) (s : State) : Res :=
  done (if !s.chainMode then s
  else
    let good := decide (crcM 8 0x07 0 (beBytes 2 k.toNat) = crc.toNat)
    let n := if good then (s.cside side).run + 1 else 0
    let s := s.setCside side fun x => { x with run := min 8 n, up := x.up || decide (8 ≤ n), heard := if good then s.monitorNow else x.heard }
    s.chainRefresh)

/-- CHAIN_SIDE_LOST (R504, R514): 8 cycles have passed since the last good FRAME48 of a side. -/
def execChainSideLost (side : Fin 2) (s : State) : Res :=
  done (if (s.monitorNow - (s.cside side).heard) * 48000 < 8 * (secondTicks : Int) then s
  else if (s.cside side).up then
    let t := s.setCside side fun x => { x with run := 0, up := false }
    ((t.incSat Reg.chainLosses (if side.val = 0 then ⟨16, 16⟩ else ⟨0, 16⟩)).raiseFault 29 side).chainRefresh
  else s.setCside side fun x => { x with run := 0 })

/-- CHAIN_TOD_RX (R505, R506): the latest TOD of a side; equal origin claims of different origins raise fault 28; a follower repeats on the other side what
it hears on the side it follows. -/
def execChainTodRx (side : Fin 2) (flags : BitVec 8) (bound : BitVec 32) (claim : BitVec 16) (uid : BitVec 64) (hop : BitVec 8) (s : State) : Res :=
  done (if !(s.chainMode && (s.cside side).up) then s
  else
    let t := s.setCside side fun x => { x with tod := some ⟨flags.toNat, bound.toNat, claim.toNat, uid.toNat, hop.toNat, s.monitorNow⟩ }
    let other := match (t.cside (1 - side.val)).tod with | some o => o.claim == claim.toNat && o.uid != uid.toNat | none => false
    let own := t.bit Reg.chainCtrl 4 && t.claim != 0 && t.claim == claim.toNat && uid.toNat != t.uid64
    let t := t.raiseFaultIf (other || own) 28 0x8000
    let t := t.chainRefresh
    if t.chainShownSide = some side.val then t.chainQueue (1 - side.val) .tod else t)

/-- CHAIN_HOP_RX (R508, R509): with both stamps of the cycle an exchange gives delay and offset; on the followed side a traceable one goes to reference 17. -/
def execChainHopRx (side : Fin 2) (ttx trx : BitVec 64) (cycle : BitVec 16) (uid : BitVec 64) (s : State) : Res :=
  done (if !(s.chainMode && (s.cside side).up) then s
  else
    let follow := decide (s.chainShownSide = some side.val)
    let changed := match (s.cside side).uid with | some u => u != uid.toNat | none => false
    let s := s.setCside side fun x => { x with uid := some uid.toNat }
    let s := if follow && changed then s.loseRef17 else s
    let (t3, t2) := s.chainMarks side
    if t3 = 0 ∨ t2 = 0 ∨ cycle.toNat ≠ s.chain.cycle then s
    else
      let a := State.tickDiff t2 ttx.toNat
      let b := State.tickDiff trx.toNat t3
      let d := (a + b) / 2
      if 5000 * 65536 < d then s
      else
        let asym := s.rdi (if side.val = 0 then Reg.chainUpAsym else Reg.chainDnAsym)
        let theta := (b - a + asym) / 2
        let s := s.setCside side fun x => { x with sums := ((a + b) :: x.sums).take 16 }
        let w := (s.cside side).sums
        let s := s.wriSat (if side.val = 0 then Reg.chainUpDelay else Reg.chainDnDelay) (median (w.map fun x => x / 2))
        match (if follow then (s.cside side).tod else none) with
        | some t =>
          if !t.flags.testBit 1 || s.bit Reg.chainCtrl 8 then
            let hi := w.foldl max (a + b)
            let lo := w.foldl min (a + b)
            s.ofsFromHardware 17 theta t2 (t.bound + s.rdn Reg.chainUncBase + ((hi - lo + 65535) / 65536).toNat)
          else s
        | none => s)

/-- CHAIN_ENUM_RX (R507, R510): the hop count and the address of a follower; the frame is forwarded. -/
def execChainEnumRx (side : Fin 2) (hops hop : BitVec 8) (uid : BitVec 64) (s : State) : Res :=
  done (if !(s.chainMode && (s.cside side).up) then s
  else
    let follow := decide (s.chainShownSide = some side.val)
    let h := hop.toNat + 1
    let s := if !follow then s
      else
        let ovr := decide (63 < h)
        let addr := if ovr then 0x3F else side.val * 128 + h
        let t := (s.putBit Reg.chainStatus 8 ovr).raiseFaultIf ovr 29 2
        let t := if t.chainAddr = addr then t else (t.put Reg.chainOrigin ⟨0, 8⟩ addr).raiseIrq 56
        t.setChain fun c => { c with partnerDue := true }
    if 63 ≤ hops.toNat then s
    else s.chainQueue (1 - side.val) (.enum (State.chainFrameOf 3 (hops.toNat + 1) s.chainAddr (beBytes 1 (if follow then min 255 h else hop.toNat) ++ beBytes 8 uid.toNat))))

/-- CHAIN_PARTNER_RX (R507, R515): a partner is entered, returns or is heard again; the frame is forwarded. -/
def execChainPartnerRx (side : Fin 2) (hops sender : BitVec 8) (uid : BitVec 64) (kind claim : BitVec 16) (addr : BitVec 8) (s : State) : Res :=
  done (if !(s.chainMode && (s.cside side).up) then s
  else
    let t := match s.partnerAt 0 uid.toNat 0 with
      | some (i, p) => if s.partnerKind 0 then
          (s.setPartner i { p with side := side, dev := kind.toNat, seen := s.seconds 0 % 2 ^ 32 }).partnerShow else s
      | none => s.partnerAdd 0 uid.toNat (uid.toNat % 2 ^ 32) (uid.toNat / 2 ^ 32) 0 side kind.toNat
    let t := match t.partnerAt 0 uid.toNat 0 with
      | some (i, p) => if t.partnerKind 0 then t.setPartner i { p with at_ := addr.toNat, heard := t.monitorNow } else t
      | none => t
    if 63 ≤ hops.toNat then t
    else t.chainQueue (1 - side.val) (.partner (State.chainFrameOf 4 (hops.toNat + 1) sender.toNat
      (beBytes 8 uid.toNat ++ beBytes 2 kind.toNat ++ beBytes 2 claim.toNat ++ beBytes 1 addr.toNat))))

/-- The 48 octets are a good message frame (R503): a known TYPE and a correct CRC-16. -/
def chainFrameGood (frame : List Byte) : Bool :=
  let type := beNat (slice frame 0 1)
  decide (frame.length = 48) && 1 ≤ type && type ≤ 4 && beNat (slice frame 46 2) == crcM 16 0x1021 0xFFFF (slice frame 0 46)

/-- CHAIN_BAD_FRAME (R503): a frame whose CRC fails or whose TYPE is unknown is discarded and counted. -/
def execChainBadFrame (frame : List Byte) (s : State) : Res :=
  done (if s.chainMode && !chainFrameGood frame then s.countSat Reg.chainCrcErr else s)

/-- CHAIN_TOD_TIMEOUT (R505): a TOD received more than 2 s ago counts no more. -/
def execChainTodTimeout (side : Fin 2) (s : State) : Res :=
  done (match (s.cside side).tod with
  | some t => if 2 * (secondTicks : Int) < s.monitorNow - t.got then (s.setCside side fun x => { x with tod := none }).chainRefresh else s
  | none => s)

/-- PARTNER_LEAVE_TIMEOUT (R515): a chain partner unheard for 3 s is LEFT. -/
def execPartnerLeaveTimeout (uid : BitVec 64) (s : State) : Res :=
  done (match s.partnerAt 0 uid.toNat 0 with
  | some (_, p) => if 3 * (secondTicks : Int) ≤ s.monitorNow - p.heard then s.partnerDrop 0 uid.toNat 0 else s
  | none => s)

/-- PARTNER_SEL_WRITE (R516): the entry is latched into PARTNER_DATA. -/
def execPartnerSelWrite (i : Fin 1024) (s : State) : Res :=
  done ((s.wrn Reg.partnerSel i).wrRun (Reg.partnerData 0) (s.partnerWords i))

end Sys2Proof.Machine
end

