-- ==== Sys2Proof/Machine/LineLink.lean ====
section
/-!
DEFINITION. The link and queue commands of the line ports (R261, R273, R278–R287), with the port states of the PTP engine that follow the
link (R296).
-/

namespace Sys2Proof.Machine

namespace State

variable (s : State)

/-- Port `n` is in the state its conditions ask for, and the PTP instances follow (R261, R296). -/
def lineJudge (n : Nat) : State := ((s.linkRule n).mJudge n).followJudge n

/-- Every port is judged: SYN_G or a power group has changed (R24, R261). -/
def lineJudgeAll : State := (List.range 4).foldl (fun t n => t.lineJudge n) s

/-- Port `n` takes a link state, and the PTP instances follow. -/
def lineEnter (n st : Nat) : State := ((s.linkTo n st).mJudge n).followJudge n

/-- A block reset of LINE_n (R287): frames on the wire end, the counters clear, and the link trains again. -/
def lineReset (n : Nat) : State :=
  let st := s.linkState n
  let t := s.linkForget n
  let t := if st = 0 then t else t.lineEnter n (if s.synLocked 0 then 2 else 1)
  t.lineClear n

end State

/-- LINE_ENABLE_WRITE (R261): ENABLE with the state that follows. -/
def execLineEnableWrite (n : Fin 4) (enable : Bool) (s : State) : Res :=
  done ((s.put (Reg.lineCtrl n) Fld.lineCtrl_ENABLE enable.toNat).lineJudge n)

/-- LINE_SYNC_ACQUIRED (R261): DOWN to TRAINING, with auto-negotiation started where the mode has it. -/
def execLineSyncAcquired (n : Fin 4) (s : State) : Res :=
  done (if s.linkState n = 2 then
    let t := (s.put (Reg.lineStatus n) Fld.lineStatus_LOCK 1).put (Reg.lineStatus n) Fld.lineStatus_HI_BER 0
    ((t.anStart n).setLine n fun l => { l with lockAt := s.edges }).lineEnter n 3
  else s)

/-- LINE_LINK_UP (R261, R262): after 1 ms of lock, TRAINING to UP without auto-negotiation, or where it is complete with a partner whose mode fits; else
MODE_BAD. -/
def execLineLinkUp (n : Fin 4) (fullDuplex : Bool) (pause speed : Fin 4) (s : State) : Res :=
  done (if s.linkState n = 3 ∧ (s.lineAt n).lockAt + State.gridUs 1000 ≤ s.edges then
    if !s.negotiates n then (s.put (Reg.lineStatus n) Fld.lineStatus_MODE_BAD 0).lineEnter n 4
    else if (s.lineAt n).anRun then
      let t := s.put (Reg.lineAn n) Fld.lineAn_LP_FD fullDuplex.toNat
      let t := if s.personality n = 2 then t.put (Reg.lineAn n) Fld.lineAn_LP_SPEED speed else t.put (Reg.lineAn n) Fld.lineAn_LP_PAUSE pause
      if !fullDuplex || (s.personality n == 2 && speed.val != 2) then
        (t.put (Reg.lineStatus n) Fld.lineStatus_MODE_BAD 1).setLine n fun l => { l with anRun := false, badAt := s.edges }
      else ((t.put (Reg.lineStatus n) Fld.lineStatus_AN_DONE 1).put (Reg.lineStatus n) Fld.lineStatus_MODE_BAD 0).lineEnter n 4
    else s
  else s)

/-- LINE_SYNC_LOST (R261): from TRAINING or UP to DOWN; fault 22 when it was UP. -/
def execLineSyncLost (n : Fin 4) (hiBer : Bool) (s : State) : Res :=
  done (
    let st := s.linkState n
    if st = 3 ∨ st = 4 then
      let t := (s.linkForget n).put (Reg.lineStatus n) Fld.lineStatus_HI_BER hiBer.toNat
      (t.raiseFaultIf (st == 4) 22 n).lineEnter n 2
    else s)

/-- LINE_AN_RESTART (R261): in TRAINING with MODE_BAD, auto-negotiation starts again after 1 s. -/
def execLineAnRestart (n : Fin 4) (s : State) : Res :=
  done (if s.linkState n == 3 && s.on (Reg.lineStatus n) Fld.lineStatus_MODE_BAD && decide ((s.lineAt n).badAt + State.gridUs 1000000 ≤ s.edges) then
    s.anStart n
  else s)

/-- LINE_BLK_RST (R287). -/
def execLineBlkRst (n : Fin 4) (s : State) : Res := done (s.lineReset n)

/-- LINE_CNT_CLR (R288). -/
def execLineCntClr (n : Fin 4) (s : State) : Res := done (s.lineClear n)

/-- LINE_PAUSE_EXPIRE (R273): at the end of its time the hold ends and the transmitter resumes. -/
def execLinePauseExpire (n : Fin 4) (s : State) : Res :=
  done (if s.on (Reg.lineStatus n) Fld.lineStatus_PAUSED && decide ((s.lineAt n).pauseEnd ≤ s.edges * 160) then s.pauseEnds n else s)

/-- `k` free 64-bit values, for ring entries that the command does not carry. -/
def freshAddrs : Nat → State → List Nat × State
  | 0, s => ([], s)
  | k + 1, s =>
    let (v, t) := s.fresh 64
    let (vs, t) := freshAddrs k t
    (v.toNat :: vs, t)

/-- POOL_TAIL_WRITE (R278): the entries between the old and the new TAIL are posted; `addrs` are what the ring holds there, bits [5:0] of
each ignored. -/
def execPoolTailWrite (value : BitVec 16) (addrs : List (BitVec 64)) (s : State) : Res :=
  let n := s.ringSize Reg.poolSize
  let k := (value.toNat % n + n - s.rdn Reg.poolTail % n) % n
  let (extra, t) := freshAddrs (k - addrs.length) s
  let as := ((addrs.map (·.toNat)).take k ++ extra).map fun a => a / 64 * 64
  done (((t.put Reg.poolTail ⟨0, 16⟩ value.toNat).setQueue fun u => { u with posted := u.posted ++ as }).poolFill.poolShow)

/-- RXQ_HEAD_WRITE (R279): entries are released; buffers that a reset has still to return may now go (R286). -/
def execRxqHeadWrite (q : Fin 4) (value : BitVec 16) (s : State) : Res :=
  done ((s.put (Reg.rxqHead q) ⟨0, 16⟩ value.toNat).queueDrain)

/-- RXQ_COAL_TIMER (R284): interrupt 32 + q for entries that no interrupt has announced, while the count is at or below LEVEL and COAL is not 0. -/
def execRxqCoalTimer (q : Fin 4) (s : State) : Res :=
  let coal := s.fld (Reg.rxqCtrl q) ⟨8, 8⟩
  done (if (s.rxq q).unann.any (fun t => decide (t + State.gridUs coal ≤ s.edges)) && coal != 0 &&
      decide (s.rxqUsed q ≤ s.fld (Reg.rxqCtrl q) ⟨16, 16⟩) then
    (s.raiseIrq (32 + q)).setRxq q fun r => { r with unann := none }
  else s)

/-- A descriptor from its 16 octets, little-endian (R282). -/
def txDescOf (d : Nat) : TxDesc := ⟨d % 2 ^ 64, d / 2 ^ 64 % 65536, d / 2 ^ 80 % 65536, d / 2 ^ 96 % 2 ^ 32⟩

/-- `k` descriptors of free values. -/
def freshDescs : Nat → State → List TxDesc × State
  | 0, s => ([], s)
  | k + 1, s =>
    let (v, t) := s.fresh 128
    let (vs, t) := freshDescs k t
    (txDescOf v.toNat :: vs, t)

/-- TXQ_TAIL_WRITE (R282): descriptors from the old to the new TAIL pass to the TM9256; `descs` are what the ring holds there. -/
def execTxqTailWrite (q : Fin 4) (value : BitVec 16) (descs : List (BitVec 128)) (s : State) : Res :=
  let n := s.ringSize (Reg.txqSize q)
  let k := (value.toNat % n + n - s.rdn (Reg.txqTail q) % n) % n
  let (extra, t) := freshDescs (k - descs.length) s
  let ds := (descs.take k).map (fun d => txDescOf d.toNat) ++ extra
  done (((t.put (Reg.txqTail q) ⟨0, 16⟩ value.toNat).setTxq q fun x => { x with descs := x.descs ++ ds }).txAdvanceAll)

/-- TXQ_FRAME_COMPLETE (R273, R275, R282–R284): the frame on the wire ends as SENT with its stamp, or as DMA_ERROR with an error character; a pause that waited
for it starts; its descriptors are written back and HEAD moves, once DMA may, and the queue goes on. -/
def execTxqFrameComplete (q : Fin 4) (dmaFailed : Bool) (s : State) : Res :=
  done (match (s.txq q).wire with
  | none => s
  | some (port, stamp, octets) =>
    let total := State.txTotal ((s.txq q).descs.take (s.headCount q))
    let t := s.setTxq q fun x => { x with wire := none, sent := some (if dmaFailed then (5, total, 0) else (0, total, stamp)) }
    let t := (if dmaFailed then t else t.sendFrame port octets).pauseStart port
    if t.dmaOk then (t.txOwed q).txAdvanceAll else t)

/-- QUEUE_BLK_RST (R286). -/
def execQueueBlkRst (s : State) : Res := done s.queueReset

end Sys2Proof.Machine
end

