-- ==== Sys2Proof/Machine/Frames.lean ====
section
/-!
DEFINITION. Frames at the line ports: the receive counters and the filter (R268–R273), the classifier (R31), and the order in which frames start (R275).
-/

namespace Sys2Proof.Machine

namespace State

variable (s : State)

/-- The group addresses that the PTP instances of port `n` use (R292). -/
def ptpGroups (n : Nat) : List Nat :=
  if !s.ptpOn || !(s.on (Reg.ptpMCfg n) Fld.ptpMCfg_ENABLE || s.on (Reg.ptpSCfg n) Fld.ptpSCfg_ENABLE) then []
  else match s.transport n with
    | 1 => [groupMac false 0xE0000181, groupMac false 0xE000006B]
    | 2 => [groupMac true 0xFF0E0000000000000000000000000181, groupMac true 0xFF02000000000000000000000000006B]
    | _ => [if s.profile n = 2 then 0x0180C200000E else 0x011B19000000, 0x0180C200000E]

/-- The group addresses that the enabled receive entries use on port `n` (R371). -/
def streamGroups (n : Nat) : List Nat :=
  (List.range 256).flatMap fun i =>
    let b := Reg.rxCtrl i
    if s.rxState i = 0 then []
    else ([0, 1].filter fun p => s.pOn b p && s.pPort b p == n).filterMap fun p =>
      if s.pKind b p = 3 then (if (s.pMac b p).testBit 40 then some (s.pMac b p) else none)
      else some (groupMac (s.pKind b p == 2) (s.pIp b p))

/-- The group addresses of the engines on port `n`, each once: the first 64 stand in the exact-match list (R271). -/
def groupsOf (n : Nat) : List Nat := (s.ptpGroups n ++ s.streamGroups n).eraseDups

/-- The hash index of an address (R271). -/
def hashIndex (mac : Nat) : Nat := crc32 (beBytes 6 mac) % 256

/-- The hash bit of a group address at port `n`: host software's, or an engine's whose address found the list full (R271). -/
def hashBit (n i : Nat) : Bool := s.bit (Reg.lineHash n (i / 32)) (i % 32) || ((s.groupsOf n).drop 64).any fun a => hashIndex a == i

/-- The filter of R271. -/
def macAccepts (n dst : Nat) : Bool :=
  let own := s.lineMac n
  let f := Reg.lineFilter n
  (own != 0 && dst == own) || (dst == 2 ^ 48 - 1 && s.on f Fld.lineFilter_BCAST) ||
    (dst.testBit 40 && (s.hashBit n (hashIndex dst) || s.on f Fld.lineFilter_ALLMULTI || ((s.groupsOf n).take 64).contains dst)) ||
    s.on f Fld.lineFilter_PROMISC

/-- The classifier gives a frame to the PTP engine (R31, R292): EtherType 0x88F7, or UDP port 319 or 320, while the engine is enabled. -/
def ptpTakes (e : Eth) : Bool :=
  s.ptpOn && (e.type == 0x88F7 || match parseUdp e with | some u => u.dport == 319 || u.dport == 320 | none => false)

/-- A frame that has passed the MAC reaches its one consumer (R31): PTP, NTS, streams, else host software.  What an engine then does with it is a
command of its own (log entry 33). -/
def classify (n : Nat) (frame : List Byte) (stamp : Int) (refused : Bool) : State :=
  let e := parseEth frame
  if s.ptpTakes e then s
  else if (match parseUdp e with | some u => s.ntsTakes n e u | none => false) then s
  else if s.streamMatches n e then s
  else s.hostFrame { q := s.fld (Reg.lineCtrl n) Fld.lineCtrl_DEFAULT_Q, port := n, data := frame, stamp := uns 64 stamp, refused := refused }

/-- The source whose frame starts next at port `n` among those that wait (R275). -/
def nextEngine (n : Nat) : Option TxFrame :=
  [0, 1, 2].findSome? fun k => (s.lineAt n).wait.find? fun f => f.src == k

end State

/-- The codeword counters of personality 5 (R288). -/
def State.fecCount (s : State) (n : Nat) (corr uncorr : BitVec 16) : State :=
  if s.personality n = 5 then (s.countSatBy (Reg.lineFecCorr n) corr.toNat).countSatBy (Reg.lineFecUncorr n) uncorr.toNat else s

/-- LINE_FRAME_RX (R268–R273, R31): exactly one counter; an accepted frame goes to one consumer, a pause frame to the transmitter. -/
def execLineFrameRx (n : Fin 4) (frame : List Byte) (back : BitVec 32) (align symbol ovr refused : Bool) (corr uncorr : BitVec 16) (s : State) : Res :=
  done (if !s.lineUp n then s
  else
    let s := s.fecCount n corr uncorr
    let len := frame.length
    let body := frame.take (len - 4)
    let e := parseEth body
    if ovr then (s.countSat (Reg.lineRxFifo n)).raiseFault 23 n
    else if symbol then s.countSat (Reg.lineRxSymbol n)
    else if align then s.countSat (Reg.lineRxAlign n)
    else if len < 64 then s.countSat (Reg.lineRxRunt n)
    else if s.maxFrame n < len then s.countSat (Reg.lineRxOversize n)
    else if leAt frame (len - 4) 4 ≠ crc32 body then s.countSat (Reg.lineRxFcs n)
    else if e.type = 0x8808 ∧ e.tag = none then
      if beAt e.body 0 2 = 1 ∧ (e.dst = 0x0180C2000001 ∨ (e.dst = s.lineMac n ∧ e.dst ≠ 0)) then
        (s.countSat (Reg.lineRxPause n)).pauseRx n (beAt e.body 2 2)
      else s.countSat (Reg.lineRxMacctl n)
    else if !s.macAccepts n e.dst then s.countSat (Reg.lineRxFiltered n)
    else
      let t := s.countSat (Reg.lineRxOk n)
      (t.wr64 (Reg.lineRxOctetsLo n) (t.rd64 (Reg.lineRxOctetsLo n) + len)).classify n body (t.rxStamp n (t.lineTb n) back.toNat) refused)

/-- LINE_FRAME_TX (R274–R276, R282): a free port that is UP starts the next frame: an engine's in the order of R275, else the head of the first ready
transmit queue, which then is on the wire. -/
def execLineFrameTx (n : Fin 4) (back : BitVec 32) (octets : List Byte) (s : State) : Res :=
  done (if !s.lineUp n || (List.range 4).any (s.onWire n) then s
  else match s.nextEngine n with
    | some f => (s.setLine n fun l => { l with wait := l.wait.erase f }).sendFrame n f.octets
    | none =>
      if s.on (Reg.lineStatus n) Fld.lineStatus_PAUSED || !s.dmaOk then s
      else match (List.range 4).find? fun q => (s.txReady q n).isSome with
        | none => s
        | some q =>
          let k := (s.txReady q n).getD 0
          let total := State.txTotal ((s.txq q).descs.take k)
          let data := (octets ++ List.replicate total 0).take total
          s.setTxq q fun x => { x with wire := some (n, uns 64 (s.txStamp n (s.lineTb n) back.toNat), data) })

end Sys2Proof.Machine
end

