-- ==== Sys2Proof/Machine/Intc.lean ====
section
/-!
DEFINITION. The interrupt controller: conditions, sensing, eligibility, arbitration, posting, claims and completions in
FLAT and NESTED mode, MSI-X delivery, and the reads of the EVT and PPS capture FIFOs (R537–R556).
-/

namespace Sys2Proof.Machine

open Host (Outcome)

namespace State

variable (s : State)

/-- Change the interrupt controller. -/
def setIntc (f : IntcSt → IntcSt) : State := { s with intc := f s.intc }

/-- Target `t`. -/
def itgt (t : Nat) : TargetSt := s.intc.tgt.get {} t

/-- Change target `t`. -/
def setItgt (t : Nat) (f : TargetSt → TargetSt) : State :=
  s.setIntc fun c => { c with tgt := c.tgt.set {} t (f (c.tgt.get {} t)) }

/-- Any register of a run of `k` words is non-zero. -/
def anySet (a k : Nat) : Bool := (List.range k).any fun i => s.rdn (a + 4 * i) != 0

/-- The condition a source presents, none for a source without one (R537). -/
def irqCond (n : Nat) : Option Bool :=
  match n with
  | 0 => some ((List.range 48).any (fun k => s.faultLatched k && s.bit (Reg.faultCfg k) 0) ||
      decide (s.rdn Reg.evtCtrl % 2048 < s.intc.evt.entries.length))
  | 5 => some (s.on Reg.ledgerStatus Fld.ledgerStatus_OVER_LIMIT)
  | 10 => some ((List.range 4).any fun k =>
      decide (s.fld (Reg.refTodCfg k) Fld.refTodCfg_LEVEL < (s.ref k).tod.length) ||
        decide (s.rdn (Reg.ppsCtrl k) % 128 < (s.intc.pps.get {} k).entries.length))
  | 12 => some (s.rdn Reg.loupeDone != 0)
  | 13 => some (decide (s.rdn Reg.loupeCtrl % 16384 < s.loupe.fifo.entries.length))
  | 22 => some (decide (s.rdn Reg.ptpTsCtrl % 4096 < s.ptp.ts.entries.length))
  | 23 => some (s.rd Reg.ptpEvents &&& s.rd Reg.ptpEventsEn != 0)
  | 40 => some (decide (s.rdn Reg.gnssDumpCtrl % 2048 < s.gnss.dump.entries.length))
  | 41 => some (decide (s.rdn Reg.gnssNavCtrl % 256 < s.gnss.nav.entries.length))
  | 43 => some (s.anySet (Reg.streamRxEvt 0) 8 || s.anySet Reg.serialEvtLo 2)
  | 44 => some (s.anySet (Reg.streamTxEvt 0) 8)
  | 47 => some (s.anySet (Reg.streamAsrcEvt 0) 4)
  | 48 => some (s.anySet (Reg.schedMailEvt 0) 8)
  | 49 => some (s.anySet (Reg.schedMarginEvt 0) 8)
  | 51 => some (s.rdn Reg.pagerStatus % 4 != 0)
  | 52 => some (decide (s.rdn Reg.poolAvail ≤ s.rdn Reg.poolLow % 131072))
  | 54 => some (s.on Reg.pairStatus Fld.pairStatus_DIVERGED)
  | 62 => some (s.rd Reg.dbStatus &&& s.rd Reg.dbEn != 0)
  | n =>
    if 14 ≤ n ∧ n ≤ 21 then some (s.rd (Reg.tbMatch (n - 14)) &&& s.rd (Reg.tbMatchEn (n - 14)) != 0)
    else if 32 ≤ n ∧ n ≤ 35 then some (decide (s.fld (Reg.rxqCtrl (n - 32)) ⟨16, 16⟩ < s.rxqUsed (n - 32)))
    else none

/-- Source `n` is sensed by level: SENSE is 1 and it has a condition (R538). -/
def irqLevel (n : Nat) : Bool := s.bit (Reg.intcSrcCfg n) 12 && (s.irqCond n).isSome

/-- The pending bit of source `n` (R538). -/
def irqPending (n : Nat) : Bool := if s.irqLevel n then (s.irqCond n).getD false else s.intc.pend.get false n

/-- Source `n` is in service on some target. -/
def irqInService (n : Nat) : Bool := (List.range 4).any fun t => (s.itgt t).stack.contains n

/-- The controller is in NESTED mode (R541). -/
def intcNested : Bool := (s.param 0x50 0).testBit 0

/-- The number of targets built (R41, R541). -/
def intcTargets : Nat := s.param 0x50 0 / 4 % 4 + 1

/-- GROUP and SUB of source `n`. -/
def irqGroup (n : Nat) : Nat := s.fld (Reg.intcSrcCfg n) Fld.intcSrcCfg_GROUP

/-- SUB of source `n`. -/
def irqSub (n : Nat) : Nat := s.fld (Reg.intcSrcCfg n) Fld.intcSrcCfg_SUB

/-- The target of source `n`: 0 when TARGET names none that is built (R539). -/
def irqTarget (n : Nat) : Nat :=
  let t := s.fld (Reg.intcSrcCfg n) Fld.intcSrcCfg_TARGET
  if t < s.intcTargets then t else 0

/-- Source `n` is not masked for target `t`: both enables and the threshold (R539). -/
def irqUnmasked (t n : Nat) : Bool :=
  s.bit (Reg.intcSrcCfg n) 15 && s.bit (Reg.intcTgtCfg t) 15 &&
    decide (s.irqGroup n ≤ s.fld (Reg.intcTgtCfg t) Fld.intcTgtCfg_THRESH)

/-- The rule of R546: in NESTED mode a group strictly more urgent than that of the source on top, and room on the stack. -/
def irqAdmitted (t n : Nat) : Bool :=
  !s.intcNested ||
    match (s.itgt t).stack with
    | [] => true
    | top :: rest => decide (s.irqGroup n < s.irqGroup top) && decide (rest.length < 15)

/-- Source `n` is eligible for target `t` (R539). -/
def irqEligible (t n : Nat) : Bool :=
  s.bit Reg.intcCtrl 0 && s.irqPending n && !s.irqInService n && s.irqTarget n == t && s.irqUnmasked t n && s.irqAdmitted t n

/-- Whether source `a` is more urgent than `b` (R540). -/
def irqBefore (a b : Nat) : Bool :=
  decide ((s.irqGroup a * 4 + s.irqSub a) * 64 + a < (s.irqGroup b * 4 + s.irqSub b) * 64 + b)

/-- Arbitration for target `t`: lowest GROUP, SUB, number (R540). -/
def arbitrate (t : Nat) : Option Nat :=
  ((List.range 64).filter (s.irqEligible t)).foldl (fun b n => match b with
    | none => some n
    | some m => if s.irqBefore n m then some n else b) none

/-! ### Delivery (R541) -/

/-- The message of vector `v` can be sent. -/
def msixOpen (v : Nat) : Bool := s.dmaOk && s.intc.msixEnable && !s.intc.funcMask && !s.intc.vecMask.get true v

/-- Send the message of vector `v`, or set its pending bit. -/
def msixSend (v : Nat) : State :=
  if s.msixOpen v then (s.send (.msix v)).setIntc fun c => { c with vecPend := c.vecPend.set false v false }
  else s.setIntc fun c => { c with vecPend := c.vecPend.set false v true }

/-- The vector of target `t`. -/
def tgtVector (t : Nat) : Nat := s.fld (Reg.intcTgtCfg t) Fld.intcTgtCfg_VECTOR

/-- Target `t` delivers by pin. -/
def tgtPin (t : Nat) : Bool := s.bit (Reg.intcTgtCfg t) 8

/-- An enabled target names vector `v` (R541). -/
def vecNamed (v : Nat) : Bool :=
  (List.range s.intcTargets).any fun t => s.bit (Reg.intcTgtCfg t) 15 && !s.tgtPin t && s.tgtVector t == v

/-- Messages that waited are sent where nothing prevents it any longer (R541, R580). -/
def msixFlush : State :=
  (List.range 8).foldl (fun (u : State) (v : Nat) => if u.intc.vecPend.get false v && u.vecNamed v && u.msixOpen v then u.msixSend v else u) s

/-- A claim ended the posting of target `t`: a pending message no posted target needs any longer is dropped (R541). -/
def msixDrop (t : Nat) : State :=
  match (s.itgt t).vec with
  | none => s
  | some v =>
    if (List.range 4).any fun u => u != t && (s.itgt u).posted.isSome && (s.itgt u).vec == some v then s
    else s.setIntc fun c => { c with vecPend := c.vecPend.set false v false }

/-- Post target `t` when it may: not POSTED, idle in FLAT mode, an eligible source (R542, R543). -/
def intcPost (t : Nat) : State :=
  let g := s.itgt t
  if g.posted.isSome || (!s.intcNested && !g.stack.isEmpty) then s
  else match s.arbitrate t with
    | none => s
    | some n =>
      let vec := if s.tgtPin t then none else some (s.tgtVector t)
      let u := s.setItgt t fun x => { x with posted := some n, masked := false, since := s.edges, vec := vec }
      match vec with
      | none => u
      | some v => u.msixSend v

/-- Arbitrate and post on every target (R540). -/
def intcArbitrate : State := (List.range s.intcTargets).foldl (fun (u : State) (t : Nat) => u.intcPost t) s

/-- A write of the configuration: a source latched by a FLAT target and masked within the delivery window of 250 ns, 156 GRID edges, is marked
(R544); then arbitration (R540). -/
def intcConfigured : State :=
  let u := (List.range 4).foldl (fun (u : State) (t : Nat) =>
    match (u.itgt t).posted with
    | some n => if !u.intcNested && !u.irqUnmasked t n && decide (u.edges ≤ (u.itgt t).since + 156) then u.setItgt t fun x => { x with masked := true } else u
    | none => u) s
  u.intcArbitrate.msixFlush

/-- The controller takes the events presented: EDGE sources set their pending bits (R538); then arbitration. -/
def intcTake : State :=
  let u := s.intc.raised.foldl (fun (u : State) (n : Nat) =>
    if u.irqLevel n then u else u.setIntc fun c => { c with pend := c.pend.set false n true }) s
  (u.setIntc fun c => { c with raised := [] }).intcArbitrate

/-! ### Claim and completion -/

/-- The word of a claim of source `n` at depth `d` (R542). -/
def claimWord (n d : Nat) (masked : Bool) : Word :=
  BitVec.ofNat 32 (2 ^ 31 + masked.toNat * 2 ^ 30 + d * 65536 + s.irqSub n * 4096 + s.irqGroup n * 256 + n)

/-- Put source `n` in service on target `t`: an EDGE pending bit clears (R538, R543, R545). -/
def intcServe (t n : Nat) : State :=
  let u := if s.irqLevel n then s else s.setIntc fun c => { c with pend := c.pend.set false n false }
  (u.setItgt t fun x => { x with posted := none, masked := false, stack := n :: x.stack }).msixDrop t

/-- A claim of target `t`: the word read and the state after it (R542–R545). -/
def intcClaim (t : Nat) : Word × State :=
  let g := s.itgt t
  if s.intcTargets ≤ t then (0, s)
  else if s.intcNested then
    match s.arbitrate t with
    | some n => (s.claimWord n (g.stack.length + 1) false, (s.intcServe t n).intcArbitrate)
    | none => (0, ((s.setItgt t fun x => { x with posted := none }).msixDrop t).intcArbitrate)
  else match g.posted with
    | some n => (s.claimWord n 1 g.masked, s.intcServe t n)
    | none =>
      if !g.stack.isEmpty then (0, s)
      else match s.arbitrate t with
        | some n => (s.claimWord n 1 false, s.intcServe t n)
        | none => (0, s)

/-- A completion that is ignored: BAD_COMPLETE counts and saturates. -/
def badComplete (t : Nat) : State := s.setItgt t fun x => { x with bad := min 255 (x.bad + 1) }

/-- A completion on target `t` naming source `n` (R543, R547). -/
def intcComplete (t n : Nat) : State :=
  if s.intcTargets ≤ t then s
  else match (s.itgt t).stack with
    | [] => s.badComplete t
    | top :: rest =>
      if top = n then (s.setItgt t fun x => { x with stack := rest }).intcArbitrate
      else if s.intcNested then ((s.setItgt t fun x => { x with stack := [] }).raiseFault 36 t).intcArbitrate
      else s.badComplete t

/-- The controller at a chip reset (R548): pending bits, service, stacks and postings clear; the FIFOs empty. -/
def intcReset : State :=
  let c := s.intc
  let tg := c.tgt.foldl (fun (m : SMap TargetSt) (e : Nat × TargetSt) => m.set {} e.1 { bad := e.2.bad }) []
  let pp := c.pps.foldl (fun (m : SMap Fifo) (e : Nat × Fifo) => m.set {} e.1 (Fifo.empty e.2)) []
  let u := s.setIntc fun c => { c with raised := [], evtDue := [], pend := [], tgt := tg, vecPend := [], evt := Fifo.empty c.evt, pps := pp }
  (List.range 4).foldl (fun (u : State) (n : Nat) => u.wr (Reg.ppsStatus n) 0) u

/-- INTC_TGT_t_STATUS (R558). -/
def intcStatus (t : Nat) : Word :=
  let g := s.itgt t
  let st := if g.posted.isSome then 1 else if g.stack.isEmpty then 0 else 2
  BitVec.ofNat 32 (g.bad * 2 ^ 24 + g.stack.length * 65536 + st * 256 + (if g.stack.isEmpty then 0 else 64) + g.stack.headD 0)

/-- A pending or in-service register: the bits of 32 sources from `lo` on. -/
def intcBits (f : Nat → Bool) (lo : Nat) : Word :=
  BitVec.ofNat 32 ((List.range 32).foldl (fun a i => a + (f (lo + i)).toNat * 2 ^ i) 0)

/-- EVT_0 read: the oldest entry leaves and EVT_1 latches (R551, R554). -/
def evtPop : State :=
  let r := Fifo.pop 2 s.intc.evt
  let u := s.setIntc fun c => { c with evt := r.2 }
  (u.wr Reg.evt0 r.1).wr Reg.evt1 (r.2.last.getD 1 0)

/-- PPS_n_CAP_0 read (R551, R556). -/
def ppsPop (n : Nat) : State :=
  let r := Fifo.pop 3 (s.intc.pps.get {} n)
  let u := s.setIntc fun c => { c with pps := c.pps.set {} n r.2 }
  (((u.wr (Reg.ppsCap n) r.1).wr (Reg.ppsCap1 n) (r.2.last.getD 1 0)).wr (Reg.ppsCap2 n) (r.2.last.getD 2 0)).put (Reg.ppsStatus n) ⟨0, 7⟩
    r.2.entries.length

end State

/-! ### The rows -/

/-- INTC_SOURCE_EVENT (R538, R540, R542): the events presented set their pending bits, the conditions stand as they are, and every target
arbitrates and posts. -/
def execIntcSourceEvent (s : State) : Res := done s.intcTake

/-- INTC_MSIX_UNMASK (R541): the enable and the masks take their values, and messages no longer masked are sent. -/
def execIntcMsixUnmask (enable funcMask : Bool) (masks : BitVec 8) (s : State) : Res :=
  let m := (List.range 8).foldl (fun (m : SMap Bool) (v : Nat) => m.set true v (masks.toNat.testBit v)) []
  done ((s.setIntc fun c => { c with msixEnable := enable, funcMask := funcMask, vecMask := m }).msixFlush)

/-- INTC_CLAIM (R542–R545): the read returns a source and puts it in service, or returns zero. -/
def execIntcClaim (t : Fin 4) (s : State) : Res :=
  let r := s.intcClaim t
  done (r.2.wr (Reg.intcTgtClaim t) r.1)

/-- INTC_COMPLETE (R543, R547): the write ends a service, is ignored and counted, or empties the stack with fault 36. -/
def execIntcComplete (t : Fin 4) (value : Word) (s : State) : Res := done (s.intcComplete t (value.toNat % 64))

/-- INTC_SW_TEST (R537): interrupt 63. -/
def execIntcSwTest (s : State) : Res := done (s.raiseIrq 63)

/-- INTC_PEND_CLEAR (R538): a 1 clears the pending bit of an EDGE source; LEVEL sources ignore it. -/
def execIntcPendClear (hi : Bool) (value : Word) (s : State) : Res :=
  done ((List.range 32).foldl (fun (u : State) (i : Nat) =>
    let n := (if hi then 32 else 0) + i
    if value.toNat.testBit i && !u.irqLevel n then u.setIntc fun c => { c with pend := c.pend.set false n false } else u) s)

/-- EVT_READ (R554). -/
def execEvtRead (s : State) : Res := done s.evtPop

/-- PPS_CAP_READ (R556). -/
def execPpsCapRead (n : Fin 4) (s : State) : Res := done (s.ppsPop n)

end Sys2Proof.Machine
end

