-- ==== Sys2Proof/Machine/Struct.lean ====
section
/-!
DEFINITION. The loader: loading, aborting, fetching and checking a structure image, owner slots, the rollback floor and
the scrub of configuration memory (R43–R57).
-/

namespace Sys2Proof.Machine

open Host (Outcome)

/-- GRID edges in microseconds: GRID is 625 MHz (R15, R143). -/
def edgesToUs (e : Nat) : Nat := e * 16 / 10000

/-- Change the loader. -/
def State.setLoader (s : State) (f : LoaderSt → LoaderSt) : State := { s with loader := f s.loader }

/-- Whether external memory is trained (R596). -/
def State.dramTrained (s : State) : Bool := s.on Reg.dramStatus Fld.dramStatus_TRAINED

/-- The octets a read of the staging window yields: the sample store while no structure is built, the loader reserve
once one is, zeros when external memory is not trained then (R49). -/
def State.stagingRead (s : State) (off n : Nat) : List Byte :=
  if s.loader.built && !s.dramTrained then List.replicate n 0
  else SMap.getRun 0 (if s.loader.built then s.reserve else s.staging) off n

/-- Store octets in the staging window (R49). -/
def State.stagingWrite (s : State) (off : Nat) (bs : List Byte) : State :=
  if s.loader.built then
    if s.dramTrained then { s with reserve := SMap.setRun 0 s.reserve off bs } else s
  else { s with staging := SMap.setRun 0 s.staging off bs }

/-- A load ends, successful or not: the counter, the duration and interrupt 61 (R51, R58).  DESIGN CHOICE (log entry 51): an aborted load counts
too. -/
def State.loadEnds (s : State) : State :=
  ((s.countSat Reg.structLoadCount).wrnSat Reg.structLastUs (edgesToUs (s.edges - s.loader.startEdges))).raiseIrq 61

/-- QSPI_CLK (R48): the OSC frequency, and 50 MHz for a 100 MHz OSC. -/
def qspiHz (oscsel : Nat) : Nat := if oscsel = 3 then 50000000 else oscHz oscsel

/-- Start reading the flash at an octet offset (R48, R61): with the reset values of STRUCT_QSPI_CFG for a load that the straps started, with the
register for one that host software started. -/
def State.qspiStart (s : State) (offset : Nat) : State :=
  let c := (if s.loader.strapLoad then regReset Reg.structQspiCfg else s.rd Reg.structQspiCfg).toNat
  s.send (.qspiRead (c % 256) (c.testBit 12) (c / 256 % 16) offset (qspiHz (s.fld Reg.structStraps ⟨2, 2⟩)))

/-- Start fetching the alternate image (R51, step STRUCT_ALT_FETCH). -/
def State.fetchAlternate (s : State) : State :=
  ((s.put Reg.structStatus Fld.structStatus_ALT_USED 1).setLoader fun l =>
    { l with state := .fetch, source := 2, image := [] }).qspiStart (s.rdn Reg.structQspiAlt)

/-- A check fails, or the flash does not respond: the alternate when it is untried, otherwise the recorded error (R51). -/
def State.failLoad (s : State) (code : Nat) : State :=
  if s.loader.source = 1 then s.fetchAlternate
  else
    let next :=
      if s.loader.built then LoaderState.built
      else if s.loader.strapLoad && s.fld Reg.structStraps ⟨0, 2⟩ == 2 then .waitHost
      else .failed
    ((s.put Reg.structStatus Fld.structStatus_ERROR code).setLoader fun l => { l with state := next, image := [] }).loadEnds

/-- Start a load from a source: 0 the staging window, 1 the primary and 2 the alternate image (R48, R51).  A QSPI load clears ALT_USED (R60);
the duration of a load that the straps start runs from the reset (R58). -/
def State.startFetch (s : State) (source : Nat) (byStraps : Bool) : State :=
  let s := s.setLoader fun l =>
    { l with origin := l.state, state := .fetch, source := source, strapLoad := byStraps, image := [],
             startEdges := if byStraps then l.startEdges else s.edges }
  if source = 0 then s
  else (s.put Reg.structStatus Fld.structStatus_ALT_USED 0).qspiStart (s.rdn (if source = 1 then Reg.structQspiPri else Reg.structQspiAlt))

/-- The loader accepts LOAD: in WAIT_HOST, FAILED and BUILT (R51, R52). -/
def State.loadAccepted (s : State) : Bool :=
  s.loader.state == .waitHost || s.loader.state == .failed || s.loader.state == .built

/-- STRUCT_LOAD (R51, R52): in WAIT_HOST, FAILED or BUILT a load starts from STRUCT_SRC, of which 3 acts as 0. -/
def execStructLoad (s : State) : Res :=
  done (if s.loadAccepted then
    let src := s.fld Reg.structSrc ⟨0, 2⟩
    s.startFetch (if src = 3 then 0 else src) false
  else s)

/-- The state an aborted load returns to (R51). -/
def abortTarget (o : LoaderState) : LoaderState := if o = .empty then .waitHost else o

/-- STRUCT_ABORT (R51): in FETCH or CHECK the image is discarded, ERROR becomes 0, interrupt 61 is raised and the loader
returns to the state the load started from. -/
def execStructAbort (s : State) : Res :=
  done (if s.loader.state == .fetch || s.loader.state == .check then
    ((s.put Reg.structStatus Fld.structStatus_ERROR 0).setLoader fun l =>
      { l with state := abortTarget l.origin, image := [] }).loadEnds
  else s)

/-- LOADER_LEAVE_EMPTY (R47, R51, R64): once PORESET_B is high and the self-tests are done, the straps start a QSPI fetch or the loader waits for the
host. -/
def execLoaderLeaveEmpty (s : State) : Res :=
  done (if s.loader.state == .empty && s.running && s.tested then
    if s.bit Reg.structStraps 0 then s.setLoader fun l => { l with state := .waitHost }
    else s.startFetch 1 true
  else s)

/-- STRUCT_FETCH_COMPLETE (R49, R51): the last octet is received and the checks start. -/
def execStructFetchComplete (octets : List Byte) (s : State) : Res :=
  done (if s.loader.state == .fetch then
    s.setLoader fun l =>
      { l with state := .check,
               image := if l.source = 0 then s.stagingRead 0 (min (s.rdn Reg.structSize) 16777216) else octets }
  else s)

/-- QSPI_FETCH_TIMEOUT (R43, code 12): a QSPI fetch with no data within 10 ms fails. -/
def execQspiFetchTimeout (s : State) : Res :=
  done (if s.loader.state == .fetch && s.loader.source != 0 then s.failLoad 12 else s)

/-- STRUCT_OWNER_PROG (R45): 0xA5 burns the SHA-256 of the loaded image's SIGNER_KEY into the lowest unprogrammed of four slots.  DESIGN CHOICE (log
entry 51): with no structure there is no such image, and the write is ignored. -/
def execStructOwnerProg (value : Word) (s : State) : Res :=
  done (if value = 0xA5 ∧ s.loader.built = true ∧ s.otp.owners.length < 4 then
    { s with otp := { s.otp with owners := s.otp.owners ++ [s.loader.signer] } }
  else s)

/-- STRUCT_ROLLBACK_ADV (R46): 0x5A raises the floor to the smaller of 64 and the loaded image's ROLLBACK; it never falls.  DESIGN CHOICE (log entry
51): with no structure the write is ignored. -/
def execStructRollbackAdv (value : Word) (s : State) : Res :=
  done (if value = 0x5A ∧ s.loader.built = true then
    { s with otp := { s.otp with rollback := max s.otp.rollback (min 64 s.loader.rollback) } }
  else s)

/-- STRUCT_SCRUB (R57): corrected errors are counted; an uncorrectable one raises fault 37 and records its region. -/
def execStructScrub (corrected : Nat) (bad : Option (Fin 20)) (s : State) : Res :=
  done (if s.loader.built then
    let s := s.addSat Reg.structScrub ⟨0, 16⟩ corrected
    match bad with
    | none => s
    | some r => (s.put Reg.structScrub ⟨22, 5⟩ r).raiseFault 37 r
  else s)

end Sys2Proof.Machine
end

