-- ==== Sys2Proof/Machine/Dram.lean ====
section
/-!
DEFINITION. The external-memory controller: its state machine, training, error injection, scrub, refresh, calibration,
temperature and alerts (R596–R606).
-/

namespace Sys2Proof.Machine

open Host (Outcome)

namespace State

variable (s : State)

/-- DRAM_STATUS.STATE (R606): 0 OFF, 1 IDLE, 2 TRAINING, 3 SERVICE, 4 SELF_REFRESH, 5 FAILED. -/
def dramState : Nat := s.fld Reg.dramStatus Fld.dramStatus_STATE

/-- Enter a state. -/
def dramTo (st : Nat) : State := s.put Reg.dramStatus Fld.dramStatus_STATE st

/-- CTRL.EN. -/
def dramEn : Bool := s.bit Reg.dramCtrl 0

/-- A field of DRAM_CFG in force (R597). -/
def dramCfgFld (f : Bits) : Nat := s.dram.cfg.toNat / 2 ^ f.lo % 2 ^ f.len

/-- Capacity in MiB from CFG.DENSITY (R605): 2,048, 4,096 or 8,192. -/
def dramMiB : Nat := 2048 * 2 ^ min 2 (s.dramCfgFld Fld.dramCfg_DENSITY)

/-- The data rate in MT/s (R606): 7–15 act as 0. -/
def dramRate : Nat := [1600, 1866, 2133, 2400, 2666, 2933, 3200].getD (s.dramCfgFld Fld.dramCfg_RATE) 1600

/-- The octet address of the loader reserve, the top 16 MiB (R603). -/
def reserveBase : Nat := (s.rdn Reg.dramSize - 16) * 1048576

/-- The external pages that enabled delay lines hold. -/
def dramHeld : Nat := s.store.lines.foldl (fun a e => a + (if e.2.st = 2 then e.2.ext else 0)) 0

/-- STORE_DRAM_TOTAL and STORE_DRAM_FREE (R603): 0 while external memory is not trained. -/
def dramPages : State :=
  let n := if s.dramTrained then min (s.param 0x41 0 * 65536) ((s.rdn Reg.dramSize - 16) * 256) else 0
  (s.wrn Reg.storeDramTotal n).wrn Reg.storeDramFree (n - s.dramHeld)

/-- A paged delay line is enabled. -/
def anyPaged : Bool := s.store.lines.any fun e => e.2.st == 2

/-- A load uses the loader reserve (R49, R598). -/
def loadsReserve : Bool := s.loader.built && (s.loader.state == .fetch || s.loader.state == .check || s.loader.state == .apply)

/-- External memory is in use, so that no training run may lose its contents (R598). -/
def dramBusy : Bool := s.anyPaged || s.loadsReserve || s.pair.source

/-- The contents of the devices are lost: the loader reserve and the copy in it (R598, R603). -/
def dramLose : State :=
  let t := { s with reserve := [], loader := { s.loader with copy := [] } }
  (((t.setDram fun d => { d with beats := [] }).putBit Reg.dramStatus 8 false).wr Reg.dramSize 0).dramPages

/-- Start a training run (R598, R599): TRAINED 0; the run loses the contents, and takes DRAM_CFG and the timing as they stand (R597). -/
def dramTrain : State :=
  let t := (s.dramLose.setDram fun d => { d with ran := true, cfg := s.rd Reg.dramCfg, timing := s.rd (Reg.dramTiming 4) }).dramTo 2
  (t.wr Reg.dramTrainStatus 0).put Reg.dramTrainStatus ⟨8, 4⟩ 1

/-- A run ends in FAILED (R598): the record, DDR_RESET_B low, and the count. -/
def dramFail (step lane : Nat) : State :=
  let t := (s.put Reg.dramStatus Fld.dramStatus_FAIL_STEP step).put Reg.dramStatus Fld.dramStatus_FAIL_LANE lane
  ((t.incSat Reg.dramTrainCount ⟨16, 16⟩).put Reg.dramTrainStatus ⟨8, 4⟩ 0).dramTo 5

/-- PG_DRAM enters OFF (R598). -/
def dramOff : State := if s.dramState = 0 then s else s.dramLose.dramTo 0

/-- PG_DRAM leaves OFF (R598): a training run, or IDLE. -/
def dramLeaveOff : State :=
  if s.dramState ≠ 0 then s
  else if s.dramEn && s.bit Reg.dramCtrl 8 && s.dram.ran then s.dramTrain
  else s.dramTo 1

/-- PG_DRAM enters RETAIN (R598): self-refresh. -/
def dramRetain : State := if s.dramState = 3 then (s.dramTo 4).send (.dramCmd 2) else s

/-- Refresh begins anew. -/
def dramRefreshed : State := s.setDram fun d => { d with refreshAt := s.edges }

/-- ZQ calibration short. -/
def dramZq : State := (s.setDram fun d => { d with zqAt := s.edges }).send (.dramCmd 1)

/-- PG_DRAM becomes ACTIVE from RETAIN (R598): out of self-refresh, ZQ calibration short. -/
def dramWake : State := if s.dramState = 4 then ((s.dramTo 3).send (.dramCmd 3)).dramRefreshed.dramZq else s

/-- CTRL.EN written 0 (R598). -/
def dramDisable : State := if s.dramState = 0 then s else s.dramLose.dramTo 1

/-- Write the mode registers in the order of step 3 of R599. -/
def dramModes : State := [3, 6, 5, 4, 2, 1, 0].foldl (fun (t : State) (k : Nat) => t.send (.dramMrs k (t.rdn (Reg.dramMr k) % 16384))) s

/-- The registers a run records, in the order of the operand of DRAM_TRAIN_DONE. -/
def trainRegs : List Nat :=
  Reg.dramTrainCa :: ([Reg.dramTrainWl, Reg.dramTrainRgate, Reg.dramTrainRdly, Reg.dramTrainWdly, Reg.dramTrainVref, Reg.dramDeskewRd, Reg.dramDeskewWr].map
    fun (f : Nat → Nat) => (List.range 5).map f).flatten

/-- The word of a register with only the bits its row gives (R605). -/
def masked (a : Nat) (w : Word) : Word := match regDef a with | some r => w &&& BitVec.ofNat 32 r.ro | none => 0

/-- DRAM_TEMP.FAST: refresh at double rate is in force (R603, R605). -/
def dramFast : Bool :=
  let m := s.rdn Reg.dramRefresh / 65536 % 4
  m == 1 || (decide (2 ≤ m) && s.dram.hot)

/-- tREFI has passed since the last refresh (R603), its half while FAST: in periods of DDR_CK, which runs at half the data rate. -/
def refreshDue : Bool :=
  decide (s.dram.timing.toNat % 65536 * 20000 ≤ (s.edges - s.dram.refreshAt) * 16 * s.dramRate * (if s.dramFast then 2 else 1))

/-- `n` of a unit of `us` microseconds have passed since GRID edge `e`; 0 acts as 1. -/
def ranFor (e n us : Nat) : Bool := decide (e + max 1 n * gridUs us ≤ s.edges)

/-- A write by the loader into the reserve takes an armed injection with its first beat (R601). -/
def injectAt (addr : Nat) : State :=
  if s.dram.inject = 0 then s else s.setDram fun d => { d with beats := d.beats.set 0 (addr / 4) d.inject, inject := 0 }

/-- A read that tests the check bits of a run of the reserve meets the beats an injection has spoilt (R601): corrected ones are logged, and an
uncorrectable one makes the copy unusable.  R601 does not give the code, so the syndrome is free. -/
def readReserve (lo n : Nat) : State :=
  (s.dram.beats.filter fun e => lo / 4 ≤ e.1 && e.1 < (lo + n + 3) / 4).foldl (fun (t : State) (e : Nat × Nat) =>
    let f := t.fresh 8
    let u := f.2.eccError (4 * e.1) f.1.toNat (e.2 == 2)
    if e.2 = 2 then { u with loader := { u.loader with copy := [] } } else u) s

end State

/-! ### The rows -/

/-- DRAM_EN_WRITE (R598). -/
def execDramEnWrite (en : Bool) (s : State) : Res :=
  let t := s.putBit Reg.dramCtrl 0 en
  done (if en then t else t.dramDisable)

/-- DRAM_TRAIN_START (R598): in IDLE and FAILED while CTRL.EN is 1; in SERVICE and SELF_REFRESH unless external memory is in use. -/
def execDramTrainStart (s : State) : Res :=
  done (
    let st := s.dramState
    if (st = 1 ∨ st = 5) ∧ s.dramEn = true then s.dramTrain
    else if (st = 3 ∨ st = 4) ∧ s.dramBusy = false then s.dramTrain
    else s)

/-- DRAM_TRAIN_ABORT (R598): a run in progress ends in FAILED at its step, on no lane. -/
def execDramTrainAbort (s : State) : Res :=
  done (if s.dramState = 2 then s.dramFail (s.fld Reg.dramTrainStatus ⟨8, 4⟩) 7 else s)

/-- DRAM_TRAIN_DONE (R598, R599, R603): the settings found, the duration and the lanes passed are recorded; SERVICE with TRAINED and the size, or
FAILED with the step and the lane. -/
def execDramTrainDone (fail : Option (Fin 11 × Fin 6)) (us : Word) (lanes : BitVec 5) (found : List Word) (s : State) : Res :=
  done (if s.dramState ≠ 2 then s
  else
    let t := (State.trainRegs.zip found).foldl (fun (t : State) (e : Nat × Word) => t.wr e.1 (State.masked e.1 e.2)) s
    let t := t.wrn Reg.dramTrainStatus (min us.toNat 65535 * 65536 + (if fail.isNone then 31 else lanes.toNat))
    match fail with
    | some f => (if 3 < f.1.val then t.dramModes else t).dramFail f.1 f.2
    | none =>
      let u := (t.dramModes).dramModes
      let u := ((u.put Reg.dramStatus Fld.dramStatus_FAIL_STEP 0).put Reg.dramStatus Fld.dramStatus_FAIL_LANE 7).putBit Reg.dramStatus 8 true
      let u := u.setDram fun d => { d with scrubAt := s.edges, refreshAt := s.edges, zqAt := s.edges, tempAt := s.edges }
      (((u.incSat Reg.dramTrainCount ⟨0, 16⟩).wrn Reg.dramSize s.dramMiB).dramTo 3).dramPages)

/-- DRAM_MRS_CMD (R605): in SERVICE the mode register is written. -/
def execDramMrsCmd (k : Fin 8) (s : State) : Res :=
  done (if s.dramState = 3 ∧ k.val < 7 then s.send (.dramMrs k (s.rdn (Reg.dramMr k) % 16384)) else s)

/-- DRAM_ECC_INJECT_SINGLE (R601). -/
def execDramEccInjectSingle (s : State) : Res := done (s.setDram fun d => { d with inject := 1 })

/-- DRAM_ECC_INJECT_DOUBLE (R601). -/
def execDramEccInjectDouble (s : State) : Res := done (s.setDram fun d => { d with inject := 2 })

/-- DRAM_SCRUB_PASS (R602): in SERVICE with the scrub enabled, once in PERIOD seconds, every beat in use is read: a single-bit error is logged, corrected in place and
counted, an uncorrectable one handled as R601 says; the injected ones are among them. -/
def execDramScrubPass (errs : List (BitVec 33 × Byte × Bool)) (s : State) : Res :=
  done (if s.dramState ≠ 3 || !s.bit Reg.dramScrubCtrl 0 || !s.ranFor s.dram.scrubAt (s.fld Reg.dramScrubCtrl ⟨16, 16⟩) 1000000 then s
  else
    let t := (s.setDram fun d => { d with scrubAt := s.edges }).readReserve s.reserveBase 16777216
    let good := (s.dram.beats.filter fun e => e.2 == 1).length
    let t := t.setDram fun d => { d with beats := d.beats.filter fun e => e.2 != 1 }
    let t := errs.foldl (fun (u : State) (e : BitVec 33 × Byte × Bool) =>
      let v := u.eccError e.1.toNat e.2.1.toNat e.2.2
      if e.2.2 && decide (s.reserveBase ≤ e.1.toNat) then { v with loader := { v.loader with copy := [] } } else v) t
    let t := t.addSat Reg.dramScrubStatus ⟨0, 16⟩ (good + (errs.filter fun e => !e.2.2).length)
    t.incWrap Reg.dramScrubStatus ⟨16, 16⟩)

/-- DRAM_REFRESH (R603): a refresh in SERVICE, every tREFI. -/
def execDramRefresh (s : State) : Res := done (if s.dramState == 3 && s.refreshDue then s.dramRefreshed.send (.dramCmd 0) else s)

/-- DRAM_ZQ_CAL (R603): ZQ calibration short in SERVICE every INTERVAL ms while ZQ_CTRL.EN is 1. -/
def execDramZqCal (s : State) : Res :=
  done (if s.dramState == 3 && s.bit Reg.dramZqCtrl 0 && s.ranFor s.dram.zqAt (s.fld Reg.dramZqCtrl ⟨16, 16⟩) 1000 then s.dramZq else s)

/-- DRAM_TEMP_READ (R603, R605): the range read, once per second, and the refresh rate that follows from it. -/
def execDramTempRead (range : Fin 4) (hot : Bool) (s : State) : Res :=
  done (if s.dramState == 3 && s.ranFor s.dram.tempAt 1 1000000 then
    let t := s.setDram fun d => { d with hot := hot, tempAt := s.edges }
    t.wrn Reg.dramTemp (t.dramFast.toNat * 256 + range)
  else s)

/-- DRAM_ALERT (R604): counted; every command since the last good one is issued again; one that raises a second alert is an uncorrectable error. -/
def execDramAlert (crc again : Bool) (addr : BitVec 33) (s : State) : Res :=
  done (if s.dramState ≠ 3 || !(if crc then s.dram.cfg.getLsbD 0 else s.dram.cfg.getLsbD 1) then s
  else
    let t := (s.incSat Reg.dramAlert (if crc then ⟨16, 16⟩ else ⟨0, 16⟩)).send (.dramCmd 4)
    let f := t.fresh 8
    if again then f.2.eccError addr.toNat f.1.toNat true else t)

end Sys2Proof.Machine
end

