-- ==== Sys2Proof/Machine/Synth.lean ====
section
/-!
DEFINITION. The synthesisers (R143–R160) and the output aligners with their monitors (R161–R174).
-/

namespace Sys2Proof.Machine

/-- The nominal frequency of a synthesiser in kHz, and its band range (R143). -/
def synBandRange : Nat → Nat × Nat × Nat
  | 0 => (10000000, 9400000, 10600000)
  | 1 => (12288000, 11600000, 13000000)
  | _ => (11289600, 10600000, 12000000)

namespace State

variable (s : State)

/-- Synthesiser `k` beyond its registers. -/
def synE (k : Nat) : SynSt := s.synth.syn.get {} k

/-- Change synthesiser `k`. -/
def setSyn (k : Nat) (f : SynSt → SynSt) : State :=
  { s with synth := { s.synth with syn := s.synth.syn.set {} k (f (s.synth.syn.get {} k)) } }

/-- STATE of synthesiser `k` (R149): 0 OFF, 1 EMPTY, 2 SURVEY, 3 ACQUIRE, 4 LOCKED, 5 RELOCK. -/
def synState (k : Nat) : Nat := s.fld (Reg.synStatus k) Fld.synStatus_STATE

/-! ### Outputs (R155, R156, R162–R169, R174) -/

/-- Output `n` is enabled. -/
def outOn (n : Nat) : Bool := s.bit (Reg.outCtrl n) 0

/-- The pad mode in force: a value not listed acts as 0 (R169). -/
def padMode (n : Nat) : Nat :=
  let m := s.fld (Reg.outPad n) Fld.outPad_MODE
  if n < 8 then (if 4 < m then 0 else m) else (if 1 < m then 0 else m)

/-- The frequency of a CLKOUT in Hz as a fraction: its source with its pull, divided by DIV, at least 40 (R162). -/
def outFreq (n : Nat) : Nat × Nat :=
  let src := s.fld (Reg.outCtrl n) Fld.outCtrl_SRC
  let div := max 40 (s.rdn (Reg.outDiv n))
  if src = 3 then (oscHz (s.fld Reg.structStraps ⟨2, 2⟩), div)
  else
    let (a, b) := pullFactor (s.synE src).pull
    ((synBandRange src).1 * 1000 * a, div * b)

/-- The output exceeds its pad mode's limit (R162, R169). -/
def outTooFast (n : Nat) : Bool :=
  let (f, d) := s.outFreq n
  let m := s.padMode n
  let lim := if m = 1 ∨ m = 2 then 250000000 else 125000000
  n < 8 && m != 0 && lim * d < f

/-- The source periods for which a CLKOUT is high and low in each of its periods (R162): with an odd D, (D − 1) ÷ 2 and (D + 1) ÷ 2. -/
def outDuty (n : Nat) : Nat × Nat :=
  let d := max 40 (s.rdn (Reg.outDiv n))
  (d / 2, d - d / 2)

/-- The idle level of an output (R155, R174): low, or high with PAD.INVERT. -/
def outIdleLevel (n : Nat) : Bool := s.bit (Reg.outPad n) 3

/-- The level of output `n` (R155, R164, R174), none while a CLKOUT toggles. -/
def outLevel (n : Nat) : Option Bool :=
  if 8 ≤ n then some (s.outIdleLevel n != (s.outE n).high)
  else if s.bit (Reg.outStatus n) 0 then none else some (s.outIdleLevel n)

/-- The period of an output in ps as a fraction (R162, R164). -/
def outPeriod (n : Nat) : Nat × Nat :=
  if n < 8 then let (f, d) := s.outFreq n; (1000000000000 * d, f)
  else (match s.fld (Reg.outCtrl n) Fld.outCtrl_PERIOD with
    | 1 => 2000000000000 | 2 => 100000000000 | 3 => 10000000000 | 4 => 1000000000 | _ => 1000000000000, 1)

/-- The time base whose instants output `n` follows: TB_0, or TB of a PPSOUT (R163, R164). -/
def outTb (n : Nat) : Nat := if n < 8 then 0 else s.fld (Reg.outCtrl n) Fld.outCtrl_TB

/-- The last multiple of `period` (2^-48 ns) that the time base of output `n` less its offset has reached: its number and the time since, in 2^-48 ns. -/
def outPassed (n period : Nat) : Int × Int :=
  let u : Int := (s.tb (s.outTb n)).t - (s.outE n).off * 2 ^ 48 / 1000
  (u / period, u % period)

/-- The time base of output `n` has passed an instant with its last GRID edge. -/
def justPassed (n : Nat) (since : Int) : Bool := decide (since < s.followAdvance (s.outTb n) s.edgeAdvance)

/-- An alignment instant of CLKOUT `n` (R163): a TB_0 second boundary plus OFFSET at which a whole number of output periods has elapsed. -/
def alignDue (n : Nat) : Bool :=
  let (k, r) := s.outPassed n secondFine
  let (f, d) := s.outFreq n
  s.justPassed n r && k * f % d == 0

/-- The period boundary of PPSOUT `n` at which a pulse is due (R164): with SYN_G LOCKED the one just passed; otherwise the one nearest this OSC edge. -/
def pulseDue (n : Nat) : Option Int :=
  let p := (s.outPeriod n).1 * 2 ^ 48 / 1000
  let (k, r) := s.outPassed n p
  let a : Int := s.followAdvance (s.outTb n) s.edgeAdvance
  if s.bit (Reg.outStatus n) 5 then (if 2 * r < a then some k else if 2 * (p - r) ≤ a then some (k + 1) else none)
  else if s.justPassed n r then some k else none

/-- The high time of PPSOUT `n` in µs (R164): 1 to 500,000, at most half the period. -/
def pulseWidth (n : Nat) : Nat := min (max 1 (min 500000 (s.rdn (Reg.outWidth n) % 524288))) ((s.outPeriod n).1 / 2000000)

/-- Recompute OUT_n_STATUS from the source's state (R155, R156, R162–R164); an output that is gated, in bypass or idle is not ALIGNED. -/
def outRefresh (n : Nat) : State :=
  let a := Reg.outStatus n
  let on := s.outOn n && s.padMode n != 0
  if 8 ≤ n then (s.putBit a 0 on).putBit a 5 (s.outOn n && !s.synGLocked)
  else
    let src := s.fld (Reg.outCtrl n) Fld.outCtrl_SRC
    let bad := s.outTooFast n
    let st := if src = 3 then 4 else s.synState src
    let run := on && !bad
    let byp := s.outOn n && (st == 1 || st == 2 || st == 3)
    let gate := s.outOn n && st == 5
    let keep := run && st == 4
    let active := run && (if src = 3 then !s.noOsc else if byp then !s.noOsc else keep && (s.bit a 2 || (s.inputMode n && s.bit a 0)))
    ((((s.putBit a 8 (s.outOn n && bad)).putBit a 3 byp).putBit a 4 gate).putBit a 2 (keep && src != 3 && s.bit a 2)).putBit a 0 active

/-- Every output is recomputed. -/
def outRefreshAll : State := (List.range 12).foldl (fun (t : State) (n : Nat) => t.outRefresh n) s

/-- A CLKOUT returns to its idle level, to restart at its next alignment instant (R163). -/
def outIdle (n : Nat) : State := ((s.putBit (Reg.outStatus n) 2 false).putBit (Reg.outStatus n) 0 false).outRefresh n

/-- Aligner `n` has another input or mode (R165): its fit starts again. -/
def alignerNew (n : Nat) : State :=
  ((s.setOut n fun o => { o with edges := [], fed := [], missing := 0 }).put (Reg.outStatus n) ⟨6, 2⟩ 0).outRefresh n

/-- A failure of the monitor of output `n` (R170). -/
def outFail (n : Nat) : State := (s.putBit (Reg.outStatus n) 1 true).raiseFault (if n < 8 then 44 else 45) n

/-- The block reset of fault 45 (R170): the output returns to its idle level. -/
def outReset (n : Nat) : State := if n < 8 then s.outIdle n else s.setOut n fun o => { o with high := false, ended := some s.monitorNow, late := false }

/-- OUT_n_DELAY after an edge has been placed: the pad delay is the part's own, so the fine delay is a free value below 1,600 (R161). -/
def outPlace (n : Nat) : State :=
  if s.bit (Reg.outStatus n) 5 then s.wr (Reg.outDelay n) 0
  else
    let (v, t) := s.fresh 11
    t.wrn (Reg.outDelay n) (v.toNat % 1600)

/-- The phase of a CLKOUT that runs has moved: its fine delay is placed again (R166, R173). -/
def outMoved (n : Nat) : State := if s.bit (Reg.outStatus n) 0 then s.outPlace n else s

/-! ### Synthesisers (R146–R157) -/

/-- The VALID bands of synthesiser `k`: index and centre. -/
def synBands (k : Nat) : List (Nat × Nat) :=
  ((List.range 64).filter fun i => s.bit (Reg.synBand k i) 31).map fun i => (i, s.rdn (Reg.synBand k i) % 2 ^ 24)

/-- SYN_s_CEILING (R159). -/
def synCeilingShow (k : Nat) : State :=
  let c := (s.synBands k).map (·.2)
  s.wrn (Reg.synCeiling k) (if c.isEmpty then (synBandRange k).2.2 else (c.foldl max 0 * 1004 + 999) / 1000)

/-- The pull that PULL commands (R172): 5–7, and SYN_G, act as 0. -/
def synPull (k : Nat) : Nat := let p := s.fld (Reg.synCtrl k) Fld.synCtrl_PULL; if k = 0 ∨ 4 < p then 0 else p

/-- The target frequency of synthesiser `k` in kHz as a fraction (R144, R146): as measured last, or nominal with the pull it is to carry. -/
def synTarget (k : Nat) : Nat × Nat :=
  match (s.synE k).target with
  | some v => (((synBandRange k).1 * (1000000000 + v)).toNat, 1000000000)
  | none => let (a, b) := pullFactor (s.synE k).goal; ((synBandRange k).1 * a, b)

/-- The band for the target (R146): the nearest VALID centre within ±3,000 ppm, the lower index first, among those not in `no`. -/
def synChoose (k : Nat) (no : List Nat) : Option Nat :=
  let (goal, b) := s.synTarget k
  -- distances scaled by b
  let dist (c : Nat) : Nat := ((c * b : Nat) - (goal : Nat) : Int).natAbs
  let ok := (s.synBands k).filter fun (e : Nat × Nat) => !no.contains e.1 && decide (dist e.2 * 1000 ≤ goal * 3)
  (ok.foldl (fun (r : Option (Nat × Nat)) (e : Nat × Nat) => match r with
    | none => some e
    | some x => if dist e.2 < dist x.2 then some e else r) none).map (·.1)

/-- The edges that the guards of synthesiser `k` swallow (R159): of `gaps`, each the divider of a clock and the interval in fs of a rising edge from the one
before it, those shorter than D ÷ (CEILING × 1.02), or than 98 % of a bypass period. -/
def swallowed (k : Nat) (gaps : List (Nat × Nat)) : Nat :=
  let hz := oscHz (s.fld Reg.structStraps ⟨2, 2⟩)
  (gaps.filter fun (g : Nat × Nat) =>
    if s.bit (Reg.synStatus k) 15 then decide (g.2 * hz * 100 < 98 * g.1 * 10 ^ 15)
    else decide (g.2 * s.rdn (Reg.synCeiling k) * 1020 < g.1 * 10 ^ 15)).length

/-- SYN_s_GUARD counts the swallowed edges (R159, R171). -/
def guarded (k : Nat) (gaps : List (Nat × Nat)) : State := s.countSatBy (Reg.synGuard k) (s.swallowed k gaps)

/-- The effects on the rest of the part when SYN_G enters or leaves LOCKED (R23, R24, R164, R512). -/
def synGChanged : State :=
  let t := if s.synGLocked then s.loupeGridBack else s.loupeGridBypass
  (((t.lineJudgeAll).pairLineJudge).gnssRefresh).chainRefresh

/-- Synthesiser `k` enters a state: BYPASS and GATED, its lock interrupt, and its outputs (R149, R155, R156). -/
def synTo (k st : Nat) : State :=
  let was := s.synState k
  let t := ((s.put (Reg.synStatus k) Fld.synStatus_STATE st).putBit (Reg.synStatus k) 15 (st != 4 && st != 0)).putBit (Reg.synStatus k) 14 (st == 5)
  let t := t.raiseIrqIf (decide (was ≠ st) && (was == 4 || st == 4)) (6 + k)
  let t := if k = 0 ∧ was ≠ st ∧ (was = 4 ∨ st = 4) then t.synGChanged else t
  t.outRefreshAll

/-- A failure of synthesiser `k`: fault 11, 12 or 13, live until it locks again (R149). -/
def synFault (k : Nat) : State := if s.faultLive (11 + k) then s.raiseFault (11 + k) 0 else s.raiseHeld (11 + k) 0

/-- The loop of synthesiser `k` is set to a band now: BW comes into force with an entry to ACQUIRE or RELOCK (R149, R172). -/
def synSet (k b : Nat) : State :=
  (s.put (Reg.synStatus k) Fld.synStatus_BAND b).setSyn k fun x => { x with failed := false, since := s.monitorNow }

/-- BW in force at an entry to ACQUIRE or RELOCK (R172). -/
def synBw (k : Nat) : State := s.setSyn k fun x => { x with bw := s.fld (Reg.synLoop k) Fld.synLoop_BW, since := s.monitorNow }

/-- Choose a band among those not tried: with none left, the fault, and a retry after 1 s (R149). -/
def synTry (k : Nat) : State :=
  match s.synChoose k (s.synE k).tried with
  | some b => s.synSet k b
  | none => (s.setSyn k fun x => { x with failed := true, since := s.monitorNow }).synFault k

/-- Enter ACQUIRE: the band choice starts afresh (R149). -/
def synAcquire (k : Nat) : State := (((s.synTo k 3).synBw k).setSyn k fun x => { x with tried := [] }).synTry k

/-- Enter RELOCK (R149, R153, R154): gate, take the commanded pull, choose a band, open the loop; counted in UNLOCKS[31:16]. -/
def synRelockTo (k : Nat) : State :=
  let p := s.synPull k
  let t := ((s.incSat (Reg.synUnlocks k) ⟨16, 16⟩).synTo k 5).synBw k
  let t := t.setSyn k fun x => { x with goal := p, target := if p = x.pull then x.target else none }
  match t.synChoose k [] with
  | some b => t.synSet k b
  | none => t

/-- The block reset of faults 11–13 (R149, R151): only in LOCKED or RELOCK, and with an oscillator in use. -/
def synBlockReset (k : Nat) : State := if (s.synState k = 4 ∨ s.synState k = 5) ∧ s.noOsc = false then s.synAcquire k else s

/-- A structure has been applied (R149): the domains' rates decide OFF and EMPTY, once an oscillator is in use (R151). -/
def synApply : State :=
  if s.noOsc then s
  else
    [1, 2].foldl (fun (t : State) (k : Nat) =>
      if !t.domUsed (k - 1) then t.synTo k 0 else if t.synState k = 0 then t.synTo k 1 else t) s

/-- An oscillator has been taken into use while there was none (R151): open-loop synthesisers pass through RELOCK, the others go on, and a structure
applied meanwhile takes effect. -/
def synOscBack : State :=
  ([0, 1, 2].foldl (fun (t : State) (k : Nat) => if t.synState k = 4 then t.synRelockTo k else t) s).synApply.outRefreshAll

/-- Slew of the CLKOUT phases in one second; with SLEW 0 what is left is absorbed in one period (R166). -/
def outSecond : State :=
  (List.range 8).foldl (fun (t : State) (n : Nat) =>
    if (t.outE n).rem = 0 then t
    else
      let sl := t.fld (Reg.outAlign n) Fld.outAlign_SLEW
      (t.setOut n fun o => { o with rem := if sl = 0 then 0 else o.rem - min o.rem sl }).outMoved n) s

/-- A step of time base `m` (R167): a PPSOUT that follows it repeats the pulse of a boundary that recurs. -/
def outRepeat (m : Nat) : State :=
  [8, 9, 10, 11].foldl (fun (t : State) (n : Nat) => if t.outTb n = m then t.setOut n fun o => { o with pulsed := none } else t) s

end State

/-! ### The rows: oscillators and synthesisers -/

/-- OSC_EDGE_LOSS (R70, R71): three nominal periods without an edge are a failure, which ends a bypass clock where none is left. -/
def execOscEdgeLoss (osc : Fin 2) (s : State) : Res :=
  done (if s.oscFitted osc then (s.oscFail osc).outRefreshAll else s)

/-- OSC_COMPARE (R70): DISAGREE from the comparison of the two, then each against the selected reference; OSC_FOFS shows the one in use. -/
def execOscCompare (a b ab : BitVec 32) (aEdges bEdges : Bool) (s : State) : Res :=
  done (
    let s1 := s.wr Reg.oscFofs (if s.selected.isNone then 0 else if s.oscB then b else a)
    let both := s.oscFitted 1 && !s.oscFailed 0 && !s.oscFailed 1
    let beyond : Bool := s.rdn Reg.oscFlimit < ab.toInt.natAbs
    let s2 := if both then
        (if !beyond then s1.putBit Reg.oscStatus 3 false else if s.selected.isNone then s1.putBit Reg.oscStatus 3 true else s1)
      else s1
    ((s2.judgeOsc 0 a.toInt aEdges).judgeOsc 1 b.toInt bEdges).outRefreshAll)

/-- SYN_TABLE_READY (R147, R149, R151): in EMPTY with a VALID entry and an oscillator, acquisition starts. -/
def execSynTableReady (k : Fin 3) (s : State) : Res :=
  done (if s.synState k = 1 ∧ s.synBands k ≠ [] ∧ s.noOsc = false then s.synAcquire k else s)

/-- SYN_SURVEY (R148, R149, R151). -/
def execSynSurvey (k : Fin 3) (s : State) : Res :=
  done (if (s.synState k = 1 ∨ s.synState k = 3 ∨ s.synState k = 4 ∨ s.synState k = 5) ∧ s.noOsc = false then s.synTo k 2 else s)

/-- SYN_SURVEY_DONE (R148, R159): every band's centre, VALID within the band range; then acquire, or SURVEY_FAIL and EMPTY. -/
def execSynSurveyDone (k : Fin 3) (centres : List (BitVec 24)) (gaps : List (Nat × Nat)) (s : State) : Res :=
  done (if s.synState k ≠ 2 ∨ s.noOsc = true then s
  else
    let (_, lo, hi) := synBandRange k
    let s := s.guarded k gaps
    let s := (List.range 64).foldl (fun (t : State) (i : Nat) =>
      let c := (centres.getD i 0).toNat
      t.wrn (Reg.synBand k i) (c + (if lo ≤ c ∧ c ≤ hi then 2 ^ 31 else 0))) s
    let s := s.synCeilingShow k
    if (s.synBands k).isEmpty then (s.putBit (Reg.synStatus k) 13 true).synTo k 1
    else (s.putBit (Reg.synStatus k) 13 false).synAcquire k)

/-- SYN_RELOCK (R149, R151): a controlled relock of a LOCKED synthesiser. -/
def execSynRelock (k : Fin 3) (s : State) : Res :=
  done (if s.synState k = 4 ∧ s.noOsc = false then s.synRelockTo k else s)

/-- SYN_PULL_WRITE (R151, R154, R172): kept; a change passes a LOCKED synthesiser through RELOCK; ignored on SYN_G. -/
def execSynPullWrite (k : Fin 3) (pull : Fin 8) (s : State) : Res :=
  done (if k.val = 0 then s
  else
    let t := s.put (Reg.synCtrl k) Fld.synCtrl_PULL pull
    if t.synPull k ≠ (t.synE k).pull ∧ t.synState k = 4 ∧ t.noOsc = false then t.synRelockTo k else t)

/-- SYN_LOCK_ACHIEVED (R149, R150, R154, R157): with no phase error beyond LOCK_TOL in 256 comparisons (`worst`, ps) LOCKED, FLOCK, the pull in force, and the
return from bypass or gating; a pull commanded meanwhile passes through RELOCK. -/
def execSynLockAchieved (k : Fin 3) (freq : BitVec 32) (worst : BitVec 16) (gaps : List (Nat × Nat)) (s : State) : Res :=
  done (if s.noOsc = false ∧ (s.synState k = 3 ∨ s.synState k = 5) ∧ worst.toNat ≤ max 1 (s.fld (Reg.synLoop k) Fld.synLoop_LOCK_TOL) then
    let s := s.guarded k gaps
    let t := ((s.wr (Reg.synFlock k) freq).wr (Reg.synFnow k) freq).setSyn k fun x =>
      { x with tried := [], failed := false, pull := x.goal, target := some freq.toInt }
    let t := (t.dropLevel (11 + k)).synTo k 4
    if t.synPull k = (t.synE k).pull then t else t.synRelockTo k
  else s)

/-- The milliseconds since the loop of synthesiser `k` was set have passed. -/
def State.synWaited (s : State) (k ms : Nat) : Bool := decide ((s.synE k).since + ms * 1000 * usTicks ≤ s.monitorNow)

/-- SYN_ACQUIRE_TIMEOUT (R149): no lock within 5 ms; the next qualifying band, or the fault. -/
def execSynAcquireTimeout (k : Fin 3) (s : State) : Res :=
  done (if s.synState k = 3 ∧ (s.synE k).failed = false ∧ s.noOsc = false ∧ s.synWaited k 5 = true then
    (s.setSyn k fun x => { x with tried := s.fld (Reg.synStatus k) Fld.synStatus_BAND :: x.tried }).synTry k
  else s)

/-- SYN_ACQUIRE_RETRY (R149): the band choice again, 1 s after it failed. -/
def execSynAcquireRetry (k : Fin 3) (s : State) : Res :=
  done (if s.synState k = 3 ∧ (s.synE k).failed = true ∧ s.noOsc = false ∧ s.synWaited k 1000 = true then (s.setSyn k fun x => { x with tried := [] }).synTry k else s)

/-- SYN_RELOCK_TIMEOUT (R149): no lock within 5 ms; the fault, bypass and ACQUIRE. -/
def execSynRelockTimeout (k : Fin 3) (s : State) : Res :=
  done (if s.synState k = 5 ∧ s.noOsc = false ∧ s.synWaited k 5 = true then (s.synFault k).synAcquire k else s)

/-- SYN_UNLOCK (R149, R150, R151): in LOCKED with an oscillator, 16 comparisons with no phase error within UNLOCK_TOL (`least`, ps) or the tracking bank at
an end: the fault, the count, bypass and ACQUIRE. -/
def execSynUnlock (k : Fin 3) (least : BitVec 16) (bankEnd : Bool) (gaps : List (Nat × Nat)) (s : State) : Res :=
  done (if s.synState k = 4 ∧ s.noOsc = false ∧ (bankEnd = true ∨ 10 * max 1 (s.fld (Reg.synLoop k) Fld.synLoop_UNLOCK_TOL) < least.toNat) then
    (((s.guarded k gaps).incSat (Reg.synUnlocks k) ⟨0, 16⟩).synFault k).synAcquire k
  else s)

/-- The target `v` (ppb from nominal) leaves the envelope (R152): ±100 ppm of the frequency FLOCK, and 10 ppm of the last target. -/
def State.leavesEnvelope (s : State) (k : Nat) (v : Int) : Bool :=
  let f := s.rdi (Reg.synFlock k)
  let u := (s.synE k).target.getD f
  decide (100000 * (1000000000 + f) < (v - f).natAbs * 1000000000) || decide (10000 * (1000000000 + u) < (v - u).natAbs * 1000000000)

/-- SYN_ENVELOPE_CHECK (R152, R153): a target that leaves the envelope moves a LOCKED synthesiser to RELOCK, which aims at it. -/
def execSynEnvelopeCheck (k : Fin 3) (target : BitVec 32) (gaps : List (Nat × Nat)) (s : State) : Res :=
  done (if s.synState k = 4 ∧ s.noOsc = false then
    let v := target.toInt
    let t := (s.guarded k gaps).setSyn k fun x => { x with target := some v }
    if s.leavesEnvelope k v then t.synRelockTo k else t.wr (Reg.synFnow k) target
  else s)

/-- OSC_PREFER_WRITE (R72, R151): a fitted, unfailed oscillator is taken into use; where there was none, the synthesisers relock. -/
def execOscPreferWrite (osc : Fin 2) (s : State) : Res :=
  done (if s.oscFitted osc && !s.oscFailed osc then
    let t := (s.putBit Reg.oscCtrl 0 (osc.val == 1)).useOsc osc
    if s.noOsc && !t.noOsc then t.synOscBack else t
  else s)

/-! ### The rows: outputs -/

/-- CLKOUT_ALIGN_INSTANT (R157, R163): at its alignment instant an enabled output that is idle with its source LOCKED starts aligned, with interrupt 9. -/
def execClkoutAlignInstant (n : Fin 8) (s : State) : Res :=
  done (
    let src := s.fld (Reg.outCtrl n) Fld.outCtrl_SRC
    if s.outOn n && s.padMode n != 0 && !s.outTooFast n && src != 3 && s.synState src == 4 && !s.bit (Reg.outStatus n) 2 && !s.inputMode n
        && s.alignDue n then
      (((s.putBit (Reg.outStatus n) 2 true).putBit (Reg.outStatus n) 0 true).raiseIrq 9).outPlace n
    else s)

/-- OUT_SRC_DIV_WRITE (R162, R163): the output returns to its idle level and waits for its next alignment instant. -/
def execOutSrcDivWrite (n : Fin 8) (src : Fin 4) (div : Word) (s : State) : Res :=
  done (((s.put (Reg.outCtrl n) Fld.outCtrl_SRC src).wr (Reg.outDiv n) div).outIdle n)

/-- OUT_OFFSET_WRITE (R166): a CLKOUT stretches by the change modulo its period, at once or under SLEW; a PPSOUT takes the offset from its next edge. -/
def execOutOffsetWrite (n : Fin 12) (value : Word) (s : State) : Res :=
  done (
    let t := s.wr (Reg.outOffset n) value
    if 8 ≤ n.val then t
    else
      let (num, den) := t.outPeriod n
      let change := ((value.toInt - (s.outE n).off + (s.outE n).rem) * den % num / den).toNat
      let now := decide (t.fld (Reg.outAlign n) Fld.outAlign_SLEW = 0)
      (t.setOut n fun o => { o with off := value.toInt, rem := if now then 0 else change }).outMoved n)

/-- The offset of PPSOUT `n` moves towards OFFSET by at most SLEW in a period, at once with SLEW 0 (R166). -/
def State.pulseOffset (s : State) (n : Nat) : State :=
  let goal := s.rdi (Reg.outOffset n)
  let slew := s.fld (Reg.outAlign n) Fld.outAlign_SLEW
  let acc : Int := (s.outE n).frac + (slew * (s.outPeriod n).1 : Nat)
  let step := acc / 1000000000000
  s.setOut n fun x =>
    let y := if slew = 0 then goal else if x.off < goal then min goal (x.off + step) else max goal (x.off - step)
    { x with off := y, frac := if y = goal then 0 else acc % 1000000000000 }

/-- PPSOUT_PULSE (R164, R166, R167, R170): at a period boundary, the rising edge, unless a pulse runs or ended less than 1 µs ago, when it waits for that;
its offset moves under SLEW; the monitor judges the edge read back, and an extra one at any time. -/
def execPpsoutPulse (n : Fin 4) (err : Option (BitVec 32)) (extra : Bool) (s : State) : Res :=
  done (
    let o := 8 + n.val
    if !(s.outOn o && s.padMode o != 0) then s
    else
      let s := if extra then s.outFail o else s
      let due := (s.pulseDue o).filter fun k => (s.outE o).pulsed != some k
      if due.isNone && !(s.outE o).late then s
      else
        let s := s.setOut o fun x => { x with pulsed := due.orElse fun _ => x.pulsed }
        if (s.outE o).high || (s.outE o).ended.any fun x => decide (s.monitorNow < x + usTicks) then s.setOut o fun x => { x with late := true }
        else
          let s := (((s.setOut o fun x => { x with high := true, since := s.monitorNow, late := false }).pulseOffset o)).outPlace o
          let lim := 10000 + (if s.bit (Reg.outStatus o) 5 then 1000000000000 / oscHz (s.fld Reg.structStraps ⟨2, 2⟩) else 0)
          let bad := match err with | none => true | some e => decide (lim < e.toInt.natAbs)
          if bad then s.outFail o else s)

/-- PPSOUT_PULSE_END (R164, R167): a pulse that has had its width ends, and the output returns low. -/
def execPpsoutPulseEnd (n : Fin 4) (s : State) : Res :=
  done (
    let o := 8 + n.val
    if (s.outE o).high && decide ((s.outE o).since + s.pulseWidth o * usTicks ≤ s.monitorNow) then
      s.setOut o fun x => { x with high := false, ended := some s.monitorNow }
    else s)

/-- CLKOUT_MONITOR (R170): the edges of 1 ms against those expected of the source or the bypass clock. -/
def execClkoutMonitor (n : Fin 8) (count : Word) (s : State) : Res :=
  done (
    let a := Reg.outStatus n
    if !s.bit a 0 || s.bit a 4 then s
    else
      let (f, d) := if s.bit a 3 then (oscHz (s.fld Reg.structStraps ⟨2, 2⟩), s.fld (Reg.outCtrl n) Fld.outCtrl_BYPDIV + 1) else s.outFreq n
      let c := count.toNat
      -- the edges due in 1 ms: f ÷ (1,000 d), a whole number on either side of it
      let lo := f / (1000 * d)
      let hi := (f + 1000 * d - 1) / (1000 * d)
      if lo ≤ c ∧ c ≤ hi then s
      else if c = 0 ∨ f < 100 * ((c * 1000 * d : Nat) - (f : Int) : Int).natAbs then s.outFail n else s)

/-- ALIGNER_INPUT_EDGE (R165, R183): the aligner takes the oldest stamp its Loupe input has delivered: the fit over the last 8 edges; an input more than
10 ppm off sets FREQ_MISMATCH; otherwise the output runs on the prediction, where its source lets it. -/
def execAlignerInputEdge (n : Fin 12) (s : State) : Res :=
  done (
    match (s.outE n).fed with
    | [] => s
    | x :: xs =>
      let s := s.setOut n fun o => { o with fed := xs }
      if !(s.outOn n && s.inputMode n) then s
      else
        let es := (x :: (s.outE n).edges).take 8
        let s := (s.setOut n fun o => { o with edges := es, missing := 0 }).putBit (Reg.outStatus n) 6 false
        if es.length < 8 then s
        else
          let span := es.headD 0 - es.getLastD 0
          let (num, den) := s.outPeriod n
          let off := decide (10 * (span * den) < (7 * num - span * den).natAbs * 1000000)
          let s := s.putBit (Reg.outStatus n) 7 off
          if off || s.padMode n == 0 || s.outTooFast n then s else ((s.putBit (Reg.outStatus n) 0 true).outRefresh n).outMoved n)

/-- ALIGNER_INPUT_MISSING (R165): NO_INPUT; after 8 the phase is held and the fit starts again. -/
def execAlignerInputMissing (n : Fin 12) (s : State) : Res :=
  done (if !(s.outOn n && s.inputMode n) then s
  else
    let m := (s.outE n).missing + 1
    -- the fit carries on with the predicted edge
    let es := (s.outE n).edges
    let next := if 8 ≤ m ∨ es.length < 8 then [] else ((es.headD 0 + (es.headD 0 - es.getLastD 0) / 7) :: es).take 8
    (s.setOut n fun o => { o with missing := min 8 m, edges := next }).putBit (Reg.outStatus n) 6 true)

end Sys2Proof.Machine
end

