-- ==== Sys2Proof/Machine/Power.lean ====
section
/-!
DEFINITION. The power manager: the state of each power group, its hold conditions, demands and wakes, and what a group
loses in OFF (R559–R564).
-/

namespace Sys2Proof.Machine

open Host (Outcome)

namespace State

variable (s : State)

/-! ### States of the groups -/

/-- The state of group `g`: 0 ACTIVE, 1 IDLE, 2 RETAIN, 3 OFF (R575). -/
def pgState (g : Nat) : Nat := s.rdn (Reg.pgStatus g) % 4

/-- The policy of group `g`: 0 MANAGED, 1 HELD_ACTIVE, 2 ABSENT; MANAGED with no structure (R41). -/
def pgPolicy (g : Nat) : Nat := s.param 0x70 g

/-- The wake latency of group `g` from OFF, in µs (R560). -/
def offLatency (g : Nat) : Nat :=
  if g < 16 then 3000 else if g < 20 then 120000 else if g = 20 then 5000 else if g = 21 then 3000 else if g = 22 then 25000
  else if g = 23 then 1000 else 2000

/-- The deepest state whose wake latency fits the tolerable one (R560, R561); 0.5 µs is within any latency of a whole µs. -/
def fitting (g us : Nat) : Nat := if offLatency g ≤ us then 3 else if 40 ≤ us then 2 else if 1 ≤ us then 1 else 0

/-- Cluster `c` holds a task, a spare, a lent lane or a GNSS_LOOP lane (R435). -/
def clusterHeld (c : Nat) : Bool := (List.range 16).any fun i =>
  let x := s.laneF (16 * c + i)
  x.order != [] || x.role == 1 || x.role == 2 || x.lent.isSome

/-- The Loupe is needed (R194). -/
def loupeHeld : Bool :=
  (List.range 12).any (fun n => s.on (Reg.refCtrl n) Fld.refCtrl_ENABLE || s.inputMode n || s.loupeMode n == 3 || (s.gateState n != 0 && s.gateState n != 4)) ||
    (s.chainMode && s.bit Reg.chainCtrl 0)

/-- A PTP port authenticates (R339). -/
def ptpAuthHeld : Bool := (List.range 4).any fun n => s.bit (Reg.ptpAuth n) 1 || s.bit (Reg.ptpAuth n) 2

/-- A key slot is loaded (R339). -/
def anyKey : Bool := (List.range 4).any (fun i => (s.ring i).isSome) || s.keys.pair.isSome || (List.range 16).any fun k => (s.ptpKey k).isSome

/-- A region of group `g` is being applied (R51). -/
def applying (g : Nat) : Bool :=
  let m := s.rdn Reg.structRegionBusy
  s.loader.state == .apply && (if g < 16 then m.testBit g else if g < 20 then m.testBit 18 else g == 24 && m.testBit 19)

/-- The deepest state that R563 allows group `g`. -/
def holdLimit (g : Nat) : Nat :=
  if s.applying g then 0
  else if g < 16 then (if s.clusterHeld g then 1 else 3)
  else if g < 20 then (if s.bit (Reg.lineCtrl (g - 16)) 0 && s.personality (g - 16) != 0 then 1 else 3)
  else if g = 20 then (if s.bit Reg.gnssCtrl 0 then 0 else 3)
  else if g = 21 then (if s.on Reg.ntsCtrl Fld.ntsCtrl_EN || s.ptpAuthHeld then 0 else if s.anyKey then 2 else 3)
  else if g = 22 then (if s.dramBusy then 0 else if !s.loader.copy.isEmpty then 2 else 3)
  else if g = 23 then (if s.loupeHeld then 0 else 3)
  else (if (List.range 48).any fun n => s.bit (Reg.saCfg n) 0 then 0 else 3)

/-- The deepest state now allowed for group `g` (R561). -/
def pgDeepest (g : Nat) : Nat :=
  if s.pgPolicy g = 1 then 0
  else if s.pgPolicy g = 2 then (if g = 23 ∧ s.loupeHeld = true then 0 else 3)
  else min (fitting g (s.rdn (Reg.pgLatency g) % 2 ^ 24)) (s.holdLimit g)

/-- The state the power manager chooses for group `g` (R561): the deepest allowed, or ACTIVE with a demand pending or served less than
1 µs ago (R562), which an ABSENT group does not answer. -/
def pgChoice (g : Nat) : Nat :=
  if (s.age.waking.contains g || decide (s.edges < s.age.demand.get 0 g)) && s.pgPolicy g != 2 then 0 else s.pgDeepest g

/-- A demand reaches group `g`: it stays ACTIVE until no further one has arrived for 1 µs (R562).  Nothing is noted of a group that may not leave ACTIVE. -/
def pgDemanded (g : Nat) : State :=
  if s.pgDeepest g = 0 then s else { s with age := { s.age with demand := s.age.demand.set 0 g (s.edges + gridUs 1) } }

/-- Report an entry into or an exit from RETAIN or OFF (R564). -/
def pgReport (g : Nat) : State := (s.putBit Reg.pgEvt g true).raiseIrq 60

/-! ### What OFF loses (R559) -/

/-- The registers of group `g` (R607). -/
def pgOwns (g a : Nat) : Bool :=
  let p := a / 0x10000
  if g < 16 then decide (0x100000 + 0x4000 * g ≤ a ∧ a < 0x104000 + 0x4000 * g)
  else if g < 20 then decide (0x80000 + 0x4000 * (g - 16) ≤ a ∧ a < 0x84000 + 0x4000 * (g - 16))
  else if g = 20 then p == 12 else if g = 21 then p == 10 || p == 11 else if g = 22 then p == 25 else if g = 23 then p == 6 else p == 24

/-- The lanes of cluster `c` lose their memories and mailboxes. -/
def clusterOff (c : Nat) : State :=
  let out (w : Nat) (e : Nat) : Bool := e / w / 16 == c
  let t := s.setFacet fun f =>
    { f with prog := f.prog.drop (out 2048), x := f.x.drop (out 8192), y := f.y.drop (out 8192), progLow := f.progLow.drop (out 1),
             chans := f.chans.drop fun k => k / 32 == c, chanOvr := f.chanOvr.set 0 c 0, pokes := f.pokes.set [] c [] }
  (List.range 16).foldl (fun (t : State) (i : Nat) => t.setLaneF (16 * c + i) fun x => { role := x.role, failed := x.failed, order := x.order }) t

/-- The logic state of group `g` is lost (R559); RW/S fields are kept. -/
def groupOff (g : Nat) : State :=
  let t : State :=
    if g < 16 then s.clusterOff g
    else if g < 20 then (s.linkForget (g - 16)).lineEnter (g - 16) 0
    else if g = 20 then { s with gnss := {} }
    else if g = 21 then { s with nts := {}, keys := { draws := s.keys.draws } }
    else if g = 22 then s.dramOff
    else if g = 23 then { s with loupe := {} }
    else (List.range 48).foldl (fun (t : State) (n : Nat) => if (t.saAt n).enabled then t.saStop n else t) s
  let t := t.resetRegs (pgOwns g)
  if g < 16 then (List.range 16).foldl (fun (t : State) (i : Nat) => t.laneShow (16 * g + i)) t
  else if g = 21 then t.ringShow
  else if g = 22 then t.dramTo 0
  else t

/-! ### Transitions -/

/-- Group `g` enters a deeper state. -/
def pgEnter (g st : Nat) : State :=
  let was := s.pgState g
  let t := s.put (Reg.pgStatus g) ⟨0, 2⟩ st
  let t := if was = 2 then t.countSat (Reg.pgWakes g) else t
  let t := if 2 ≤ st then t.pgReport g else t
  let t := if st = 2 ∧ g = 22 then t.dramRetain else t
  if st = 3 then t.groupOff g else t

/-- Group `g` is ACTIVE again: an exit from RETAIN or OFF counts and is reported, and its block goes on (R564, R598). -/
def pgAwake (g : Nat) : State :=
  let was := s.pgState g
  let t := (s.put (Reg.pgStatus g) ⟨0, 2⟩ 0)
  let t := { t with age := { t.age with waking := t.age.waking.filter fun x => x != g } }.pgDemanded g
  let t := if 2 ≤ was then (t.countSat (Reg.pgWakes g)).pgReport g else t
  let t := if g = 22 then (if was = 3 then t.dramLeaveOff else t.dramWake) else t
  if 16 ≤ g ∧ g < 20 then t.lineJudge (g - 16) else t

/-- A wake of group `g` begins. -/
def pgWake (g : Nat) : State :=
  if s.age.waking.contains g then s else { s with age := { s.age with waking := s.age.waking ++ [g] } }

/-- Show POLICY, DEEPEST and HELD of group `g` (R575). -/
def pgShow (g : Nat) : State :=
  ((s.put (Reg.pgStatus g) ⟨12, 2⟩ (s.pgPolicy g)).put (Reg.pgStatus g) ⟨8, 2⟩ (s.pgDeepest g)).put (Reg.pgStatus g) ⟨4, 1⟩
    (decide (s.holdLimit g < 3)).toNat

/-- Choose the state of group `g` again (R561): a deeper state is entered, a shallower one begins a wake. -/
def pgChoose (g : Nat) : State :=
  let t := s.pgShow g
  let c := t.pgChoice g
  if t.pgState g < c then t.pgEnter g c
  else if c < t.pgState g then t.pgWake g
  else t

/-- Choose every group's state again. -/
def pgRefresh : State := (List.range 25).foldl (fun (t : State) (g : Nat) => t.pgChoose g) s

/-- One GRID edge (R199): the frames of its period go to their queues (R285), its sightings to the partner table (R515) and its entries to the EVT FIFO (R555), time advances, and ROT_LEFT (R326), the power manager (R561), the PTP ports
(R296) and the responder (R338) follow. -/
def idle : State := (s.rxFlush.sightFlush.evtFlush.gridEdge.rotCount).pgRefresh.mJudgeAll.ntsShow

end State

/-! ### The rows -/

/-- PG_LATENCY_WRITE (R561). -/
def execPgLatencyWrite (n : Fin 25) (us : BitVec 24) (s : State) : Res := done ((s.wrn (Reg.pgLatency n) us.toNat).pgChoose n)

/-- PG_DEMAND (R562): a group in IDLE or RETAIN begins to wake, and one in ACTIVE stays there. -/
def execPgDemand (n : Fin 25) (s : State) : Res :=
  done (if s.pgState n = 1 ∨ s.pgState n = 2 then s.pgWake n else if s.pgState n = 0 then s.pgDemanded n else s)

/-- PG_IDLE_RETURN (R562): an ACTIVE group on which no demand has been made for 1 µs returns to its chosen state. -/
def execPgIdleReturn (n : Fin 25) (s : State) : Res :=
  done (if s.pgState n = 0 ∧ s.age.waking.contains n.val = false then s.pgChoose n else s)

end Sys2Proof.Machine
end

