-- ==== Sys2Proof/Machine/Apply.lean ====
section
/-!
DEFINITION. Applying a structure image: the check that begins it, the regions as they are rebuilt, the structure digest, the
locks, the copy in the loader reserve, and a region applied again from that copy (R43, R44, R50–R57).
-/

namespace Sys2Proof.Machine

open Host (Outcome)

namespace State

variable (s : State)

/-! ### Regions (R55) -/

/-- The memories of cluster `c` become zero. -/
def clusterZero (c : Nat) : State :=
  let out (w : Nat) (e : Nat) : Bool := e / w / 16 == c
  s.setFacet fun f => { f with prog := f.prog.drop (out 2048), x := f.x.drop (out 8192), y := f.y.drop (out 8192), progLow := f.progLow.drop (out 1) }

/-- The table writes that have not yet taken effect and name one of the tables `ts` are dropped. -/
def dropWaitingWrites (ts : List Nat) : State :=
  let keep (ws : List TblWrite) := ws.filter fun w => !ts.contains w.table
  (s.setStore fun x => { x with waiting := keep x.waiting, waitingLate := keep x.waitingLate }).dropStaged fun w => ts.contains w.table

/-- The ROUTE region takes ROUTE_INIT, and reset values where it gives none (R393, R634). -/
def routeApply (im : List Byte) : State :=
  let t := (s.dropWaitingWrites [0]).setStore fun x => { x with routes := [] }
  (Image.routeInit im).foldl (fun (u : State) (r : Nat × Nat × Nat) =>
    u.putWrite ⟨0, r.1, [BitVec.ofNat 32 r.2.1, BitVec.ofNat 32 r.2.2, 0, 0]⟩) t

/-- The MIX region's terms and buses take their reset values (R55, R393). -/
def mixApply : State :=
  let t := s.dropWaitingWrites [1, 2]
  let t := (t.store.buses.map (·.1)).foldl (fun (u : State) (b : Nat) => u.releaseSlots (.bus b)) t
  (t.setStore fun x => { x with terms := [], buses := [] }).mixShow

/-- The SERIAL region: every pin stops, and starts again under its new personality. -/
def serialApply : State :=
  let t := (List.range 48).foldl (fun (u : State) (n : Nat) => if (u.saAt n).enabled then u.saStop n else u) s
  (List.range 48).foldl (fun (u : State) (n : Nat) => u.saStart n) t

/-- The PORTS region: every port leaves its link and takes the state its new personality calls for. -/
def portsApply : State := (List.range 4).foldl (fun (u : State) (n : Nat) => ((u.linkForget n).lineEnter n 0).lineJudge n) s

/-- Region `r` is rebuilt from image `im` under the parameters in force. -/
def regionApply (im : List Byte) (r : Nat) : State :=
  if r < 16 then (s.clusterZero r).clusterApply r (Image.facetMem im r)
  else if r = 16 then s.routeApply im
  else if r = 17 then s.mixApply
  else if r = 18 then s.portsApply
  else s.serialApply

/-- The slots that the regions in `mask` write become zero with VALID clear at once, and the direct routes between them fall silent (R56). -/
def silence (mask : Nat) : State :=
  let own (i : Nat) : Bool := match (s.ownerOf i).region with | some r => mask.testBit r | none => false
  let routed := if mask.testBit 16 then (s.store.routes.filter fun e => s.routeRuns e.2 && !e.2.loses).map fun e => dstOfW e.2.w0 else []
  s.setStore fun x => { x with slots := x.slots.drop fun i => own i || routed.contains i,
                               direct := if mask.testBit 16 || mask.testBit 19 then [] else x.direct }

/-- The regions a mask names, lowest first. -/
def regionsOf (mask : Nat) : List Nat := (List.range 20).filter mask.testBit

/-! ### The structure (R44, R50, R54) -/

/-- The digest after image `im` is applied (R44). -/
def digestAfter (im : List Byte) : BitVec 256 :=
  let d := slice im 0x30 32
  Config.sha256 (if Image.partialImage im then leBytes 32 s.loader.digest.toNat ++ d else d)

/-- The locked fields after image `im` is applied: a full image's own, and those a partial one adds (R54).  DESIGN CHOICE (log entry 51): locks that a
partial image names outside its own regions hold too. -/
def locksAfter (im : List Byte) : SMap Word :=
  let old : SMap Word := if Image.partialImage im then s.loader.locks else []
  (Image.locks im).foldl (fun (m : SMap Word) (l : Nat × Nat) => m.set 0 l.1 (m.get 0 l.1 ||| BitVec.ofNat 32 l.2)) old

/-- The structure that image `im` leaves: parameters, digest, signer, rollback number, locks, and the copy where external memory is
trained (R50).  DESIGN CHOICE (log entry 51): the copies stand beside the octets of the staging window, which the host's staging leaves intact. -/
def structTake (im : List Byte) : State :=
  let part := Image.partialImage im
  let mask := Image.regionMask im
  let ps := mergeParams s.loader.params ((Image.params im).getD []) mask (!part)
  let dig := s.digestAfter im
  let lk := s.locksAfter im
  let cp := if s.dramTrained then im :: s.loader.copy else []
  let t := s.setLoader fun l => { l with
    state := .built, built := true, params := ps, digest := dig, signer := Config.sha256 (slice im 0x50 32), rollback := Image.rollback im,
    locks := lk, copy := cp, image := [], muted := l.muted - (l.muted &&& mask) ||| l.dead }
  let t := if s.dramTrained then t.injectAt s.reserveBase else t
  let t := (List.range 8).foldl (fun (u : State) (k : Nat) => u.wrn (Reg.structDigest k) (dig.toNat / 2 ^ (32 * k))) t
  let t := (List.range 4).foldl (fun (u : State) (k : Nat) => u.wrn (Reg.structBuild k) (leAt im (0x20 + 4 * k) 4)) t
  let t := (t.put Reg.structStatus Fld.structStatus_PARTIAL part.toNat).put Reg.structStatus Fld.structStatus_ERROR 0
  t.wr Reg.structRegionBusy 0

/-- The busy regions of those in a mask (R55). -/
def applyNow (regions : Nat) : Nat := s.rdn Reg.structRegionBusy &&& regions

/-- The regions still busy after those in a mask are applied; none for a full image, which is applied as a whole (R51, R65). -/
def applyLeft (regions : Nat) : Nat :=
  if Image.partialImage s.loader.image then s.rdn Reg.structRegionBusy - s.applyNow regions else 0

/-- The regions of the mask `now` of partial image `im` are rebuilt and the regions `left` stay busy (R40, R55). -/
def regionsTake (im : List Byte) (now left : Nat) : State :=
  let ps := ((Image.params im).getD []).filter fun p => now.testBit (paramRegion p.id p.inst)
  let t := s.setLoader fun l => { l with
    params := mergeParams l.params ps now false, muted := l.muted - (l.muted &&& now) ||| l.dead }
  (regionsOf now).foldl (fun (u : State) (r : Nat) => u.regionApply im r) (t.wrn Reg.structRegionBusy left)

/-- A full image has divided the store and set what depends on global parameters (R388, R149, R466, R603): entries enabled before
there was a structure are judged now. -/
def globalApply : State :=
  let pool := 6016 - 128 * min 16 (s.param 0x40 0)
  let t := ({ s with staging := [] }).wrn Reg.storePool (pool * 65537)
  let t := t.dramPages.synApply.pairApply
  let t := (List.range 128).foldl (fun (u : State) (c : Nat) => if u.bit (Reg.asrcCfg c) 31 then u.asrcRefresh c else u) t
  let t := (List.range 256).foldl (fun (u : State) (i : Nat) => if u.bit (Reg.bridge i) 31 then u.bridgeRefresh i else u) t
  let t := (List.range 256).foldl (fun (u : State) (i : Nat) => if u.bit (Reg.rxCtrl i) 0 && decide (u.rxState i = 0) then u.rxStart i else u) t
  let t := (List.range 256).foldl (fun (u : State) (i : Nat) => if u.bit (Reg.txCtrl i) 0 then u.txEnable i true else u) t
  (t.store.lines.map (·.1)).foldl (fun (u : State) (i : Nat) => if (u.lineE i).st = 4 then u.lineStart i else u) t

/-- What follows every application. -/
def appliedShow : State := (s.schedShow.pgRefresh.lineJudgeAll.chainRefresh.outRefreshAll).intcArbitrate

/-- Region `r` cannot be repaired: it stays muted until the next chip reset, and the ports drop link if it is theirs (R57). -/
def killRegion (r : Nat) : State :=
  ((s.setLoader fun l => { l with muted := l.muted ||| 2 ^ r, dead := l.dead ||| 2 ^ r }).silence (2 ^ r)).lineJudgeAll

/-- Region `r` is applied again from the newest copy that holds it, muted until the next boundary (R57); with no copy it stays muted. -/
def reapplyRegion (r : Nat) : State :=
  match s.loader.copy.find? fun im => (Image.regionMask im).testBit r with
  | some im =>
    if s.dramTrained then (((s.setLoader fun l => { l with muted := l.muted ||| 2 ^ r }).silence (2 ^ r)).regionApply im r).appliedShow
    else s.killRegion r
  | none => s.killRegion r

end State

/-! ### The rows -/

/-- STRUCT_CHECK_COMPLETE (R43, R51): all checks pass and the regions of REGION_MASK become busy and muted, and the ports named drop link
(R53, R56), or the first failure decides. -/
def execStructCheckComplete (s : State) : Res :=
  done (if s.loader.state == .check then
    let im := s.loader.image
    let code := checkImage s im (s.loader.source != 0)
    if code = 0 then
      let mask := Image.regionMask im
      let t := (s.wrn Reg.structRegionBusy mask).setLoader fun l =>
        { l with state := .apply, muted := l.muted ||| mask,
                 matched := s.otp.owners.findIdx (· == Config.sha256 (slice im 0x50 32)) % 4 }
      (t.silence mask).pgRefresh.lineJudgeAll
    else s.failLoad code
  else s)

/-- STRUCT_APPLY_COMPLETE (R44, R50–R57): the application of the regions in the mask `regions` completes.  While other regions of a
partial image are still busy, those regions alone are rebuilt and their busy bits clear (R55).  With the last of them, and for a full image,
the structure is taken, its regions are rebuilt, the busy bits clear, the new digest is compared with the partner's (R497) and the load ends. -/
def execStructApplyComplete (regions : Nat) (s : State) : Res :=
  done (if s.loader.state == .apply then
    let im := s.loader.image
    let left := s.applyLeft regions
    if left != 0 then (s.regionsTake im (s.applyNow regions) left).appliedShow
    else
      let t := s.structTake im
      let t := (State.regionsOf (if Image.partialImage im then s.applyNow regions else Image.regionMask im)).foldl
        (fun (u : State) (r : Nat) => u.regionApply im r) t
      (if Image.partialImage im then t else t.globalApply).appliedShow.digestJudge.loadEnds
  else s)

end Sys2Proof.Machine
end

