-- ==== Sys2Proof/Machine/Reset.lean ====
section
/-!
DEFINITION. The resets and the start of the part: chip reset, PORESET_B, loss of a supply, the OTP read, the start-up
self-tests and the test port (R12, R63–R65, R86, R121, R225, R512, R528, R548, R617–R619, R626, R627).
-/

namespace Sys2Proof.Machine

open Host (Outcome)

namespace State

variable (s : State)

/-! ### Chip reset (R63) -/

/-- The registers that a chip reset returns to their reset values but for their RW/S fields (R12, R34, R35, R63): the base set and the power
groups.  The always-on set, the key store and external memory keep theirs, and so do the straps, the load counter, the link and power-group states, the
key schedule and the wear record (log entry 41). -/
def chipResets (a : Nat) : Bool :=
  let p := a / 0x10000
  if p = 0 then !(decide (0x1000 ≤ a ∧ a < 0x1190 ∧ a % 16 = 4)) && a != Reg.globalResetCause && a != Reg.hostStatus
  else if p = 1 then a != Reg.structStraps && a != Reg.structLoadCount
  else if p = 10 then a != Reg.ntsRotLeft && a != Reg.ntsRotStatus && a != Reg.ntsStatus && !decide (Reg.ntsKeyId 0 ≤ a ∧ a ≤ Reg.ntsKeyId 3)
  else if p = 23 then [Reg.vmon, Reg.ageTj, Reg.thermStatus].contains a || decide (0x178000 ≤ a)
  else [6, 8, 9, 12, 13, 14, 15, 16, 17, 18, 19, 20, 24, 26].contains p

/-- STRUCT_SRC as the straps give it (R58). -/
def srcReset : State := s.wrn Reg.structSrc (if s.bit Reg.structStraps 0 then 0 else 1)

/-- The references at a chip reset (R86, R98, R121, R127): every enabled one DISQUALIFIED, and no selection, with REASON 9; a pull stops and
the anchor stays at the last sample. -/
def refsChipReset : State :=
  let t := match s.selected with
    | some o => (s.stopPull o).keepAnchor o
    | none => s
  let t := (List.range 20).foldl (fun (t : State) (n : Nat) => if t.refState n = 5 then t else t.disqualify n) t
  match s.selected with
  | some o => t.switchTo (some o) none 9
  | none => t

/-- The blocks of the base set and of the power groups lose their logic state (R12, R63). -/
def blocksChipReset : State :=
  { s with
    loader := { startEdges := s.edges }, staging := [],
    gnss := {}, line := [], queue := {}, audio := {}, store := {}, facet := {},
    nts := { hashKey := s.nts.hashKey, mintKey := s.nts.mintKey },
    age := { s.age with aboveSecs := 0, hotMs := 0, waking := [] },
    host := { s.host with wdogRun := false } }

/-- A chip reset (R63, R86, R193, R225, R548, R598), begun and ended in one step: `cause` is the value of GLOBAL_RESET_CAUSE. -/
def chipReset (cause : Nat) : State :=
  let t := s.intcReset.loupeReset
  let t := (List.range 4).foldl (fun (u : State) (n : Nat) => (u.linkForget n).lineEnter n 0) t
  let t := t.blocksChipReset.ptpReset
  let t := (t.resetRegs chipResets).srcReset
  let t := t.put Reg.vidStatus ⟨0, 6⟩ 16
  let t := t.timeReset.refsChipReset.pairDown.chainRefresh
  let t := if t.dramState = 3 then (t.send (.dramCmd 2)).send (.dramCmd 3) else t
  let t := t.dramPages.ptpShow
  let t := (t.wrn Reg.globalResetCause cause).loupeFill
  t.outRefreshAll.pgRefresh

/-! ### PORESET_B (R63, R528) -/

/-- The class-3 sources that are latched, as a mask. -/
def graveMask : Nat := [15, 17, 18, 19, 33, 39, 43].foldl (fun a n => if s.faultLatched n then a + 2 ^ n else a) 0

/-- The state while PORESET_B is low: everything as at reset, but for one-time-programmable memory and, with `keep`, the latched class-3 sources
with their details and FAULT_GRAVE, which only removal of VDD_AON clears.  The fields of the model's own (log entries 1, 4, 2) go on. -/
def porState (keep : Bool) : State :=
  let b : State := { State.reset with otp := s.otp, sent := s.sent, free := s.free, pending := s.pending,
                                      keys := { draws := s.keys.draws }, tapIr := s.tapIr }
  if !keep then b
  else
    let m := s.graveMask
    let t := (b.wrn Reg.faultStatusLo m).wrn Reg.faultStatusHi (m / 2 ^ 32)
    let t := [15, 17, 18, 19, 33, 39, 43].foldl (fun (u : State) (n : Nat) =>
      if m.testBit n then u.wr (Reg.faultDetail n) (s.rd (Reg.faultDetail n)) else u) t
    let t := [Reg.faultGrave, Reg.faultGraveTimeLo, Reg.faultGraveTimeHi].foldl (fun (u : State) (a : Nat) => u.wr a (s.rd a)) t
    let t := if m = 0 then t else t.graveShow
    if m.testBit 19 || m.testBit 39 then t.put Reg.keysStatus Fld.keysStatus_LOCKED 1 else t

/-! ### The test port (R626, R627) -/

/-- The instruction register is updated with `code`: any but IDCODE and BYPASS zeroizes the key store and raises fault 39. -/
def tapSelect (code : Nat) : State :=
  let t := ({ s with tapIr := code }).send (.tap code)
  if code = 1 ∨ code = 255 then t else (t.zeroize true).raiseFault 39 code

/-- The IDCODE register (R626). -/
def idcode : Nat := 0x2 * 2 ^ 28 + 0x9256 * 2 ^ 12 + s.otp.jtagMfr % 2048 * 2 + 1

end State

/-! ### The rows -/

/-- PORESET_ASSERT (R63, R617, R619): a pulse of at most 1 µs is ignored, one of 5 µs or more resets, and R619 forbids those between. -/
def execPoresetAssert (ns : Nat) (s : State) : Res :=
  if ns ≤ 1000 then done s else if ns < 5000 then .fault .forbiddenResetPulse else done (s.porState true)

/-- PORESET_RELEASE (R47, R64): the straps are sampled and the always-on logic starts. -/
def execPoresetRelease (straps : BitVec 5) (s : State) : Res :=
  done (if s.running then s
  else (({ s with running := true }).wrn Reg.structStraps straps.toNat).srcReset)

/-- CHIP_RESET (R63, R592, R594). -/
def execChipReset (byFault : Bool) (s : State) : Res := done (if s.running then s.chipReset (if byFault then 4 else 2) else s)

/-- OTP_READ_DONE (R64, step 2): the registers that take their values from OTP hold them, and the SPI port opens. -/
def execOtpReadDone (s : State) : Res :=
  done (if !s.running || s.ready then s
  else
    let t := { s with ready := true }
    let t := (List.range 8).foldl (fun (u : State) (k : Nat) => u.wrn (Reg.keysIdPub k) (s.otp.idPub.toNat / 2 ^ (32 * k))) t
    let t := t.wr64 Reg.keysUidLo s.otp.uid.toNat
    let t := t.put Reg.keysStatus Fld.keysStatus_ID_OK (!t.keysLocked).toNat
    let t := t.put Reg.vidStatus ⟨16, 6⟩ (min 16 s.otp.vidFloor)
    ((t.wrn Reg.ageHours s.otp.hours).wrn Reg.ageFitA s.otp.fitA).wrn Reg.ageFitN (s.otp.fitN % 65536))

/-- STARTUP_SELFTEST_DONE (R64, step 3; R326, R335, R343): faults 1, 21 and 20, and a fresh NTS master key where the TRNG passed.  The first KEY_ID is
not stated, so it is free. -/
def execStartupSelftestDone (sram : Option (BitVec 16)) (aead trng : Bool) (s : State) : Res :=
  done (if !s.ready || s.tested then s
  else
    let s := { s with tested := true }
    let t := match sram with | some d => s.raiseFault 1 d.toNat | none => s
    let t := (t.raiseFaultIf (!trng) 20 0).raiseFaultIf (!aead) 21 0
    if !trng || t.keysLocked then t.ringShow
    else
      let k := (t.setKeys fun x => { x with seeded := true }).draw
      let f := k.2.fresh 32
      let h := (f.2.setRing 0 (some ⟨f.1.toNat, k.1⟩)).draw
      let u := { h.2 with nts := { h.2.nts with hashKey := h.1 } }
      (u.wrn Reg.ntsRotLeft u.rotPeriod).ringShow)

/-- VDD_AON_LOSS (R526, R528, R618): nothing that the supply held remains. -/
def execVddAonLoss (s : State) : Res := done (s.porState false)

/-- VDD_AON_BROWNOUT (R618): as though PORESET_B were low. -/
def execVddAonBrownout (s : State) : Res := done (s.porState true)

/-- VDD_CORE_LOW (R618): a chip reset, while time continues; GLOBAL_RESET_CAUSE has no bit for it and stays. -/
def execVddCoreLow (s : State) : Res := done (if s.running then s.chipReset (s.rdn Reg.globalResetCause) else s)

/-- VDDIO_33_LOSS (R512): BYP_HB stops. -/
def execVddio33Loss (s : State) : Res := done ((s.setChain fun c => { c with noIo := true }).chainRefresh)

/-- TAP_EXTEST (R626, R627). -/
def execTapExtest (s : State) : Res := done (s.tapSelect 0)

/-- TAP_IDCODE (R626). -/
def execTapIdcode (s : State) : Res := done (s.tapSelect 1)

/-- TAP_SAMPLE_PRELOAD (R626, R627). -/
def execTapSamplePreload (s : State) : Res := done (s.tapSelect 2)

/-- TAP_EXTEST_PULSE (R626, R627). -/
def execTapExtestPulse (s : State) : Res := done (s.tapSelect 3)

/-- TAP_EXTEST_TRAIN (R626, R627). -/
def execTapExtestTrain (s : State) : Res := done (s.tapSelect 4)

/-- TAP_HIGHZ (R626, R627). -/
def execTapHighz (s : State) : Res := done (s.tapSelect 5)

/-- TAP_CLAMP (R626, R627). -/
def execTapClamp (s : State) : Res := done (s.tapSelect 6)

/-- TAP_BYPASS (R626). -/
def execTapBypass (s : State) : Res := done (s.tapSelect 255)

/-- TAP_OTHER_CODE (R627): every code that is none of R626's selects the bypass register, and zeroizes. -/
def execTapOtherCode (code : Byte) (s : State) : Res := done (if 7 ≤ code.toNat ∧ code.toNat < 255 then s.tapSelect code.toNat else s)

end Sys2Proof.Machine
end

