-- ==== Sys2Proof/Machine/Faults.lean ====
section
/-!
DEFINITION. The fault collector: taking events, the class effects, the reactions and block resets, the first-fault
records, the pins ERR_B and NMI_B, forced and software faults; the wake of a power group with the block resets it was
owed; and the block reset and the split of the sample store (R16, R385, R392, R519–R536, R560).
-/

namespace Sys2Proof.Machine

open Host (Outcome)

namespace State

variable (s : State)

/-- The grave sources (R522). -/
def graveSources : List Nat := [15, 17, 18, 19, 33, 39, 43]

/-- Change the collector. -/
def setFault (f : FaultSt → FaultSt) : State := { s with fault := f s.fault }

/-- The class of a source (R522): 3 on a grave source, a CLASS of 3 elsewhere acting as 2. -/
def faultClass (n : Nat) : Nat := if graveSources.contains n then 3 else min 2 (s.rdn (Reg.faultCfg n) / 256 % 4)

/-- Bit `k` of FAULT_CFG_n; EPIN (bit 4) is 1 on a grave source. -/
def faultBit (n k : Nat) : Bool := s.bit (Reg.faultCfg n) k || (k == 4 && graveSources.contains n)

/-- Put the status bit of source `n`. -/
def putStatus (n : Nat) (b : Bool) : State :=
  if n < 32 then s.putBit Reg.faultStatusLo n b else s.putBit Reg.faultStatusHi (n - 32) b

/-- One event (R520, R523, R524): the status bit, COUNT, DETAIL (0xFFFF when forced), and the loss of HEALTH of class 2. -/
def faultEvent (e : Nat × Nat × Bool) : State :=
  let a := Reg.faultDetail e.1
  let t := (s.putStatus e.1 true).wrn a (min 255 (s.rdn a / 2 ^ 24 + 1) * 2 ^ 24 + (if e.2.2 then 0xFFFF else e.2.1 % 65536))
  if s.faultClass e.1 = 2 ∧ [26, 27, 28].contains e.1 = false then t.setPair fun p => { p with degraded := some s.monitorNow } else t

/-- The sources that events `es` latch newly, ascending. -/
def newLatches (es : List (Nat × Nat × Bool)) : List Nat :=
  (List.range 48).filter fun n => (es.any fun e => e.1 == n) && !s.faultLatched n

/-- The record that `new` makes (R525, R526), `at_` the register with its time pair after it at `time`. -/
def faultRecord (at_ time : Nat) (new : List Nat) : State :=
  let c := (new.map s.faultClass).foldl max 0
  let n := (new.find? fun x => s.faultClass x == c).getD 0
  (s.wrn at_ (2 ^ 31 + new.length * 65536 + c * 256 + n)).wr64 time (s.fullTicks 0)

/-- FAULT_FIRST, if released, and FAULT_GRAVE, if none was recorded, take the tick's record. -/
def faultRecords (new : List Nat) : State :=
  let t := if new.isEmpty || s.bit Reg.faultFirst 31 then s else s.faultRecord Reg.faultFirst Reg.faultFirstTimeLo new
  if new.any graveSources.contains && !s.bit Reg.faultGrave 31 then t.faultRecord Reg.faultGrave Reg.faultGraveTimeLo new else t

/-- The effects of class 3 (R524), in the order of R33: the key store and the heartbeat, the claim, the ledger. -/
def graveEffects (before : State) (new : List Nat) : State :=
  if new.any graveSources.contains then
    let t := if new.contains 19 || new.contains 39 then s.zeroize true else s
    ((t.chainRefresh.claimDone before).graveShow).mJudgeAll
  else s

/-- INT, NMI and EPIN of the new latches (R530, R531). -/
def faultPins (new : List Nat) : State :=
  let t := s.raiseIrqIf (new.any fun n => s.faultBit n 0) 0
  let t := if new.any fun n => s.faultBit n 1 then
      (t.putBit Reg.faultNmi 1 true).setFault fun f =>
        { f with nmi := true, nmiMin := f.nmiMin || !f.nmi, nmiAck := false, nmiEnd := if f.nmi then f.nmiEnd else s.edges + gridUs 1 }
    else t
  if new.any fun n => s.faultBit n 4 then
    (t.putBit Reg.faultEpin 24 true).setFault fun f =>
      { f with errMin := true, holdClear := false, errEnd := s.edges + gridUs (max 1 (s.fld Reg.faultEpin ⟨0, 20⟩)) }
  else t

/-! ### Block resets (R523) -/

/-- A block reset of STORE (R392): every delay line and playout buffer is emptied and enabled receive streams return to WAIT. -/
def storeReset : State :=
  let t := s.setStore fun x => { x with lines := x.lines.map fun e => (e.1, { e.2 with hist := [], last := 0 }) }
  (List.range 256).foldl (fun (u : State) (i : Nat) =>
    if u.rxState i = 0 then u
    else
      let was := (u.rxE i).sources
      let u := u.setRx i fun x => { pages := x.pages, dom := x.dom, base := x.base, chans := x.chans, bufSp := x.bufSp, xAt := x.xAt }
      (u.put (Reg.rxStatus i) ⟨0, 4⟩ 1).rxPartners i 0 was)
    (t.resetRegs [Reg.storeStatus, Reg.pagerStatus, Reg.pagerMaxwait].contains)

/-- The power group that holds the block which source `n` resets at `detail`. -/
def resetGroup (n detail : Nat) : Option Nat :=
  if n = 1 then
    let p := detail / 256
    if p = 6 then some 23 else if p = 8 ∨ p = 9 then some (16 + detail % 256 % 4) else if p = 10 ∨ p = 11 then some 21
    else if p = 12 then some 20 else if p = 24 then some 24 else if p = 25 then some 22 else none
  else if n = 5 ∨ n = 6 then some (detail / 16 % 16)
  else if n = 16 then some 23
  else if n = 20 ∨ n = 21 then some 21
  else if n = 37 then (if detail < 16 then some detail else if detail = 19 then some 24 else none)
  else none

/-- Registers of TIMEBASE that a block reset leaves: what shows time, rate and the leap table, and the servo's state (R225). -/
def timeKept (a : Nat) : Bool :=
  a == Reg.utcOffset || a == Reg.leapStatus || (decide (a < 0x71000) && [0x04, 0x18, 0x1C].contains (a % 0x200)) ||
    (decide (Reg.leapLo 0 ≤ a) && decide (a ≤ Reg.leapHi 7))

/-- A block reset of TIMEBASE (R12, R225). -/
def timeBlockReset : State :=
  (List.range 8).foldl (fun (t : State) (n : Nat) => t.put (Reg.tbStatus n) ⟨7, 2⟩ 0)
    ((s.resetRegs fun a => inPage 7 a && !timeKept a).timeReset)

/-- A block reset of KEYS: what shows operations and checks; the store itself is kept (R12, R342). -/
def keysBlockReset : State :=
  { s.resetRegs [Reg.keysBlobStatus, Reg.keysPairFail, Reg.keysChecks].contains with
    keys := { s.keys with load := [], window := [], op := 0, opBytes := [] } }

/-- A block reset of the GNSS baseband (R12). -/
def gnssBlockReset : State := (({ s with gnss := {} } : State).resetRegs (inPage 12)).gnssRefresh.antRefresh

/-- The block reset that source `n` calls for at `detail`. -/
def blockReset (n detail : Nat) : State :=
  if n = 1 then
    match detail / 256 with
    | 3 => s.intcReset
    | 5 => ((s.synBlockReset 0).synBlockReset 1).synBlockReset 2
    | 6 => s.loupeReset
    | 7 => s.timeBlockReset
    | 8 => s.lineReset (detail % 256)
    | 9 => s.ptpReset
    | 10 => s.ntsReset
    | 11 => s.keysBlockReset
    | 12 => s.gnssBlockReset
    | 13 => s.streamReset
    | 14 => s.routeReset
    | 15 => s.storeReset
    | 20 => s.queueReset
    | 21 => s.pairReset
    | 22 => s.chainReset
    | 24 => s.serialReset
    | 25 => ({ s with dram := { s.dram with inject := 0, wait := 0 } }).resetRegs fun a => inPage 25 a && a != Reg.dramStatus
    | 26 => s.resetRegs (inPage 26)
    | _ => s
  else if n = 4 ∨ n = 42 then s.storeReset
  else if n = 5 ∨ n = 6 then s.laneReset detail (s.brokenTasks detail)
  else if n = 11 ∨ n = 12 ∨ n = 13 then s.synBlockReset (n - 11)
  else if n = 16 then s.loupeReset
  else if n = 25 ∨ n = 38 then s.queueReset
  else if n = 37 then s.reapplyRegion detail
  else if n = 45 then s.outReset detail
  else s

/-- A block reset takes effect now, or when the block's power group next becomes ACTIVE (R523). -/
def resetOrOwe (n detail : Nat) : State :=
  match resetGroup n detail with
  | some g => if s.pgState g = 0 then s.blockReset n detail else s.setFault fun f => { f with owed := f.owed ++ [(n, detail)] }
  | none => s.blockReset n detail

/-- A trap of a GNSS_LOOP lane without its block reset leaves the lane stopped: reference 16 loses activity (R421, R431). -/
def loopStopped (n : Nat) : State := if (s.laneF n).role = 2 then s.activityLoss 16 else s

/-- The block resets of a tick's events, in ascending source order; a forced event's acts on nothing. -/
def faultResets (es : List (Nat × Nat × Bool)) : State :=
  let due := es.filter fun (e : Nat × Nat × Bool) => !e.2.2
  (List.range 48).foldl (fun (t : State) (n : Nat) =>
    (due.filter fun e => e.1 == n).foldl (fun (u : State) (e : Nat × Nat × Bool) =>
      if s.faultBit n 2 then u.resetOrOwe n e.2.1 else if n = 6 then u.loopStopped e.2.1 else u) t) s

/-- Group `g` becomes ACTIVE: the block resets it was owed take effect (R523). -/
def wakeNow (g : Nat) : State :=
  let mine (o : Nat × Nat) : Bool := resetGroup o.1 o.2 == some g
  let t := (s.pgAwake g).setFault fun f => { f with owed := f.owed.filter fun o => !mine o }
  (s.fault.owed.filter mine).foldl (fun (u : State) (o : Nat × Nat) => u.blockReset o.1 o.2) t

/-- A collector tick (R520–R529): all events held are taken; a chip reset comes after the interrupt and the pins. -/
def collect : State :=
  let es := s.fault.strobes
  let new := s.newLatches es
  let t := s.setFault fun f => { f with strobes := [] }
  let t := es.foldl (fun (u : State) (e : Nat × Nat × Bool) => u.faultEvent e) t
  let t := t.faultRecords new
  let t := (t.graveEffects s new).faultPins new
  let t := t.faultResets es
  if new.any fun n => t.faultBit n 3 then t.intcTake.chipReset 4 else t

/-- Host software clears status bits (R521, R528): a grave source's does not clear, and a live level is a new event with its last detail. -/
def statusClear (hi : Bool) (v : Nat) : State :=
  (List.range 32).foldl (fun (t : State) (i : Nat) =>
    let n := if hi then i + 32 else i
    if v.testBit i && decide (n < 48) && !graveSources.contains n && t.faultLatched n then
      let u := t.putStatus n false
      u.raiseFaultIf (u.faultLive n) n (u.rdn (Reg.faultDetail n) % 65536)
    else t) s

/-- A write of FAULT_FORCE (R532): without an arming within 1 ms its grave bits are ignored, which is one violation. -/
def forceFaults (p : Port) (hi : Bool) (v : Nat) : State :=
  let armed := match s.fault.armed with | some a => decide (s.edges - a ≤ 625000) | none => false
  let bits := (List.range 32).filter fun i => v.testBit i && decide ((if hi then i + 32 else i) < 48)
  let ns := bits.map fun i => if hi then i + 32 else i
  let bad := !armed && ns.any graveSources.contains
  let go := ns.filter fun n => armed || !graveSources.contains n
  let t := s.setFault fun f => { f with armed := none, strobes := f.strobes ++ go.map fun n => (n, 0xFFFF, true) }
  if bad then t.violation 9 p true false (if hi then Reg.faultForceHi else Reg.faultForceLo) else t

/-- A write of FAULT_EPIN.HOLD (R530). -/
def holdWrite (b : Bool) : State :=
  if s.class3 then s
  else if b then (s.putBit Reg.faultEpin 24 true).setFault fun f => { f with holdClear := false }
  else if s.fault.errMin then s.setFault fun f => { f with holdClear := true }
  else s.putBit Reg.faultEpin 24 false

/-! ### The split of the store (R385) -/

/-- The slots that an enabled writer or reader names. -/
def slotsNamed : List Nat :=
  let own := (s.store.owner.filter fun e => e.2 != .none).map (·.1)
  let sa := (List.range 48).flatMap fun n => if (s.saAt n).enabled then s.saReads n else []
  let rx := (List.range 256).flatMap fun i =>
    if s.bit (Reg.rxCtrl i) 0 && decide (s.rdn (Reg.rxSlot i) / 2 ^ 30 < 2) then
      (List.range (s.fmtCh (Reg.rxCtrl i))).map fun c => s.rdn (Reg.rxSlot i) % 8192 + c
    else []
  let tx := (List.range 256).flatMap fun i =>
    if s.bit (Reg.txCtrl i) 0 then (List.range (s.fmtCh (Reg.txCtrl i))).map fun c => s.rdn (Reg.txSlot i) % 8192 + c else []
  let routes := s.store.routes.flatMap fun e => if enOfW e.2.w0 then [dstOfW e.2.w0, srcOfW e.2.w0] else []
  let terms := s.store.terms.flatMap fun e => if enOfW e.2.w0 then [dstOfW e.2.w0] else []
  let buses := s.store.buses.flatMap fun e => if enOfW e.2.w0 then [dstOfW e.2.w0] else []
  let lines := s.store.lines.flatMap fun e => if enOfW e.2.w0 then [dstOfW e.2.w0, srcOfW e.2.w0] else []
  let asrc := (List.range 128).flatMap fun c => if s.bit (Reg.asrcCfg c) 31 then [s.rdn (Reg.asrcCfg c) % 8192] else []
  let br := (List.range 256).flatMap fun i =>
    if s.bit (Reg.bridge i) 31 then [s.rdn (Reg.bridge i) % 8192, s.rdn (Reg.bridge i) / 8192 % 8192] else []
  let tasks := s.facet.tasks.flatMap fun e => match e.2 with | some k => k.ins ++ k.outs | none => []
  own ++ sa ++ rx ++ tx ++ routes ++ terms ++ buses ++ lines ++ asrc ++ br ++ tasks

/-- A write of STORE_SPLIT: ignored, with SPLIT_REFUSED, when a slot that changes domain is named. -/
def splitWrite (v : Nat) : State :=
  let a := s.split
  let b := min 8192 v
  if s.slotsNamed.any fun i => decide (min a b ≤ i ∧ i < max a b) then s.putBit Reg.storeStatus 0 true
  else s.put Reg.storeSplit ⟨0, 14⟩ b

end State

/-! ### The rows -/

/-- FAULT_TAKE (R519–R529). -/
def execFaultTake (s : State) : Res := done s.collect

/-- FAULT_STATUS_CLEAR (R521, R528). -/
def execFaultStatusClear (hi : Bool) (value : Word) (s : State) : Res := done (s.statusClear hi value.toNat)

/-- FAULT_FORCE (R532). -/
def execFaultForce (p : Port) (hi : Bool) (value : Word) (s : State) : Res := done (s.forceFaults p hi value.toNat)

/-- FAULT_FORCE_ARM (R532): 0x0000_0033 arms the next force write. -/
def execFaultForceArm (value : Word) (s : State) : Res :=
  done (if value = 0x33 then s.setFault fun f => { f with armed := some s.edges } else s)

/-- FAULT_SOFT (R533). -/
def execFaultSoft (value : Word) (s : State) : Res := done (s.raiseFault 47 (value.toNat % 65536))

/-- FAULT_FIRST_RELEASE (R525, R535). -/
def execFaultFirstRelease (s : State) : Res := done ((s.wr Reg.faultFirst 0).wr64 Reg.faultFirstTimeLo 0)

/-- FAULT_NMI_ACK (R531): NMI_B is released, but not before it has been asserted for 1 µs. -/
def execFaultNmiAck (s : State) : Res :=
  done ((s.putBit Reg.faultNmi 1 false).setFault fun f => if f.nmiMin then { f with nmiAck := f.nmi } else { f with nmi := false })

/-- FAULT_EPIN_HOLD_WRITE (R530). -/
def execFaultEpinHoldWrite (hold : Bool) (s : State) : Res := done (s.holdWrite hold)

/-- ERR_B_MIN_WIDTH_END (R530): the width has passed, and a release written during it takes effect. -/
def execErrBMinWidthEnd (s : State) : Res :=
  done (if s.fault.errMin && decide (s.fault.errEnd ≤ s.edges) then
    (if s.fault.holdClear then s.putBit Reg.faultEpin 24 false else s).setFault fun f => { f with errMin := false, holdClear := false }
  else s)

/-- NMI_B_MIN_WIDTH_END (R531): NMI_B has been asserted for 1 µs, and an acknowledgement written during it releases the pin. -/
def execNmiBMinWidthEnd (s : State) : Res :=
  done (s.setFault fun f => if f.nmiMin && decide (f.nmiEnd ≤ s.edges) then { f with nmiMin := false, nmi := f.nmi && !f.nmiAck, nmiAck := false } else f)

/-- PG_WAKE_COMPLETE (R560, R523): a waking group becomes ACTIVE, and the block resets it was owed take effect. -/
def execPgWakeComplete (n : Fin 25) (s : State) : Res :=
  done (if s.age.waking.contains n.val then s.wakeNow n else s)

/-- HANDSHAKE_STALL (R16): fault 43, its detail the position. -/
def execHandshakeStall (pos : Fin 24) (s : State) : Res := done (s.raiseFault 43 pos)

/-- STORE_BLK_RST (R392). -/
def execStoreBlkRst (s : State) : Res := done s.storeReset

/-- STORE_SPLIT_WRITE (R385). -/
def execStoreSplitWrite (value : BitVec 14) (s : State) : Res := done (s.splitWrite value.toNat)

end Sys2Proof.Machine
end

