-- ==== Sys2Proof/Machine/HostRead.lean ====
section
/-!
DEFINITION. What a host access meets: the power group, the region and the locks of a register, the kinds of violation;
and host reads, with the values of registers that the part computes, the reads that change state, and the read latch
(R10, R11, R53, R54, R174, R204, R406, R585–R589, R607).
-/

namespace Sys2Proof.Machine

open Host (Outcome)

namespace State

variable (s : State)

/-! ### Where a register lies -/

/-- The state after a command. -/
def act (f : State → Res) : State := (f s).after s

/-- The power group of a page's registers (R607). -/
def groupAt (a : Nat) : Option Nat :=
  match a / 0x10000 with
  | 6 => some 23
  | 8 => some (16 + a % 0x10000 / 0x4000)
  | 10 | 11 => some 21
  | 12 => some 20
  | 16 | 17 | 18 | 19 => some ((a - 0x100000) / 0x4000)
  | 24 => some 24
  | 25 => some 22
  | _ => none

/-- Group `g` is in OFF, or ABSENT takes effect on it (R194, R559). -/
def groupDark (g : Nat) : Bool := s.pgState g == 3 || (s.pgPolicy g == 2 && s.loader.built && !(g == 23 && s.loupeHeld))

/-- A host access reaches group `g` (R559, R562): one in IDLE or RETAIN wakes first. -/
def groupTouch (g : Nat) : State :=
  if s.pgState g = 1 ∨ s.pgState g = 2 then s.wakeNow g else if s.pgState g = 0 then s.pgDemanded g else s

/-- A host access reaches offset `a`: a group in IDLE or RETAIN wakes first (R559, R562). -/
def touch (a : Nat) : State :=
  match groupAt a with
  | some g => s.groupTouch g
  | none => s

/-- The locked bits of the register at `a` (R54). -/
def lockMask (a : Nat) : Word := if s.loader.built then s.loader.locks.get 0 a else 0

/-- The bits of a register that belong to a field. -/
def fieldMask (r : RegDef) : Word := BitVec.ofNat 32 (r.rw ||| r.w1c ||| r.act ||| r.ro)

/-- Every field of the register is locked (R54). -/
def lockedWhole (a : Nat) (r : RegDef) : Bool := s.lockMask a != 0 && fieldMask r &&& ~~~ s.lockMask a == 0

/-- An access to a register of a region that is being applied (R53): a lane's cluster, the ports, the serial pins, and on the ROUTE page what R53
names. -/
def busyAccess (a : Nat) (write : Bool) : Bool :=
  match a / 0x10000 with
  | 16 | 17 | 18 | 19 => s.regionBusy ((a - 0x100000) / 0x4000)
  | 8 => s.regionBusy 18
  | 24 => s.regionBusy 19
  | 14 =>
    let t := s.rdn Reg.tblSel / 2 ^ 28
    if write then
      (a == Reg.tblCmd && s.tableBusy t) || (a == Reg.routeCommit && s.commitBusy)
    else (a == Reg.routeStatus && s.regionBusy 16) || ((a == Reg.mixTermsA || a == Reg.mixTermsB) && s.regionBusy 17)
  | _ => false

/-- A register whose access code depends on its instance or on the structure is read-only now: the offsets that hardware supplies (R101),
FADJ of TB_0, the channel status of a serial input. -/
def roNow (a : Nat) : Bool :=
  match a / 0x10000 with
  | 4 =>
    let n := (a - 0x40000) / 0x100
    let r := a % 0x100
    n < 20 && 0x58 ≤ r && r ≤ 0x68 && !(n == 19 || (n == 16 && !s.hasGnssLane))
  | 7 => a == Reg.tbFadj 0
  | 24 =>
    let n := (a - 0x180000) / 64
    n < 48 && 0x20 ≤ a % 64 && a % 64 < 0x38 && s.saIn n
  | _ => false

/-- Key material (R589): a read returns zero and counts. -/
def keyMaterial (a : Nat) : Bool :=
  (decide (Reg.keysLoad 0 ≤ a) && decide (a ≤ Reg.keysLoad 7)) || (decide (Reg.ntsMintKey 0 ≤ a) && decide (a ≤ Reg.ntsMintKey 15))

/-- The kind of violation of a read of BAR0 offset `a`, if any: the lowest it meets (R589). -/
def readKind (a : Nat) : Option Nat :=
  match regDef (a / 4 * 4) with
  | none => some 1
  | some r =>
    if (match groupAt a with | some g => s.groupDark g | none => false) then some 2
    else if keyMaterial a then some 3
    else if s.lockedWhole (a / 4 * 4) r then some 4
    else if s.busyAccess (a / 4 * 4) false then some 5
    else if a % 4 = 0 then none else some 11

/-! ### Registers whose value the part computes -/

/-- STRUCT_STATUS.STATE (R60). -/
def loaderCode : LoaderState → Nat
  | .empty => 0 | .waitHost => 1 | .fetch => 2 | .check => 3 | .apply => 4 | .built => 5 | .failed => 6

/-- The parameter word that STRUCT_ASBUILT_SEL names, defaults included; zero for none (R62). -/
def asBuilt : Nat :=
  let v := s.rdn Reg.structAsbuiltSel
  let id := v / 65536
  let w := v / 4096 % 16
  if !s.loader.built || paramInstances id ≤ v % 256 then 0
  else match paramWords s.loader.params id (v % 256) with
    | [] => if w = 0 then paramDefault id else 0
    | ws => ws.getD w 0

/-- Bits of `w` replaced by field `f` at `v`. -/
def withField (w : Word) (f : Bits) (v : Nat) : Word :=
  BitVec.ofNat 32 (w.toNat - w.toNat / 2 ^ f.lo % 2 ^ f.len * 2 ^ f.lo + v % 2 ^ f.len * 2 ^ f.lo)

/-- STRUCT page (R58–R62). -/
def peekStruct (a : Nat) (w : Word) : Word :=
  if a = Reg.structStatus then
    let w := withField (withField w ⟨0, 4⟩ (loaderCode s.loader.state)) ⟨16, 1⟩
      (s.loader.state == .fetch || s.loader.state == .check || s.loader.state == .apply).toNat
    withField w ⟨19, 1⟩ s.otp.owners.isEmpty.toNat
  else if a = Reg.structRollback then BitVec.ofNat 32 s.otp.rollback
  else if a = Reg.structOwner then BitVec.ofNat 32 ((2 ^ s.otp.owners.length - 1) * 16 + s.loader.matched % 4)
  else if a = Reg.structAsbuiltData then BitVec.ofNat 32 s.asBuilt
  else w

/-- FAULT page: HOLD reads 1 while a class-3 source is latched (R530); CLASS and EPIN of the grave sources are fixed (R522). -/
def peekFault (a : Nat) (w : Word) : Word :=
  if a = Reg.faultEpin then withField w ⟨24, 1⟩ (w.toNat.testBit 24 || s.class3).toNat
  else if Reg.faultCfg 0 ≤ a ∧ a ≤ Reg.faultCfg 47 ∧ graveSources.contains ((a - Reg.faultCfg 0) / 4) = true then
    withField (withField w ⟨8, 2⟩ 3) ⟨4, 1⟩ 1
  else w

/-- INTC page (R537–R558): a target beyond those built reads zero. -/
def peekIntc (a : Nat) (w : Word) : Word :=
  if a = Reg.intcCtrl then
    if s.loader.built then withField (withField w ⟨8, 2⟩ (s.intcTargets - 1)) ⟨4, 1⟩ s.intcNested.toNat else w
  else if a = Reg.intcPendLo then intcBits s.irqPending 0
  else if a = Reg.intcPendHi then intcBits s.irqPending 32
  else if a = Reg.intcInsvcLo then intcBits s.irqInService 0
  else if a = Reg.intcInsvcHi then intcBits s.irqInService 32
  else if a = Reg.evtStatus then BitVec.ofNat 32 (s.intc.evt.lost * 65536 + s.intc.evt.entries.length)
  else if 0x30200 ≤ a ∧ a < 0x30280 then
    let t := (a - 0x30200) / 32
    if s.intcTargets ≤ t then 0 else if a = Reg.intcTgtStatus t then s.intcStatus t else w
  else w

/-- SYNTH page: PULL of SYN_G reads 0 (R172), and the fields of one kind of output read 0 on the other (R174). -/
def peekSynth (a : Nat) (w : Word) : Word :=
  if a = Reg.synCtrl 0 then withField w ⟨8, 3⟩ 0
  else if 0x53000 ≤ a ∧ a < 0x53300 then
    let clk := decide ((a - 0x53000) / 64 < 8)
    match a % 64 with
    | 0 => if clk then withField w ⟨1, 6⟩ 0 else withField (withField w ⟨12, 10⟩ 0) ⟨8, 2⟩ 0
    | 4 => if clk then w else 0
    | 16 => if clk then 0 else w
    | _ => w
  else w

/-- REFSEL page: SEL_PULL reads the phase that remains now (R96). -/
def peekRefs (a : Nat) (w : Word) : Word :=
  if a = Reg.selPullLo then BitVec.ofInt 32 s.pull
  else if a = Reg.selPullHi then BitVec.ofInt 32 (s.pull / 2 ^ 32)
  else w

/-- LOUPE page: MODE reads REF while the reference is enabled (R176); REFUSED while GRID runs on the bypass clock (R184). -/
def peekLoupe (a : Nat) (w : Word) : Word :=
  if a = Reg.loupeStatusOf then withField w ⟨31, 1⟩ s.gridBypass.toNat
  else if a < 0x60C00 ∧ a % 256 = 0 ∧ s.refState (a / 256 % 256) ≠ 5 then withField w ⟨0, 3⟩ 1
  else w

/-- TIMEBASE page: the live tick times (R199), the leap table in force and its state (R203–R205). -/
def peekTime (a : Nat) (w : Word) : Word :=
  let n := (a - 0x70000) / 512
  if a < 0x71000 ∧ a % 512 = 0x38 then BitVec.ofNat 32 (s.tick n)
  else if a < 0x71000 ∧ a % 512 = 0x3C then BitVec.ofNat 32 (s.tick n / 2 ^ 32)
  else if a = Reg.leapStatus then withField (withField w ⟨8, 4⟩ s.time.leap.length) ⟨0, 2⟩ s.leapPending
  else if Reg.leapLo 0 ≤ a ∧ a ≤ Reg.leapHi 7 then
    match s.time.leap[(a - Reg.leapLo 0) / 8]? with
    | some (t, d) => if a % 8 = 0 then BitVec.ofNat 32 t else BitVec.ofNat 32 (t / 2 ^ 32 % 65536 + (if d = 1 then 1 else 2) * 2 ^ 30)
    | none => 0
  else w

/-- LINE page (R259, R266, R271, R273). -/
def peekLine (a : Nat) (w : Word) : Word :=
  let n := (a - 0x80000) / 0x4000
  if a = Reg.lineCtrl n then withField w ⟨8, 3⟩ (s.personality n)
  else if a = Reg.lineFilter n then withField w ⟨8, 7⟩ (min 64 (s.groupsOf n).length)
  else if a = Reg.linePause n then withField w ⟨16, 16⟩ (s.pauseRemain n)
  else if a = Reg.lineTsRxFixed n then (if s.personality n = 0 then 0 else Config.lineRxFixed n (s.personality n))
  else if a = Reg.lineTsTxFixed n then (if s.personality n = 0 then 0 else Config.lineTxFixed n (s.personality n))
  else if Reg.lineHash n 0 ≤ a ∧ a ≤ Reg.lineHash n 7 then
    let k := (a - Reg.lineHash n 0) / 4
    BitVec.ofNat 32 ((List.range 32).foldl (fun (v i : Nat) => v + (s.hashBit n (32 * k + i)).toNat * 2 ^ i) 0)
  else w

/-- GNSS page: the record registers read zero while the GNSS_LOOP lane is the only reader (R242, R431). -/
def peekGnss (a : Nat) (w : Word) : Word :=
  if s.laneReads ∧ ((Reg.gnssDump 0 ≤ a ∧ a ≤ Reg.gnssDump 9) ∨ (Reg.gnssNav 0 ≤ a ∧ a ≤ Reg.gnssNav 15)) then 0 else w

/-- STREAM page: CLAIM_EXT as R382 has it. -/
def peekStream (a : Nat) (w : Word) : Word :=
  let i := (a - 0xD6000) / 96
  if 0xD6000 ≤ a ∧ i < 256 ∧ a = Reg.txCtrl i then withField w ⟨1, 1⟩ (s.txExt i).toNat else w

/-- SERIAL page: the odd pin of an AES3 pair reads zero (R361); the personality, its domain, and the bank's MASTER and CFG_ERR (R362, R365). -/
def peekSerial (a : Nat) (w : Word) : Word :=
  let n := (a - 0x180000) / 64
  if n < 48 then
    if s.saOdd n then 0
    else if a = Reg.saCfg n then withField (withField w ⟨3, 3⟩ (s.saPers n)) ⟨6, 2⟩ (s.saDom n)
    else w
  else if 0x181000 ≤ a ∧ a < 0x181018 then
    let b := (a - 0x181000) / 4
    withField (withField w ⟨5, 1⟩ (s.bankMaster b).toNat) ⟨8, 1⟩ (s.bankBad b).toNat
  else w

/-- FACET page: the selected task (R437). -/
def peekFacet (a : Nat) (w : Word) : Word :=
  let n := (a - 0x100000) / 0x400
  let sel := s.task? (16 * n + s.rdn (Reg.facetTaskSel n) % 16)
  if a = Reg.facetTaskSel n then withField w ⟨16, 8⟩ (match sel with | some t => t.lane | none => 0)
  else if a = Reg.facetTaskData n then
    match sel with
    | some t => BitVec.ofNat 32 (min 32767 t.usedMax * 2 ^ 17 + min 32767 t.used * 4 + t.bank.toNat * 2 + t.swapPend.toNat)
    | none => 0
  else w

/-- The value a read of the register at `a` returns, locks aside. -/
def peek (a : Nat) : Word :=
  let w := s.rd a
  match a / 0x10000 with
  | 1 => s.peekStruct a w
  | 2 => s.peekFault a w
  | 3 => s.peekIntc a w
  | 4 => s.peekRefs a w
  | 5 => peekSynth a w
  | 6 => s.peekLoupe a w
  | 7 => s.peekTime a w
  | 8 => s.peekLine a w
  | 9 => if a = Reg.ptpCtrl ∧ s.clockId = 0 then withField w ⟨0, 1⟩ 0 else w
  | 12 => s.peekGnss a w
  | 13 => s.peekStream a w
  | 16 | 17 | 18 | 19 => s.peekFacet a w
  | 22 => if !s.chainMode && decide (a < Reg.partnerCtrl) then 0 else w
  | 24 => s.peekSerial a w
  | 25 => if a = Reg.dramTemp then withField w ⟨8, 1⟩ s.dramFast.toNat else w
  | _ => w

/-- The value that a host read sees (R54). -/
def shown (a : Nat) : Word := s.peek a &&& ~~~ s.lockMask a

/-! ### Reads that change state -/

/-- A read of the register at `a` takes what it removes (R106, R192, R242, R245, R317, R433, R542, R554, R556): the value comes after it. -/
def readTakes (a : Nat) : State :=
  match a / 0x10000 with
  | 3 =>
    if a = Reg.evt0 then s.act execEvtRead
    else if h : 0x30100 ≤ a ∧ a < 0x30180 ∧ a = Reg.ppsCap ((a - 0x30100) / 32) then
      s.act (execPpsCapRead ⟨(a - 0x30100) / 32, by omega⟩)
    else if h : 0x30200 ≤ a ∧ a < 0x30280 ∧ a = Reg.intcTgtClaim ((a - 0x30200) / 32) then
      s.act (execIntcClaim ⟨(a - 0x30200) / 32, by omega⟩)
    else s
  | 4 => if h : a < 0x40400 ∧ 0x40000 ≤ a ∧ a = Reg.refTodData ((a - 0x40000) / 256) then
      s.act (execTodDataRead ⟨(a - 0x40000) / 256, by omega⟩) else s
  | 6 => if a = Reg.loupeFifo 0 then s.act execLoupeFifoRead else s
  | 9 => if a = Reg.ptpTs 0 then s.act execPtpTsRead else s
  | 12 => if a = Reg.gnssDump 0 then s.act execGnssDumpRead else if a = Reg.gnssNav 0 then s.act execGnssNavRead else s
  | 16 | 17 | 18 | 19 =>
    if h : 0x100000 ≤ a ∧ a < 0x140000 ∧ a = Reg.facetMailOut ((a - 0x100000) / 0x400) then
      s.act (execFacetMailOutRead ⟨(a - 0x100000) / 0x400, by omega⟩) else s
  | _ => s

/-- A read of the register at `a` releases what it has read (R416, R436, R437): the value comes before it. -/
def readFrees (a : Nat) : State :=
  if h : 0x100000 ≤ a ∧ a < 0x140000 then
    let n : Fin 256 := ⟨(a - 0x100000) / 0x400, by omega⟩
    if a = Reg.facetMailStatus n then s.act (execFacetMailStatusRead n)
    else if a = Reg.facetMarginMin n then s.act (execFacetMarginMinRead n)
    else if a = Reg.facetTaskData n then s.act (execFacetTaskDataRead n)
    else s
  else s

/-! ### The latches (R586, R587) -/

/-- The latches of a port. -/
def portAt : Port → PortSt
  | .pcie => s.host.pcie
  | .spi => s.host.spi

/-- Change the latches of a port. -/
def setPort (p : Port) (f : PortSt → PortSt) : State :=
  { s with host := match p with | .pcie => { s.host with pcie := f s.host.pcie } | .spi => { s.host with spi := f s.host.spi } }

/-- Which half of a 64-bit pair the register at `a` is: 1 _LO, 2 _HI, 0 neither (R10). -/
def pairOf (a : Nat) : Nat := match regDef a with | some r => r.pair | none => 0

/-- A read of BAR0 offset `a` through port `p`: the value and the state after it (R29, R54, R585–R588). -/
def hostRead (p : Port) (a : Nat) : Word × State :=
  if !s.running || (p == .spi && !s.ready) then (0, s)
  else match s.readKind a with
    | some k => (0, s.violation k p false false a)
    | none =>
      let t := (s.touch a).readTakes a
      let v := t.shown a
      if pairOf a = 1 then (v, t.setPort p fun x => { x with readLatch := some (a, t.shown (a + 4)) })
      else if pairOf a = 2 then
        match (t.portAt p).readLatch with
        | some (lo, hi) => (if lo + 4 = a then hi else v, t)
        | none => (v, t)
      else (v, t.readFrees a)

/-! ### BAR2 (R579, R581) -/

/-- What an offset of BAR2 reaches. -/
inductive Window where
  | staging | snapshot | blob | mint | reserved
  | lane (n off : Nat)
deriving DecidableEq, Repr

/-- The map of BAR2; the staging window reaches nothing while a structure is built and external memory is not trained (R49). -/
def windowAt (o : Nat) : Window :=
  if o < 0x1000000 then (if s.loader.built && !s.dramTrained then .reserved else .staging)
  else if o < 0x1030000 then .snapshot
  else if o < 0x1030550 then .blob
  else if 0x1030800 ≤ o ∧ o < 0x1030B40 then .mint
  else if 0x2000000 ≤ o ∧ o < 0x4000000 then .lane ((o - 0x2000000) / 0x20000) ((o - 0x2000000) % 0x20000)
  else .reserved

/-- The word of lane `n`'s window at octet `off` (R406). -/
def laneWord (n off : Nat) : Word :=
  if off < 0x4000 then
    let p := off / 8
    let b := s.progAt (s.windowLane n fun x => inCode x p) p
    if off % 8 < 4 then b.setWidth 32 else (b >>> 32).setWidth 32
  else if 0x8000 ≤ off ∧ off < 0x18000 then
    let y := decide (0x10000 ≤ off)
    let a := (if y then off - 0x10000 else off - 0x8000) / 4
    s.memRd (s.windowLane n fun x => inRegion x y a) y a
  else 0

/-- The kind of violation of a read of BAR2 offset `o`. -/
def bar2ReadKind (o : Nat) : Option Nat :=
  match s.windowAt o with
  | .reserved => some 1
  | .lane n _ => if s.groupDark (n / 16) then some 2 else none
  | _ => none

/-- A read of the word at BAR2 offset `o`, a multiple of 4. -/
def bar2Read (p : Port) (o : Nat) : Word × State :=
  if !s.running || (p == .spi && !s.ready) then (0, s)
  else match s.bar2ReadKind o with
    | some k => (0, s.violation k p false true o)
    | none =>
      match s.windowAt o with
      | .staging => (BitVec.ofNat 32 (leNat (s.stagingRead o 4)), s)
      | .snapshot => (BitVec.ofNat 32 (leNat (SMap.getRun 0 s.hold.window (o - 0x1000000) 4)), s)
      | .blob => (BitVec.ofNat 32 (leNat (SMap.getRun 0 s.keys.window (o - 0x1030000) 4)), s)
      | .mint => (BitVec.ofNat 32 (leNat (SMap.getRun 0 s.nts.window (o - 0x1030800) 4)), s)
      | .lane n off =>
        let t := s.groupTouch (n / 16)
        (t.laneWord n off, t)
      | .reserved => (0, s)

end State

end Sys2Proof.Machine
end

