-- ==== Sys2Proof/Machine/HostWrite.lean ====
section
/-!
DEFINITION. Host writes: the kinds of violation a write meets, the write latch, the bits a write changes, the effect of
each page's registers, mirrored writes, and writes into BAR2 (R11, R29, R54, R407, R491, R579, R584–R589).
-/

namespace Sys2Proof.Machine

open Host (Outcome)

namespace State

variable (s : State)

/-! ### What a write meets (R589) -/

/-- A mirrored register (R491). -/
def mirrored (a : Nat) : Bool :=
  match a / 0x10000 with
  | 14 => true
  | 15 => a == Reg.storeCtrl || a == Reg.storeSplit
  | 13 => a < 0xDC000 || a == Reg.streamCtrl || (decide (0xDD000 ≤ a) && decide (a < 0xDD400) && a % 8 == 0) || decide (0xDE000 ≤ a)
  | 24 => decide (a < 0x181018)
  | 16 | 17 | 18 | 19 => a % 0x400 == 0 || a % 0x400 == 0x18 || a % 0x400 == 0x24
  | _ => false

/-- The unit mirrors writes: it is ACTIVE or STANDBY (R491). -/
def mirrors : Bool := s.inLockstep

/-- PAIR_CTRL.MIRROR_WR. -/
def mirrorWr : Bool := s.on Reg.pairCtrl Fld.pairCtrl_MIRROR_WR

/-- A write of the SPI port is ignored: RO_LOCK is 1 and the register is no doorbell (R584). -/
def spiLocked (p : Port) (a : Nat) : Bool :=
  p == .spi && s.bit Reg.hostSpiCtrl 0 && a != Reg.dbSet && a != Reg.dbStatus

/-- A write that the spec calls REFUSED: a grave force without arming, a key load while LOCKED (R342, R532). -/
def refusedWrite (a : Nat) (v : Word) : Bool :=
  let armed := match s.fault.armed with | some e => decide (s.edges - e ≤ 625000) | none => false
  (a == Reg.faultForceLo && !armed && graveSources.any fun n => decide (n < 32) && v.toNat.testBit n) ||
    (a == Reg.faultForceHi && !armed && graveSources.any fun n => decide (32 ≤ n) && v.toNat.testBit (n - 32)) ||
    (a == Reg.keysLoadCtrl && v.toNat.testBit 0 && !v.toNat.testBit 1 && s.keysLocked)

/-- The kind of violation of a write of `v` to BAR0 offset `a`, if any: the lowest it meets (R589).  REFUSED is counted by what refuses it. -/
def writeKind (p : Port) (a : Nat) (v : Word) : Option Nat :=
  match regDef (a / 4 * 4) with
  | none => some 1
  | some r =>
    if (match groupAt a with | some g => s.groupDark g | none => false) then some 2
    else if s.lockedWhole (a / 4 * 4) r then some 4
    else if s.busyAccess (a / 4 * 4) true then some 5
    else if r.rw ||| r.w1c ||| r.act = 0 ∨ s.roNow (a / 4 * 4) = true ∨ v &&& ~~~ fieldMask r ≠ 0 ∨ (p = .spi ∧ a / 4 * 4 = Reg.hostSpiCtrl) then some 6
    else if mirrored (a / 4 * 4) && s.mirrors && !s.mirrorWr then some 7
    else if s.spiLocked p (a / 4 * 4) then some (if s.refusedWrite a v then 9 else 10)
    else if a % 4 = 0 then none else some 11

/-! ### The bits of a register -/

/-- Store the read/write bits of `v` and clear the W1C bits it has at 1; locked fields keep their value, and an absent instance ignores the
write (R11, R54, R102). -/
def storeReg (a : Nat) (v : Word) : State :=
  if regAbsent a then s
  else
    match regDef a with
    | some r =>
      let m := BitVec.ofNat 32 r.rw &&& ~~~ s.lockMask a
      let c := BitVec.ofNat 32 r.w1c &&& ~~~ s.lockMask a &&& v
      s.wr a ((s.rd a &&& ~~~ m &&& ~~~ c) ||| (v &&& m))
    | none => s

/-- Bit `i` of a write to `a`, 0 where the bit is locked. -/
def wbit (a : Nat) (v : Word) (i : Nat) : Bool := (v &&& ~~~ s.lockMask a).toNat.testBit i

/-- The state after `f` when `b` holds. -/
def when (b : Bool) (f : State → State) : State := if b then f s else s

/-! ### GLOBAL and DEBUG (R590–R595) -/

/-- TIMEOUT of the watchdog, at least 1 ms. -/
def wdogTimeout : Nat := max 1 (s.fld Reg.hostWdogCtrl Fld.hostWdogCtrl_TIMEOUT)

/-- The watchdog starts to count down from TIMEOUT. -/
def wdogReload : State :=
  let t := s.put Reg.hostWdogStatus Fld.hostWdogStatus_LEFT s.wdogTimeout
  { t with host := { t.host with wdogRun := true } }

/-- A write of HOST_WDOG_CTRL (R590): EN from 0 to 1 reloads LEFT. -/
def wdogCtrl (v : Word) : State :=
  let t := s.storeReg Reg.hostWdogCtrl v
  t.when (t.bit Reg.hostWdogCtrl 0 && !s.bit Reg.hostWdogCtrl 0) wdogReload

/-- A write of HOST_WDOG_KICK (R590). -/
def wdogKick (p : Port) (v : Word) : State :=
  s.when (v == 0xD1 && (p == .pcie || s.bit Reg.hostWdogCtrl 1)) wdogReload

/-- LEFT reaches 0 (R590): fault 38 once, and the watchdog stops until the next kick. -/
def wdogExpire : State :=
  let t := ((s.raiseFault 38 0).incSat Reg.hostWdogStatus Fld.hostWdogStatus_EXPIRIES).put Reg.hostWdogStatus Fld.hostWdogStatus_LEFT 0
  { t with host := { t.host with wdogRun := false } }

/-- A write of DB_SET (R591). -/
def doorbell (v : Word) : State :=
  (s.wr Reg.dbStatus (s.rd Reg.dbStatus ||| v)).raiseIrqIf (v &&& s.rd Reg.dbEn != 0) 62

/-- DBG_CTRL.CLR (R595). -/
def dbgClear : State := ((s.wr Reg.dbgViolCount 0).wr Reg.dbgViolAddr 0).wr Reg.dbgViolInfo 0

/-- GLOBAL page. -/
def writeGlobal (p : Port) (a : Nat) (v : Word) : State :=
  if a = Reg.globalReset then s.when (v == 0xC5) fun t => t.chipReset 2
  else if a = Reg.hostWdogCtrl then s.wdogCtrl v
  else if a = Reg.hostWdogKick then s.wdogKick p v
  else if a = Reg.dbSet then s.doorbell v
  else
    let t := s.storeReg a v
    if 0x1000 ≤ a ∧ a < 0x1190 ∧ a % 16 = 0 then t.pgChoose ((a - 0x1000) / 16) else t

/-! ### STRUCT, FAULT and INTC -/

/-- STRUCT page (R45, R46, R52, R58). -/
def writeStruct (a : Nat) (v : Word) : State :=
  if a = Reg.structCtrl then
    let stop := s.wbit a v 1 && (s.loader.state == .fetch || s.loader.state == .check)
    if stop then s.act execStructAbort else s.when (s.wbit a v 0) fun t => t.act execStructLoad
  else if a = Reg.structRollbackAdv then s.act (execStructRollbackAdv v)
  else if a = Reg.structOwnerProg then s.act (execStructOwnerProg v)
  else s.storeReg a v

/-- FAULT page (R519–R536). -/
def writeFault (p : Port) (a : Nat) (v : Word) : State :=
  let m := v &&& ~~~ s.lockMask a
  if a = Reg.faultStatusLo then s.statusClear false m.toNat
  else if a = Reg.faultStatusHi then s.statusClear true m.toNat
  else if a = Reg.faultForceLo then s.forceFaults p false m.toNat
  else if a = Reg.faultForceHi then s.forceFaults p true m.toNat
  else if a = Reg.faultForceArm then s.act (execFaultForceArm v)
  else if a = Reg.faultSoft then s.act (execFaultSoft v)
  else if a = Reg.faultFirst then s.when (s.wbit a v 30) fun t => t.act execFaultFirstRelease
  else if a = Reg.faultNmi then s.when (s.wbit a v 0) fun t => t.act execFaultNmiAck
  else if a = Reg.faultEpin then
    let t := (s.storeReg a v).putBit a 24 (s.bit a 24)
    if (s.lockMask a).toNat.testBit 24 then t else t.holdWrite (v.toNat.testBit 24)
  else s.storeReg a v

/-- INTC page (R537–R558). -/
def writeIntc (a : Nat) (v : Word) : State :=
  let m := v &&& ~~~ s.lockMask a
  if a = Reg.intcSw then s.when (s.wbit a v 0) fun t => t.act execIntcSwTest
  else if a = Reg.intcPendLo then s.act (execIntcPendClear false m)
  else if a = Reg.intcPendHi then s.act (execIntcPendClear true m)
  else if h : 0x30200 ≤ a ∧ a < 0x30280 ∧ a = Reg.intcTgtComplete ((a - 0x30200) / 32) then
    s.act (execIntcComplete ⟨(a - 0x30200) / 32, by omega⟩ v)
  else (s.storeReg a v).intcConfigured

/-! ### REFSEL, SYNTH, LOUPE and TIMEBASE -/

/-- REF_n_CTRL (R81, R103). -/
def writeRefCtrl (n : Fin 20) (v : Word) : State :=
  let a := Reg.refCtrl n
  let en := if (s.lockMask a).toNat.testBit 0 then s.bit a 0 else v.toNat.testBit 0
  let t := (s.storeReg a v).putBit a 0 (s.bit a 0)
  let t := if en = s.bit a 0 then t else if en then t.act (execRefEnable n) else t.act (execRefDisable n)
  t.when (s.wbit a v 8) fun t => t.act (execRefAccept n)

/-- REFSEL page (R72, R99–R109, R124, R125). -/
def writeRefsel (a : Nat) (v : Word) : State :=
  if h : 0x40000 ≤ a ∧ a < 0x41400 then
    let n := (a - 0x40000) / 256
    if a = Reg.refCtrl n then s.writeRefCtrl ⟨(a - 0x40000) / 256, by omega⟩ v
    else if h2 : 12 ≤ (a - 0x40000) / 256 ∧ a = Reg.refOfsCommit ((a - 0x40000) / 256) then
      s.act (execRefOfsCommit ⟨(a - 0x40000) / 256 - 12, by omega⟩ v)
    else if a = Reg.refTodSecHi n ∧ n < 4 then (s.storeReg a v).setRef n fun r => { r with labelWritten := true }
    else s.storeReg a v
  else if a = Reg.selCtrl then s.act (execSelCtrlWrite ((s.storeReg a v).rd a))
  else if a = Reg.selSlope then (s.storeReg a v).wrn a (max 1 (min 1000 ((s.storeReg a v).rdn a)))
  else if a = Reg.oscCtrl then
    let t := (s.storeReg a v).putBit a 0 (s.bit a 0)
    if (s.lockMask a).toNat.testBit 0 then t else t.act (execOscPreferWrite (if v.toNat.testBit 0 then 1 else 0))
  else if a = Reg.holdSnapCtrl then
    (s.when (s.wbit a v 0) fun t => t.act execHoldSnapExport).when (s.wbit a v 1) fun t => t.act execHoldSnapRestore
  else s.storeReg a v

/-- SYN_k_CTRL (R147–R154): PULL before the commands of the same write. -/
def writeSynCtrl (k : Fin 3) (v : Word) : State :=
  let a := Reg.synCtrl k
  let pull : Fin 8 := ⟨((s.storeReg a v).fld a Fld.synCtrl_PULL) % 8, Nat.mod_lt _ (by decide)⟩
  let t := s.act (execSynPullWrite k pull)
  let t := t.when (s.wbit a v 0) fun t => t.act (execSynTableReady k)
  let t := t.when (s.wbit a v 1) fun t => t.act (execSynSurvey k)
  t.when (s.wbit a v 2) fun t => t.act (execSynRelock k)

/-- OUT_n registers (R162–R170, R174). -/
def writeOut (n : Fin 12) (a : Nat) (v : Word) : State :=
  let b := Reg.outCtrl n
  let t0 := s.storeReg a v
  if a = Reg.outAlign n ∧ (t0.bit a 0 ≠ s.bit a 0 ∨ t0.fld a Fld.outAlign_INPUT ≠ s.fld a Fld.outAlign_INPUT) then t0.alignerNew n
  else if a = Reg.outOffset n then s.act (execOutOffsetWrite n ((s.storeReg a v).rd a))
  else if h : n.val < 8 then
    let t := s.storeReg a (if a = b then v &&& 0x3FF301 else v)
    if a = Reg.outDiv n then s.act (execOutSrcDivWrite ⟨n, h⟩ ⟨s.fld b Fld.outCtrl_SRC % 4, Nat.mod_lt _ (by decide)⟩ (t.rd a))
    else if a = b ∧ t.fld b Fld.outCtrl_SRC ≠ s.fld b Fld.outCtrl_SRC then
      (t.act (execOutSrcDivWrite ⟨n, h⟩ ⟨t.fld b Fld.outCtrl_SRC % 4, Nat.mod_lt _ (by decide)⟩ (t.rd (Reg.outDiv n)))).outRefresh n
    else if a = Reg.outWidth n then s else t.outRefresh n
  else if a = Reg.outDiv n then s
  else (s.storeReg a (if a = b then v &&& 0x7F else v)).outRefresh n

/-- SYNTH page. -/
def writeSynth (a : Nat) (v : Word) : State :=
  if h : 0x53000 ≤ a ∧ a < 0x53300 then s.writeOut ⟨(a - 0x53000) / 64, by omega⟩ a v
  else if h : 0x50000 ≤ a ∧ a < 0x53000 then
    let k : Fin 3 := ⟨(a - 0x50000) / 4096, by omega⟩
    if a = Reg.synCtrl k then s.writeSynCtrl k v
    else if a % 4096 < 0x100 then s.storeReg a v
    else if s.synState k = 2 then s
    else (s.storeReg a v).synCeilingShow k
  else s.storeReg a v

/-- LOUPE page (R176, R184–R193). -/
def writeLoupe (a : Nat) (v : Word) : State :=
  if h : 0x60000 ≤ a ∧ a < 0x60C00 then
    let n : Fin 12 := ⟨(a - 0x60000) / 256, by omega⟩
    if a = Reg.loupeCfg n then
      let old := s.fld a Fld.loupeCfg_MODE
      let t := s.storeReg a v
      let new := t.fld a Fld.loupeCfg_MODE
      let t := t.put a Fld.loupeCfg_MODE old
      if new = old then t else t.act (execLoupeModeWrite n ⟨new % 8, Nat.mod_lt _ (by decide)⟩)
    else if a = Reg.loupeCmd n then
      (s.when (s.wbit a v 0) fun t => t.act (execLoupeStart n)).when (s.wbit a v 1) fun t => t.act (execLoupeStop n)
    else s.storeReg a v
  else s.storeReg a v

/-- TIMEBASE page (R199–R222). -/
def writeTime (a : Nat) (v : Word) : State :=
  if h : 0x70000 ≤ a ∧ a < 0x71000 then
    let n : Fin 8 := ⟨(a - 0x70000) / 512, by omega⟩
    if regAbsent a then s
    else if a = Reg.tbCtrl n then
      let t := s.storeReg a v
      let src := t.fld a Fld.tbCtrl_SRC
      (t.put a Fld.tbCtrl_SRC (s.fld a Fld.tbCtrl_SRC)).act (execTbSrcWrite n ⟨src % 16, Nat.mod_lt _ (by decide)⟩)
    else if a = Reg.tbCmd n then
      if s.wbit a v 1 then s.act (execTbSet n) else s.when (s.wbit a v 0) fun t => t.act (execTbStep n)
    else if a = Reg.tbFadj n then s.act (execTbFadjWrite n ((s.storeReg a v).rd a))
    else if a = Reg.tbOfsCommit n then s.act (execTbOfsCommit n v)
    else if h2 : 0x100 ≤ a % 512 ∧ a % 512 < 0x180 ∧ a % 32 = 0 then
      let k : Fin 4 := ⟨(a % 512 - 0x100) / 32, by omega⟩
      let t := s.storeReg a v
      let arm := t.bit a 0
      if arm then (t.putBit a 0 (s.bit a 0)).act (execCmpArm n k (t.bit a 1)) else t.cmpDisarm n k
    else s.storeReg a v
  else if a = Reg.timeCmd then s.when (s.wbit a v 0) fun t => t.act execTimeSnap
  else if a = Reg.leapCommit then s.act (execLeapCommit v)
  else if h : 0x71060 ≤ a ∧ a < 0x71070 then
    let t := s.storeReg a v
    if t.on a Fld.tbevCfg_ENABLE then t else t.tbevLow ((a - 0x71060) / 4)
  else s.storeReg a v

/-! ### GNSS, LINE and QUEUE -/

/-- GNSS page (R231–R258). -/
def writeGnss (a : Nat) (v : Word) : State :=
  if a = Reg.gnssCtrl then (s.storeReg a v).gnssRefresh
  else if a = Reg.gnssAntCtrl then (s.storeReg a v).antRefresh
  else if a = Reg.gnssAcqCtrl then
    ((s.storeReg a v).when (s.wbit a v 0) fun t => t.act execGnssAcqStart).when (s.wbit a v 1) fun t => t.act execGnssAcqAbort
  else if h : 0xC0800 ≤ a ∧ a < 0xC0A00 ∧ a = Reg.jobCfg ((a - 0xC0800) / 32) then
    let j : Fin 16 := ⟨(a - 0xC0800) / 32, by omega⟩
    ((s.storeReg a v).when (s.wbit a v 0) fun t => t.act (execGnssJobGo j)).when (s.wbit a v 1) fun t => t.act (execGnssJobAbort j)
  else if h : 0xC1000 ≤ a ∧ a < 0xC2800 then
    let c : Fin 96 := ⟨(a - 0xC1000) / 64, by omega⟩
    if a = Reg.chCmd c then
      let t := s.when (s.wbit a v 0) fun t => t.act (execGnssChStart c)
      let t := t.when (s.wbit a v 1) fun t => t.act (execGnssChStop c)
      t.when (s.wbit a v 2) fun t => t.act (execGnssChUpdate c)
    else if a = Reg.chNav c then (s.storeReg a v).navRefresh c
    else s.storeReg a v
  else s.storeReg a v

/-- LINE page (R259–R288). -/
def writeLine (a : Nat) (v : Word) : State :=
  if h : 0x80000 ≤ a ∧ a < 0x90000 then
    let n : Fin 4 := ⟨(a - 0x80000) / 0x4000, by omega⟩
    if a = Reg.lineCtrl n then
      let t := s.storeReg a v
      let t := t.act (execLineEnableWrite n (t.bit a 0))
      let t := t.when (s.wbit a v 1) fun t => t.act (execLineBlkRst n)
      t.when (s.wbit a v 2) fun t => t.act (execLineCntClr n)
    else if a = Reg.lineAn n then (s.storeReg a v).lineJudge n
    else if a = Reg.linePause n then
      let t := s.storeReg a v
      if t.bit a 0 then t else t.pauseEnds n
    else s.storeReg a v
  else s

/-- QUEUE page (R278–R290): the entries that a tail write hands over are what host memory holds there, free values (log entry 42). -/
def writeQueue (a : Nat) (v : Word) : State :=
  if a = Reg.queueCtrl then
    let t := (s.storeReg a v).queueResume
    t.when (s.wbit a v 1) fun t => t.act execQueueBlkRst
  else if a = Reg.poolTail then s.act (execPoolTailWrite (((s.storeReg a v).rd a).setWidth 16) [])
  else if h : 0x141000 ≤ a ∧ a < 0x141400 ∧ a = Reg.rxqHead ((a - 0x141000) / 256) then
    s.act (execRxqHeadWrite ⟨(a - 0x141000) / 256, by omega⟩ (((s.storeReg a v).rd a).setWidth 16))
  else if h : 0x142000 ≤ a ∧ a < 0x142400 ∧ a = Reg.txqTail ((a - 0x142000) / 256) then
    s.act (execTxqTailWrite ⟨(a - 0x142000) / 256, by omega⟩ (((s.storeReg a v).rd a).setWidth 16) [])
  else (s.storeReg a v).queueResume

/-! ### PTP, NTS and KEYS -/

/-- Every PTP instance is judged again. -/
def ptpJudge : State := (List.range 4).foldl (fun (t : State) (n : Nat) => t.followJudge n) s.mJudgeAll

/-- PTP page (R291–R317): ENABLE ignores writes while PTP_CLOCK_ID is zero (R295); a change of PROFILE loads its defaults after the write. -/
def writePtp (a : Nat) (v : Word) : State :=
  if a = Reg.ptpCtrl then
    let t := s.storeReg a v
    (if s.clockId = 0 then t.putBit a 0 (s.bit a 0) else t).ptpJudge
  else if a = Reg.ptpUcSel then
    s.act (execPtpUcSelWrite ⟨((s.storeReg a v).rdn a) % 4096, Nat.mod_lt _ (by decide)⟩)
  else if h : 0x91000 ≤ a ∧ a < 0x91800 ∧ a = Reg.ptpMCfg ((a - 0x91000) / 512) then
    let t := s.storeReg a v
    let pr := t.fld a Fld.ptpMCfg_PROFILE
    if pr = s.fld a Fld.ptpMCfg_PROFILE then t.ptpJudge
    else (t.act (execPtpProfileWrite ⟨(a - 0x91000) / 512, by omega⟩ ⟨pr % 8, Nat.mod_lt _ (by decide)⟩)).ptpJudge
  else if 0x91000 ≤ a ∧ a < 0x91800 ∧ a = Reg.ptpMIntv ((a - 0x91000) / 512) then
    let n := (a - 0x91000) / 512
    let t := s.storeReg a v
    (t.wrn a (uns 8 (t.annLog n) * 2 ^ 24 + uns 8 (t.syncLog n) * 65536 + uns 8 (t.delayLog n) * 256 + t.rdn a % 16)).ptpJudge
  else (s.storeReg a v).ptpJudge

/-- NTS page (R318–R339). -/
def writeNts (a : Nat) (v : Word) : State :=
  if a = Reg.ntsRotCmd then s.act (execNtsRotCmd v)
  else if a = Reg.ntsMintCtrl then
    s.when (s.wbit a v 0) fun t => t.act (execNtsMint ⟨v.toNat / 2 % 8, Nat.mod_lt _ (by decide)⟩)
  else if Reg.ntsMintKey 0 ≤ a ∧ a ≤ Reg.ntsMintKey 15 then
    s.setNts fun x => { x with mintKey := x.mintKey.set 0 ((a - Reg.ntsMintKey 0) / 4) v }
  else (s.storeReg a v).ntsShow

/-- KEYS page (R341–R347): CLEAR with GO erases the target instead of loading it. -/
def writeKeys (p : Port) (a : Nat) (v : Word) : State :=
  if a = Reg.keysZeroize then s.act (execKeysZeroize v)
  else if a = Reg.keysBlobCtrl then
    ((s.storeReg a v).when (s.wbit a v 0) fun t => t.act execKeysBlobExport).when (s.wbit a v 1) fun t => t.act execKeysBlobRestore
  else if a = Reg.keysLoadCtrl then
    let k : Fin 32 := ⟨v.toNat / 256 % 32, Nat.mod_lt _ (by decide)⟩
    if !s.wbit a v 0 then s else if s.wbit a v 1 then s.act (execKeysClear k) else s.act (execKeysLoad p k)
  else if Reg.keysLoad 0 ≤ a ∧ a ≤ Reg.keysLoad 7 then
    s.setKeys fun k => { k with load := k.load.set 0 ((a - Reg.keysLoad 0) / 4) v }
  else (s.storeReg a v).ptpJudge

/-! ### STREAM, SERIAL, ROUTE, STORE and FACET -/

/-- STREAM page (R354–R383). -/
def writeStream (a : Nat) (v : Word) : State :=
  if h : 0xD0000 ≤ a ∧ a < 0xD6000 then
    let i : Fin 256 := ⟨(a - 0xD0000) / 96, by omega⟩
    let t := s.storeReg a v
    if a = Reg.rxCtrl i then t.act (execStreamRxEnable i (t.bit a 0))
    else if a = Reg.rxPlayout i ∧ t.bit a 31 = false then t.put a ⟨16, 12⟩ (s.fld a ⟨16, 12⟩)
    else t
  else if h : 0xD6000 ≤ a ∧ a < 0xDC000 then
    let i : Fin 256 := ⟨(a - 0xD6000) / 96, by omega⟩
    let t := s.storeReg a v
    if a = Reg.txCtrl i then (t.act (execStreamTxEnable i (t.bit a 0))).txJudge i else t
  else if a = Reg.streamCtrl then
    let t := s.storeReg a v
    if t.bit a 0 && !s.bit a 0 then
      (List.range 256).foldl (fun (u : State) (i : Nat) => if u.txState i = 1 then u.setTx i fun x => { x with mark := true } else u) t
    else t
  else if 0xDD000 ≤ a ∧ a < 0xDD400 then (s.storeReg a v).asrcRefresh ((a - 0xDD000) / 8)
  else if 0xDE000 ≤ a ∧ a < 0xDE400 then (s.storeReg a v).bridgeRefresh ((a - 0xDE000) / 4)
  else s.storeReg a v

/-- SERIAL page (R361–R366): the odd pin of an AES3 pair ignores writes. -/
def writeSerial (a : Nat) (v : Word) : State :=
  let n := (a - 0x180000) / 64
  if a < 0x180C00 then
    if s.saOdd n then s
    else
      let t := s.storeReg a v
      if a = Reg.saCfg n then t.saRefresh n false
      else if a = Reg.saSlot n then t.saRefresh n (t.rd a != s.rd a)
      else t
  else s.storeReg a v

/-- ROUTE page (R395, R399, R401): WRITE, staged with STAGE, before READ; RELEASE last. -/
def writeRoute (a : Nat) (v : Word) : State :=
  if a = Reg.tblCmd then
    if s.bit Reg.tblStatus 0 then s
    else
      let free (t : State) : State := t.putBit Reg.tblStatus 0 false
      let t := s.when (s.wbit a v 1) fun t => if s.wbit a v 2 then t.act execTblStage else t.act execTblWrite
      let keep := t.rd Reg.tblStatus
      let t := t.when (s.wbit a v 0) fun t => (free t).act execTblRead
      let t := t.when (s.wbit a v 3) fun t => (free t).act execTblRelease
      if s.wbit a v 1 then t.wr Reg.tblStatus (t.rd Reg.tblStatus ||| keep) else t
  else if a = Reg.routeCommit then
    if v = 1 then s.act execRouteCommit else s.when (v == 2) fun t => t.act execRouteDiscard
  else s.storeReg a v

/-- STORE page (R385, R392). -/
def writeStore (a : Nat) (v : Word) : State :=
  if a = Reg.storeCtrl then s.when (s.wbit a v 0) storeReset
  else if a = Reg.storeSplit then s.splitWrite ((s.storeReg a v).rdn a % 16384)
  else s.storeReg a v

/-- FACET page (R420, R423, R428, R433, R437). -/
def writeFacet (a : Nat) (v : Word) : State :=
  if h : 0x100000 ≤ a ∧ a < 0x140000 then
    let n : Fin 256 := ⟨(a - 0x100000) / 0x400, by omega⟩
    if a = Reg.facetCtrl n then
      let t := s.storeReg a v
      let oos := t.bit a 8
      let t := if oos = s.bit a 8 then t else (t.putBit a 8 (s.bit a 8)).act (execFacetOosWrite n oos)
      t.when (s.wbit a v 0) fun t => t.act (execFacetBlkRst n)
    else if a = Reg.facetTaskSel n then
      let t := s.storeReg a v
      let k : Fin 16 := ⟨t.rdn a % 16, Nat.mod_lt _ (by decide)⟩
      let t := t.when (s.wbit a v 30) fun u => u.act (execFacetSwap n k)
      t.when (s.wbit a v 31) fun u => u.act (execFacetMove n k ⟨u.fld a ⟨8, 8⟩ % 256, Nat.mod_lt _ (by decide)⟩)
    else if a = Reg.facetMailIn n then s.act (execFacetMailInWrite n v)
    else s.storeReg a v
  else s

/-! ### PAIR, CHAIN, AGEING and DRAM -/

/-- PAIR page (R468, R475, R491, R493, R498). -/
def writePair (a : Nat) (v : Word) : State :=
  if a = Reg.pairCmd then
    let t := s.when (s.wbit a v 0) fun t => t.act execPairHandover
    let t := t.when (s.wbit a v 1) fun t => t.act execPairLeave
    t.when (s.wbit a v 2) fun t => t.act execPairResync
  else if a = Reg.pairCtrl then (s.storeReg a v).pairLineJudge
  else s.storeReg a v

/-- CHAIN page (R500–R517). -/
def writeChain (a : Nat) (v : Word) : State :=
  if a = Reg.chainCtrl then (s.storeReg a v).chainRefresh
  else if a = Reg.partnerSel then s.act (execPartnerSelWrite ⟨(s.storeReg a v).rdn a % 1024, Nat.mod_lt _ (by decide)⟩)
  else s.storeReg a v

/-- AGEING page (R566, R574). -/
def writeAge (a : Nat) (v : Word) : State :=
  let t := s.storeReg a v
  if a = Reg.ageCtrl ∨ a = Reg.vidCtrl then t.vidManual else t

/-- DRAM page (R597–R606). -/
def writeDram (a : Nat) (v : Word) : State :=
  if a = Reg.dramCtrl then
    let t := s.storeReg a v
    t.act (execDramEnWrite (t.bit a 0))
  else if a = Reg.dramMrsCmd then
    s.when (s.wbit a v 3) fun t => t.act (execDramMrsCmd ⟨v.toNat % 8, Nat.mod_lt _ (by decide)⟩)
  else if a = Reg.dramTrainCtrl then
    (s.when (s.wbit a v 1) fun t => t.act execDramTrainAbort).when (s.wbit a v 0) fun t => t.act execDramTrainStart
  else if a = Reg.dramEccInject then
    (s.when (s.wbit a v 0) fun t => t.act execDramEccInjectSingle).when (s.wbit a v 1) fun t => t.act execDramEccInjectDouble
  else s.storeReg a v

/-! ### A write takes effect -/

/-- The effect of a write of `v` to the register at `a`, by page. -/
def writeEffect (p : Port) (a : Nat) (v : Word) : State :=
  match a / 0x10000 with
  | 0 => s.writeGlobal p a v
  | 1 => s.writeStruct a v
  | 2 => s.writeFault p a v
  | 3 => s.writeIntc a v
  | 4 => s.writeRefsel a v
  | 5 => s.writeSynth a v
  | 6 => s.writeLoupe a v
  | 7 => s.writeTime a v
  | 8 => s.writeLine a v
  | 9 => s.writePtp a v
  | 10 => s.writeNts a v
  | 11 => s.writeKeys p a v
  | 12 => s.writeGnss a v
  | 13 => s.writeStream a v
  | 14 => s.writeRoute a v
  | 15 => s.writeStore a v
  | 20 => s.writeQueue a v
  | 21 => s.writePair a v
  | 22 => s.writeChain a v
  | 23 => s.writeAge a v
  | 24 => s.writeSerial a v
  | 25 => s.writeDram a v
  | 26 => s.when (a == Reg.dbgCtrl && s.wbit a v 0) dbgClear
  | _ => s.writeFacet a v

/-- A write through the write latch of its port (R587): a _LO half is held; a _HI half writes both, with the held _LO of its pair or the one
in force. -/
def writeLatched (p : Port) (a : Nat) (v : Word) : State :=
  if pairOf a = 1 then s.setPort p fun x => { x with writeLatch := some (a, v) }
  else if pairOf a = 2 then
    let held := (s.portAt p).writeLatch
    let t := s.setPort p fun x => { x with writeLatch := none }
    let t := match held with
      | some (lo, w) => if lo + 4 = a then t.storeReg lo w else t
      | none => t
    t.writeEffect p a v
  else s.writeEffect p a v

/-- An accepted write takes effect; hold conditions are judged again (R561). -/
def commitWrite (p : Port) (a : Nat) (v : Word) : State := (s.writeLatched p a v).pgRefresh

/-! ### Mirrored writes (R491) -/

/-- The domain of a register's slot; A where it has none, or B where A is unused (log entry 43). -/
def mirrorDom (a : Nat) : Nat :=
  let d : Nat :=
    if 0xD0000 ≤ a ∧ a < 0xD6000 then s.rdn (Reg.rxSlot ((a - 0xD0000) / 96)) / 2 ^ 30
    else if 0xD6000 ≤ a ∧ a < 0xDC000 then s.rdn (Reg.txSlot ((a - 0xD6000) / 96)) / 2 ^ 30
    else if 0xDD000 ≤ a ∧ a < 0xDD400 then s.asrcDom ((a - 0xDD000) / 8)
    else if 0xDE000 ≤ a ∧ a < 0xDE400 then s.bridgeDst ((a - 0xDE000) / 4)
    else if 0x180000 ≤ a ∧ a < 0x180C00 then s.saDom ((a - 0x180000) / 64)
    else 0
  if d < 2 && s.domUsed d then d else if s.domUsed 0 then 0 else 1

/-- A mirrored write is accepted: it is queued for the boundary three after the present one in its domain, and sent to the partner in a WRITE
message (R482, R491). -/
def mirrorWrite (d space off : Nat) (v : Word) : State :=
  let b := ((s.domAt d).count + 3) % 2 ^ 32
  let t := s.setPair fun p => { p with writes := p.writes ++ [⟨d, b, space, off, v⟩] }
  t.ivernSend 2 0 [b * 2 ^ 32 + d * 2 ^ 30 + 1, space * 2 ^ 62 + off * 2 ^ 32 + v.toNat]

/-- A host write of `v` to BAR0 offset `a` through port `p` (R29, R491, R585–R589). -/
def hostWrite (p : Port) (a : Nat) (v : Word) : State :=
  if !s.running || (p == .spi && !s.ready) then s
  else match s.writeKind p a v with
    | some k => s.violation k p true false a
    | none =>
      let t := s.touch a
      if mirrored a && t.mirrors then t.mirrorWrite (t.mirrorDom a) 0 a v else t.commitWrite p a v

/-! ### Writes into BAR2 (R406, R579, R581) -/

/-- The octets of a write with their offsets, those whose byte enable is clear left out. -/
def bar2Octets : Nat → List (Option Byte) → List (Nat × Byte)
  | _, [] => []
  | o, none :: bs => bar2Octets (o + 1) bs
  | o, some b :: bs => (o, b) :: bar2Octets (o + 1) bs

/-- One octet reaches its window; the mint window keeps its cookies (R329). -/
def bar2Octet (o : Nat) (b : Byte) : State :=
  match s.windowAt o with
  | .staging => s.stagingWrite o [b]
  | .snapshot => s.setHold fun h => { h with window := h.window.set 0 (o - 0x1000000) b }
  | .blob => s.setKeys fun k => { k with window := k.window.set 0 (o - 0x1030000) b }
  | _ => s

/-- The octets of the word at `o` that a write enables. -/
def wordOctets (bs : List (Nat × Byte)) (o : Nat) : List Byte := (bs.filter fun e => e.1 / 4 * 4 == o).map (·.2)

/-- The offsets of the words that a write touches, ascending. -/
def wordOffsets (bs : List (Nat × Byte)) : List Nat := (bs.map fun e => e.1 / 4 * 4).eraseDups

/-- A word at `off` of lane `n`'s window lies in the code of a task whose home it is, or of one that the lane runs (R407). -/
def inTaskCode (n off : Nat) : Bool :=
  let p := off / 8
  decide (off < 0x4000) && (s.laneTasks (s.windowLane n fun x => inCode x p)).any fun t => inCode t p

/-- A whole word written to BAR2 offset `o` of a lane window takes effect. -/
def laneWrite (o : Nat) (v : Word) : State :=
  if h : 0x2000000 ≤ o ∧ o < 0x4000000 then
    s.act (execFacetMemWrite ⟨(o - 0x2000000) / 0x20000, by omega⟩ (BitVec.ofNat 17 ((o - 0x2000000) % 0x20000)) v)
  else s

/-- Offset `o` of BAR2 lies in an X or Y memory window, which is mirrored (R491). -/
def mirroredMem (o : Nat) : Bool := decide (0x2000000 ≤ o) && decide (0x8000 ≤ o % 0x20000) && decide (o % 0x20000 < 0x18000)

/-- A write into the lane memory windows: whole words one by one; a partial word, or one in a task's code, is ignored and the access is a violation. -/
def laneWrites (p : Port) (off : Nat) (bs : List (Nat × Byte)) : State :=
  let ws := wordOffsets bs
  let dark := ws.any fun o => s.groupDark ((o - 0x2000000) / 0x200000)
  let mirror := s.mirrors && ws.any mirroredMem
  if dark then s.violation 2 p true true off
  else if mirror && !s.mirrorWr then s.violation 7 p true true off
  else
    let whole := ws.filter fun o => (wordOctets bs o).length == 4
    let code := whole.any fun o => s.inTaskCode ((o - 0x2000000) / 0x20000) ((o - 0x2000000) % 0x20000)
    let good := whole.filter fun o => !s.inTaskCode ((o - 0x2000000) / 0x20000) ((o - 0x2000000) % 0x20000)
    let good := if s.spiLocked p 0xFFFFFFFF then [] else good
    let t := good.foldl (fun (t : State) (o : Nat) =>
      let g := (o - 0x2000000) / 0x200000
      let t := t.groupTouch g
      let v := BitVec.ofNat 32 (leNat (wordOctets bs o))
      if mirroredMem o && t.mirrors then t.mirrorWrite (t.mirrorDom 0) 1 o v else t.laneWrite o v) s
    if code then t.violation 8 p true true off
    else if s.spiLocked p 0xFFFFFFFF then t.violation 10 p true true off
    else if whole.length = ws.length then t else t.violation 11 p true true off

/-- A write of `data` into BAR2 from octet offset `off` through port `p`. -/
def bar2Write (p : Port) (off : Nat) (data : List (Option Byte)) : State :=
  if !s.running || (p == .spi && !s.ready) then s
  else
    let bs := bar2Octets off data
    if bs.any fun e => s.windowAt e.1 == .reserved then s.violation 1 p true true off
    else if 0x2000000 ≤ off then s.laneWrites p off bs
    else if s.spiLocked p 0xFFFFFFFF then s.violation 10 p true true off
    else bs.foldl (fun (t : State) (e : Nat × Byte) => t.bar2Octet e.1 e.2) s

end State

end Sys2Proof.Machine
end

