-- ==== Sys2Proof/Machine/Host.lean ====
section
/-!
DEFINITION. The rows of the host interface: register and window accesses of both ports, SPI transactions, PCIe events,
the watchdog, the doorbells, the chip reset by host software and the violation record (R64, R577–R595).
-/

namespace Sys2Proof.Machine

open Host (Outcome)

namespace State

variable (s : State)

/-- The identifiers in configuration space (R577): vendor, device, revision and class code. -/
def configIds : BitVec 16 × Nat × Nat × Nat := (s.otp.vendorId, 0x9256, s.rdn Reg.globalId % 256, 0x118000)

/-! ### SPI transactions (R582, R583) -/

/-- The whole words of octets clocked in, most significant bit first; a partial word is discarded. -/
def spiWords : List Byte → List Word
  | a :: b :: c :: d :: bs => BitVec.ofNat 32 (beNat [a, b, c, d]) :: spiWords bs
  | _ => []

/-- The four octets of a word as the port clocks them out. -/
def spiOctets (w : Word) : List Byte := beBytes 4 w.toNat

/-- Writes of successive words to BAR0 from `a`. -/
def spiWrites0 : State → Nat → List Word → State
  | s, _, [] => s
  | s, a, w :: ws => spiWrites0 (s.hostWrite .spi a w) (a + 4) ws

/-- Writes of successive words to BAR2 from `a`, each little-endian in the window. -/
def spiWrites2 : State → Nat → List Word → State
  | s, _, [] => s
  | s, a, w :: ws =>
    let s := if a < 0x4000000 then s.bar2Write .spi a ((leBytes 4 w.toNat).map some) else s.violation 1 .spi true true a
    spiWrites2 s (a + 4) ws

/-- Reads of successive words from BAR0 or, with `bar2`, BAR2: the octets on SPI_MISO, wait octets and the marker before each word. -/
def spiReads (bar2 : Bool) : State → Nat → List Nat → List Byte × State
  | s, _, [] => ([], s)
  | s, a, w :: ws =>
    let (v, t) : Word × State :=
      if !bar2 then s.hostRead .spi a else if a < 0x4000000 then s.bar2Read .spi a else (0, s.violation 1 .spi false true a)
    let (out, u) := spiReads bar2 t (a + 4) ws
    (List.replicate w 0xFF ++ [0x5A] ++ spiOctets v ++ out, u)

/-- The SPI port can be used (R64, R582). -/
def spiUsable : Bool := s.running && s.ready

/-! ### The PCIe endpoint (R577–R580) -/

/-- The PCIe interface is reset: its latches, Bus Master Enable, the power state, AER and the MSI-X capability with its table. -/
def pcieReset : State :=
  { s with
    host := { s.host with pcie := {}, busMaster := false, d3hot := false, aerLog := 0 },
    intc := { s.intc with vecPend := [], vecMask := [], msixEnable := false, funcMask := false } }

/-- The link goes down: fault 25 if it was up (R580). -/
def pcieLinkLost : State :=
  let t := s.raiseFaultIf s.host.linkUp 25 0
  ({ t with host := { t.host with linkUp := false } }).wr Reg.hostStatus 0

/-- DMA and MSI-X may run again (R286, R541, R580). -/
def pcieResume : State := s.queueResume.msixFlush

end State

/-! ### Accesses -/

/-- HOST_REGISTER_WRITE (R29, R579, R585–R589): a PCIe request beyond BAR0 hits no register. -/
def execHostRegisterWrite (p : Port) (addr : Nat) (value : Word) (s : State) : Res :=
  done (if p = .pcie ∧ 0x1000000 ≤ addr then s.send .unsupported else s.hostWrite p addr value)

/-- READ_LO_LATCH (R586). -/
def execReadLoLatch (p : Port) (addr : Nat) (s : State) : Res :=
  let r := s.hostRead p addr
  done (r.2.send (.hostRead p addr r.1))

/-- WRITE_LO_HOLD (R587). -/
def execWriteLoHold (p : Port) (addr : Nat) (value : Word) (s : State) : Res :=
  done (if State.pairOf addr = 1 then s.hostWrite p addr value else s)

/-- WRITE_HI_COMMIT (R587). -/
def execWriteHiCommit (p : Port) (addr : Nat) (value : Word) (s : State) : Res :=
  done (if State.pairOf addr = 2 then s.hostWrite p addr value else s)

/-- BAR2_WINDOW_WRITE (R579, R581). -/
def execBar2WindowWrite (p : Port) (off : BitVec 26) (data : List (Option Byte)) (s : State) : Res := done (s.bar2Write p off.toNat data)

/-- SPI_WRITE_BAR0 (R582–R584). -/
def execSpiWriteBar0 (addr : Word) (octets : List Byte) (s : State) : Res :=
  done (if s.spiUsable then State.spiWrites0 s (addr.toNat / 4 * 4) (State.spiWords octets) else s)

/-- SPI_READ_BAR0 (R582, R583). -/
def execSpiReadBar0 (addr : Word) (waits : List Nat) (s : State) : Res :=
  done (if s.spiUsable then
    let r := State.spiReads false s (addr.toNat / 4 * 4) waits
    r.2.send (.spiMiso r.1)
  else s)

/-- SPI_WRITE_BAR2 (R581–R584). -/
def execSpiWriteBar2 (addr : Word) (octets : List Byte) (s : State) : Res :=
  done (if s.spiUsable then State.spiWrites2 s (addr.toNat / 4 * 4) (State.spiWords octets) else s)

/-- SPI_READ_BAR2 (R581–R583). -/
def execSpiReadBar2 (addr : Word) (waits : List Nat) (s : State) : Res :=
  done (if s.spiUsable then
    let r := State.spiReads true s (addr.toNat / 4 * 4) waits
    r.2.send (.spiMiso r.1)
  else s)

/-- SPI_UNKNOWN_COMMAND (R582): the transaction is ignored, and SPI_MISO reads 0xFF throughout it. -/
def execSpiUnknownCommand (code : Byte) (n : Nat) (s : State) : Res :=
  done (if s.spiUsable && !([0x02, 0x03, 0x0A, 0x0B] : List Byte).contains code then s.send (.spiMiso (List.replicate n 0xFF)) else s)

/-! ### PCIe events -/

/-- PCIE_UNSUPPORTED_REQUEST (R579). -/
def execPcieUnsupportedRequest (s : State) : Res := done (s.send .unsupported)

/-- An error is logged in AER (R580). -/
def State.aer (s : State) : State := { s with host := { s.host with aerLog := s.host.aerLog + 1 } }

/-- PCIE_CORRECTABLE_ERROR (R580). -/
def execPcieCorrectableError (s : State) : Res := done (s.aer.raiseFault 24 0)

/-- PCIE_FATAL_ERROR (R580): an error reported as fatal, or the link going down while it was up. -/
def execPcieFatalError (linkDown : Bool) (s : State) : Res := done (if linkDown then s.pcieLinkLost else s.aer.raiseFault 25 0)

/-- PCIE_POISONED_WRITE (R580). -/
def execPciePoisonedWrite (s : State) : Res := done s.aer

/-- PCIE_PERST (R580). -/
def execPciePerst (s : State) : Res := done s.pcieLinkLost.pcieReset

/-- PCIE_FLR (R580). -/
def execPcieFlr (s : State) : Res := done s.pcieReset.queueReset

/-- PCIE_BME_CLEAR (R580). -/
def execPcieBmeClear (s : State) : Res := done { s with host := { s.host with busMaster := false } }

/-- PCIE_BME_SET (R580). -/
def execPcieBmeSet (s : State) : Res := done ({ s with host := { s.host with busMaster := true } }).pcieResume

/-- PCIE_DMA_READ_TIMEOUT (R283, R580): the frame at the head of the queue completes as DMA_ERROR. -/
def execPcieDmaReadTimeout (q : Fin 4) (s : State) : Res :=
  done (match State.txHead (s.txq q).descs with
  | .frame k =>
    if s.dmaOk && s.txqRuns q then
      let total := State.txTotal ((s.txq q).descs.take k)
      ((s.setTxq q fun x => { x with wire := none }).txComplete q k 5 total 0).txAdvanceAll
    else s
  | _ => s)

/-- PCIE_LINK_UP (R64, R577): the generation and the width are shown, and what waited for DMA goes on. -/
def execPcieLinkUp (gen : Fin 5) (width : Fin 5) (s : State) : Res :=
  done (if gen.val = 0 ∨ width.val = 0 ∨ width.val = 3 then s
  else (({ s with host := { s.host with linkUp := true } }).wrn Reg.hostStatus (gen.val * 65536 + width.val * 256 + 1)).pcieResume)

/-- PCIE_D3HOT (R577): D3hot stops DMA and MSI-X; the return to D0 resumes them. -/
def execPcieD3hot (enter : Bool) (s : State) : Res :=
  let t : State := { s with host := { s.host with d3hot := enter } }
  done (if enter then t else t.pcieResume)

/-! ### Watchdog, doorbells, reset and violations -/

/-- HOST_WDOG_KICK (R590). -/
def execHostWdogKick (p : Port) (value : Word) (s : State) : Res := done (s.wdogKick p value)

/-- HOST_WDOG_ENABLE (R590). -/
def execHostWdogEnable (value : Word) (s : State) : Res := done (s.wdogCtrl value)

/-- HOST_WDOG_EXPIRE (R590): while the watchdog counts and LEFT has reached 0. -/
def execHostWdogExpire (s : State) : Res :=
  done (s.when (s.host.wdogRun && s.bit Reg.hostWdogCtrl 0 && s.fld Reg.hostWdogStatus Fld.hostWdogStatus_LEFT == 0) State.wdogExpire)

/-- DOORBELL_SET (R591). -/
def execDoorbellSet (value : Word) (s : State) : Res := done (s.doorbell value)

/-- GLOBAL_RESET (R592): 0xC5 starts a chip reset; any other value is ignored. -/
def execGlobalReset (value : Word) (s : State) : Res := done (s.when (s.running && value == 0xC5) fun t => t.chipReset 2)

/-- DBG_CLR (R595). -/
def execDbgClr (s : State) : Res := done s.dbgClear

end Sys2Proof.Machine
end

