-- ==== Sys2Proof/Machine/Boundary.lean ====
section
/-!
DEFINITION. A sample boundary of domain A or B: every writer latches its slots from values latched at earlier boundaries (R20, R21, R387); and
the GRID edge that passes while no command waits.
-/

namespace Sys2Proof.Machine

/-- Run writers one after another: the words they write and the state after them. -/
def gather {α : Type} (f : State → α → List (Nat × Word) × State) : List α → State → List (Nat × Word) × State
  | [], s => ([], s)
  | x :: xs, s =>
    let r := f s x
    let q := gather f xs r.2
    (r.1 ++ q.1, q.2)

/-- A slot's word becomes zero in a list of words if `p` says so. -/
def muteWords (p : Nat → Bool) (ws : List (Nat × Word)) : List (Nat × Word) :=
  ws.map fun (e : Nat × Word) => if p e.1 then (e.1, 0) else e

namespace State

variable (s : State)

/-! ### The media count (R354, R355) -/

/-- The whole number k whose instant k ÷ f of domain `d` is nearest to TB_0: the one whose boundary this is (R354). -/
def nearCount (d : Nat) : Nat :=
  let (a, b) := s.rateQ d
  (2 * (s.tb 0).t * a + secondFine * b) / (2 * secondFine * b)

/-- Domain `d` counts the boundary: a change of pull that has taken effect counts afresh, with the marker and the ASRC of R355 and R358. -/
def countBoundary (d : Nat) : State :=
  let x := s.domAt d
  let p := (s.synE (d + 1)).pull
  if !x.run then
    let t := s.setDom d fun y => { y with run := true, pull := p, n := y.n + 1 }
    t.setDom d fun y => { y with count := t.nearCount d }
  else if p ≠ x.pull then
    let t := s.setDom d fun y => { y with pull := p, n := y.n + 1 }
    let t := t.setDom d fun y => { y with count := t.nearCount d }
    (t.domJump d).asrcDomChange d
  else s.setDom d fun y => { y with count := y.count + 1, n := y.n + 1 }

/-! ### The writers of a boundary -/

/-- The mirrored writes due now take effect, in order (R491). -/
def writesAt (d b : Nat) : State :=
  (s.writesDue d b).foldl (fun (t : State) (w : MirrorWrite) =>
    if w.space = 0 then t.commitWrite .pcie w.off w.value else t.laneWrite w.off w.value) (s.dropWrites d b)

/-- The running serial inputs of domain `d`. -/
def saInputs (d : Nat) : List Nat :=
  if s.pgState 24 = 0 then (List.range 48).filter fun n => (s.saAt n).enabled && s.saIn n && s.saDom n == d else []

/-- The receive entries of domain `d` that have their slots. -/
def rxOf (d : Nat) : List Nat := (s.audio.rx.map (·.1)).filter fun i => s.rxState i != 0 && (s.rxE i).dom == d

/-- The ASRC channels of domain `d` that have their slot. -/
def asrcOf (d : Nat) : List Nat :=
  (List.range s.asrcCount).filter fun c => (s.asrcE c).enabled && s.asrcDom c == d && s.ownerOf (s.rdn (Reg.asrcCfg c) % 8192) == .asrc c

/-- The ingress of a unit at a boundary (R489): serial inputs, receive entries and ASRC channels. -/
def ingress (d now b : Nat) : List (Nat × Word) × State :=
  let r := gather (fun (t : State) (n : Nat) => t.saIngress n now) (s.saInputs d) s
  let q := gather (fun (t : State) (i : Nat) => t.rxIngress i now b) (r.2.rxOf d) r.2
  let p := gather (fun (t : State) (c : Nat) => t.asrcIngress c) (q.2.asrcOf d) q.2
  (r.1 ++ q.1 ++ p.1, p.2)

/-- The words of the bridges into domain `d` at its boundary `k` (R356). -/
def bridgeWords (d k : Nat) : List (Nat × Word) × State :=
  gather (fun (t : State) (i : Nat) => t.bridgeIngress i k) (s.bridgesInto d) s

/-- The words of the mix buses of domain `d` (R396). -/
def busWords (d : Nat) : List (Nat × Word) × State :=
  gather (fun (t : State) (e : Nat × Nat) => let r := t.evalBus d e.1; ([(e.2, r.1)], r.2))
    ((s.store.buses.filter fun e => busRuns e.2 && s.slotDom (dstOfW e.2.w0) == d).map fun e => (e.1, dstOfW e.2.w0)) s

/-- The words of the delay lines of domain `d` at its boundary `k` (R389, R391); `absent` names lines whose page is not present. -/
def lineWords (d k : Nat) (absent : List Nat) : List (Nat × Word) × State :=
  gather (fun (t : State) (e : Nat × Nat) => let r := t.evalLine e.1 k (absent.contains e.1); ([(e.2, r.1)], r.2))
    ((s.store.lines.filter fun e => lineRuns e.2 && s.slotDom (dstOfW e.2.w0) == d).map fun e => (e.1, dstOfW e.2.w0)) s

/-! ### Routes (R21, R387, R393, R394) -/

/-- The running route entries of domain `d`, lowest index first. -/
def routesOf (d : Nat) : List (Nat × RouteE) :=
  s.store.routes.filter fun e => s.routeRuns e.2 && s.slotDom (dstOfW e.2.w0) == d

/-- A route entry loses its slot: another writer has it, or a route entry of lower index in `before` (R21, R387). -/
def routeLoses (before : List (Nat × RouteE)) (e : RouteE) : Bool :=
  s.ownerOf (dstOfW e.w0) != .none || before.any fun (x : Nat × RouteE) => dstOfW x.2.w0 == dstOfW e.w0

/-- A route loses: fault 8, ROUTE_CONFLICT and LOSES. -/
def routeConflict (i slot : Nat) : State :=
  (((s.incSat Reg.routeConflict ⟨16, 16⟩).put Reg.routeConflict ⟨0, 13⟩ slot).raiseFault 8 slot).setRoute i fun e => { e with loses := true }

/-- The words of the route entries `es`, those before them in `before`; the losing ones write nothing. -/
def routeWords : List (Nat × RouteE) → List (Nat × RouteE) → State → List (Nat × Word) × State
  | _, [], s => ([], s)
  | before, e :: es, s =>
    let dst := dstOfW e.2.w0
    if s.routeLoses before e.2 then routeWords before es (s.routeConflict e.1 dst)
    else
      let (w, c) := gainWord (s.slot (srcOfW e.2.w0)) e.2.w1
      let t := (s.satCount c dst).setRoute e.1 fun x => { x with loses := false }
      let r := routeWords (before ++ [e]) es t
      ((dst, w) :: r.1, r.2)

/-- The slots that the running serial outputs of domain `d` read. -/
def outputReads (d : Nat) : List Nat :=
  ((List.range 48).filter fun n => (s.saAt n).enabled && s.saOut n && s.saDom n == d).flatMap s.saReads

/-- Whether a slot belongs to a serial input. -/
def serialWritten (i : Nat) : Bool := match s.ownerOf i with | .sa _ => true | _ => false

/-- Entry `e` is a direct route of domain `d` (R394); log entry 44 says how the second condition is read. -/
def directOk (reads : List Nat) (es : List (Nat × RouteE)) (e : RouteE) : Bool :=
  let cand (x : RouteE) : Bool := x.w0.toNat.testBit 30 && s.serialWritten (srcOfW x.w0) && reads.contains (dstOfW x.w0)
  cand e && !es.any fun (x : Nat × RouteE) => cand x.2 && dstOfW x.2.w0 == srcOfW e.w0

/-- DIRECT_OK of the entries of domain `d`, and the words that direct routes carry in this SP, from the words `ws` just written (R394). -/
def directRoutes (d : Nat) (ws : List (Nat × Word)) : State :=
  let es := s.routesOf d
  let reads := if es.any fun e => e.2.w0.toNat.testBit 30 then s.outputReads d else []
  let t := s.setStore fun x => { x with direct := x.direct.filter fun e => s.slotDom e.1 != d }
  es.foldl (fun (u : State) (e : Nat × RouteE) =>
    let ok := s.directOk reads es e.2
    let u := u.setRoute e.1 fun x => { x with direct := ok }
    if ok && !(s.routeE e.1).loses && !s.regionMuted 16 then
      match ws.find? fun (x : Nat × Word) => x.1 == srcOfW e.2.w0 with
      | some x => u.setStore fun y => { y with direct := SMap.ins (dstOfW e.2.w0) (gainWord x.2 e.2.w1).1 (SMap.del y.direct (dstOfW e.2.w0)) }
      | none => u
    else u) t

/-! ### The boundary -/

/-- The slots of domain `d` take the words `ws`. -/
def latchSlots (ws : List (Nat × Word)) : State :=
  s.setStore fun x => { x with slots := ws.foldl (fun (m : SMap Word) (e : Nat × Word) => m.set 0 e.1 e.2) x.slots }

/-- Every slot of domain `d` is metered (R399). -/
def meterSlots (d : Nat) : State :=
  let t := (s.store.slots.filter fun e => s.slotDom e.1 == d).foldl (fun (u : State) (e : Nat × Word) => u.meterWord e.1 e.2) s
  t.setDom d fun x => { x with meterN := x.meterN + 1 }

/-- The regions that stay muted after this boundary are those being applied, and those that cannot be (R56, R57). -/
def unmute : State := s.setLoader fun l => { l with muted := (s.rdn Reg.structRegionBusy % 2 ^ 20) ||| l.dead }

/-- The words of transmit entries of domain `d` are read (R370). -/
def txAt (d b : Nat) : State :=
  if s.streamEn then
    (List.range 256).foldl (fun (t : State) (i : Nat) =>
      if (t.txState i = 1 ∨ t.txState i = 2) ∧ t.txDom i = d then t.txBoundary i b else t) s
  else s

/-- Every word a boundary `b`, number `now`, of domain `d` writes, in the order in which later words replace earlier ones. -/
def boundaryWords (d now b : Nat) (absent : List Nat) : List (Nat × Word) × State :=
  let gone := (s.store.clear.filter fun i => s.slotDom i == d).map fun (i : Nat) => (i, (0 : Word))
  let s0 := s.setStore fun x => { x with clear := x.clear.filter fun i => s.slotDom i != d }
  let own := s0.ingress d now b
  let ing := (own.2.mirrorSend d b own.1).ingressMerge d b own.1
  let br := ing.2.bridgeWords d b
  let fc := br.2.facetLatch d
  let bu := fc.2.busWords d
  let ln := bu.2.lineWords d now absent
  let rt := routeWords [] (ln.2.routesOf d) ln.2
  let m := s.loader.muted
  let quiet (i : Nat) : Bool := match (s.ownerOf i).region with | some r => m.testBit r | none => false
  let mine := muteWords quiet (ing.1 ++ br.1 ++ fc.1 ++ bu.1 ++ ln.1)
  (gone ++ muteWords (fun _ => m.testBit 16) rt.1 ++ mine, rt.2)

/-- A boundary of used domain `d`. -/
def boundary (d : Nat) (absent : List Nat) : State :=
  let t := s.countBoundary d
  let b := (t.domAt d).count
  let now := (t.domAt d).n
  let t := ((t.lockBoundary d b).writesAt d b).tablesAt d b
  let r := t.boundaryWords d now b absent
  let t := (((r.2.latchSlots r.1).bridgeTake d b).directRoutes d r.1).meterSlots d
  (((t.facetBoundary d).unmute).txAt d b).digestBoundary d b

/-! ### The GRID edge (R199, R590) -/

/-- The watchdog counts a millisecond of GRID time that has ended since `from_` (R590). -/
def wdogTick (from_ : Nat) : State :=
  s.when (s.host.wdogRun && s.bit Reg.hostWdogCtrl 0 && s.edges / gridUs 1000 != from_ / gridUs 1000) fun t =>
    t.put Reg.hostWdogStatus Fld.hostWdogStatus_LEFT (t.fld Reg.hostWdogStatus Fld.hostWdogStatus_LEFT - 1)

/-- What passes while no command waits: one GRID edge (log entry 3). -/
def idleStep : State := s.idle.xStreams.wdogTick s.edges

end State

/-! ### The row -/

/-- A slot's word is read with a parity error (R392): it is replaced by zero with all flags clear; fault 4 names its store page of 4 KiB. -/
def State.storeUpset (s : State) (i : Nat) : State := (s.latchSlots [(i, 0)]).raiseFault 4 (i / 1024)

/-- SAMPLE_BOUNDARY (R20): one boundary of domain `dom`, if the structure uses it, after the words of `upset` were found bad (R392). -/
def execSampleBoundary (dom : Fin 2) (absent : List (Fin 2048)) (upset : List (Fin 8192)) (s : State) : Res :=
  done (if s.domUsed dom then
    ((upset.filter fun i => s.slotDom i.val == dom.val).foldl (fun (t : State) (i : Fin 8192) => t.storeUpset i.val) s).boundary dom (absent.map (·.val))
  else s)

end Sys2Proof.Machine
end

