-- ==== Sys2Proof/Machine/Flags.lean ====
section
/-!
DEFINITION. Rounding, saturation and conditions of the Facet lanes (R441, R442, R446, R452): the values they compute and the sticky flag.
-/

namespace Sys2Proof.Machine

/-- An accumulator as a signed number. -/
abbrev accI (v : BitVec 56) : Int := v.toInt

/-- Round a number at bit 24 under SR.RM (R440, R442): the number of units of bit 24.  0 and 3 nearest, ties away from zero; 1 nearest, ties to
even; 2 toward −∞. -/
def roundAt24 (rm : Nat) (v : Int) : Int :=
  let q := v / 2 ^ 24
  let r := v % 2 ^ 24
  if rm = 2 then q
  else if r < 2 ^ 23 then q
  else if 2 ^ 23 < r then q + 1
  else if rm = 1 then (if q % 2 = 0 then q else q + 1)
  else if v < 0 then q else q + 1

/-- An accumulator converted to 24 bits (R442): FM 0 rounds and, under SM, saturates; FM 1 takes bits [23:0].  The Bool is true when the conversion
has saturated, which sets SR.SV. -/
def accTo24 (fm : Bool) (rm : Nat) (sm : Bool) (v : BitVec 56) : BitVec 24 × Bool :=
  if fm then (v.setWidth 24, false)
  else
    let r := roundAt24 rm (accI v)
    if sm && (r < -2 ^ 23 || 2 ^ 23 ≤ r) then (if r < 0 then 0x800000 else 0x7FFFFF, true)
    else (BitVec.ofInt 24 r, false)

/-- A branch condition 0–8 on a tested value and SR.SV (R452); the others are no condition. -/
def condHolds (cond : Nat) (v : Int) (sv : Bool) : Bool :=
  match cond with
  | 0 => true
  | 1 => v == 0
  | 2 => v != 0
  | 3 => decide (v < 0)
  | 4 => decide (0 ≤ v)
  | 5 => decide (0 < v)
  | 6 => decide (v ≤ 0)
  | 7 => sv
  | 8 => !sv
  | _ => false

/-- A product of the MAC slot (R441): fractional products are doubled, INT products are not. -/
def macProduct (int : Bool) (a b : Int) : Int := if int then a * b else 2 * (a * b)

end Sys2Proof.Machine
end

