-- ==== Sys2Proof/Machine/Isa.lean ====
section
/-!
DEFINITION. The Facet instruction set (ch. 15): what a lane does when it issues a bundle, its pipeline, ports, traps, loops and interrupts; one
meaning for each operation.
-/

namespace Sys2Proof.Machine

/-- What a lane is running: a period task (PINNED or not), the GNSS_LOOP program, or a lent routine. -/
inductive Who where
  | task (id : Nat) (pinned : Bool)
  | loop
  | lent (job : Nat)
deriving DecidableEq, Repr

/-- Whether mailboxes, channels and interrupts are open to it (R454, R459). -/
def Who.open_ : Who → Bool
  | .task _ p => p
  | .loop => true
  | .lent _ => false

/-! ### The pipeline (R455–R457) -/

namespace Ctx

/-- The result of a MAC-slot operation in stage C (R441, R446). -/
def macCommit (c : Ctx) (p : MacOp) : Ctx :=
  let int := p.aux.testBit 1
  let pr (a b : Int) : Int := macProduct int a b
  let d1 := if p.d % 2 = 0 then p.d + 1 else p.d - 1
  let acc (i : Nat) : Int := (c.ac i).toInt
  let bq := if p.aux.testBit 0 then -p.xb1 else p.xb1
  let ci := pr p.xa p.xb - pr p.xa1 bq
  let cq := pr p.xa bq + pr p.xa1 p.xb
  let src := acc p.sel
  match p.op with
  | 0x01 => c.setAcc p.d (pr p.xa p.xb)
  | 0x02 => c.setAcc p.d (acc p.d + pr p.xa p.xb)
  | 0x03 => c.setAcc p.d (acc p.d - pr p.xa p.xb)
  | 0x04 => (c.setAcc p.d (pr p.xa p.xb)).setAcc d1 (pr p.xa1 p.xb1)
  | 0x05 => (c.setAcc p.d (acc p.d + pr p.xa p.xb)).setAcc d1 (acc d1 + pr p.xa1 p.xb1)
  | 0x06 => (c.setAcc p.d (acc p.d - pr p.xa p.xb)).setAcc d1 (acc d1 - pr p.xa1 p.xb1)
  | 0x08 => (c.setAcc p.d ci).setAcc d1 cq
  | 0x09 => (c.setAcc p.d (acc p.d + ci)).setAcc d1 (acc d1 + cq)
  | 0x0A => (c.setAcc p.d (acc p.d - ci)).setAcc d1 (acc d1 - cq)
  | 0x10 => c.setAcc p.d 0
  | 0x11 => c.setAcc p.d src
  | 0x12 => c.setAcc p.d (acc p.d + src)
  | 0x13 => c.setAcc p.d (acc p.d - src)
  | 0x14 => c.setAcc p.d (-src)
  | 0x15 => c.setAcc p.d (if src < 0 then -src else src)
  | 0x16 =>
    let k := sgn 6 (p.aux % 64)
    c.setAcc p.d (if 0 ≤ k then src * 2 ^ k.toNat else src / 2 ^ (-k).toNat)
  | 0x17 => c.setAcc p.d (p.xa * 2 ^ 24 + uns 24 p.xa1)
  | 0x18 => c.setAcc p.d (max (-2 ^ 47) (min (2 ^ 47 - 1) src))
  | 0x19 => c.setAcc p.d (roundAt24 p.rm src * 2 ^ 24)
  | _ => c

/-- The MAC operation of the bundle two before lands (R456). -/
def macLand (c : Ctx) : Ctx :=
  match c.macs with
  | some p :: q :: r => { c.macCommit p with macs := q :: r }
  | none :: q :: r => { c with macs := q :: r }
  | _ => c

/-- The loads of the bundle before land (R456). -/
def loadLand (c : Ctx) : Ctx := { c.loads.foldl (fun d e => d.setX e.1 e.2) c with loads := [] }

/-- Every bundle issued completes (R458, R460). -/
def drain (c : Ctx) : Ctx :=
  let c := c.loadLand
  { c.macs.foldl (fun d m => match m with | some p => d.macCommit p | none => d) c with macs := [] }

/-- The next address in sequence (R453): at the END of the innermost level the body starts again, or the level is popped. -/
def seqNext : List LoopLv → Nat → List LoopLv × Nat
  | [], p => ([], p + 1)
  | l :: ls, p =>
    if l.stop ≠ p then (l :: ls, p + 1)
    else if 1 < l.count then ({ l with count := l.count - 1 } :: ls, l.start)
    else seqNext ls p

end Ctx

/-! ### Checks of the slots (R445–R451, R458): the trap causes of an encoding -/

/-- The causes a MAC slot gives. -/
def macBad (mac : Nat) (cplx : Bool) : List Nat :=
  let op := mac / 2 ^ 18
  let odd := (mac / 2 ^ 16).testBit 0 || (mac / 2 ^ 13).testBit 0 || (mac / 2 ^ 10).testBit 0
  let aux := mac % 1024
  if op = 0 then (if mac = 0 then [] else [1])
  else if op ≤ 6 then (if aux / 4 = 0 then [] else [1])
  else if 8 ≤ op ∧ op ≤ 10 then
    (if aux / 4 = 0 then [] else [1]) ++ (if cplx then [] else [2]) ++ (if odd then [3] else [])
  else if op = 0x10 then (if mac % 2 ^ 16 = 0 then [] else [1])
  else if op = 0x16 then (if mac.testBit 15 || mac / 2 ^ 10 % 8 != 0 || aux / 64 != 0 then [1] else [])
  else if op = 0x17 then (if mac % 2 ^ 13 = 0 then [] else [1])
  else if 0x11 ≤ op ∧ op ≤ 0x19 then (if mac.testBit 15 || mac % 2 ^ 13 != 0 then [1] else [])
  else [1]

/-- The causes a move slot gives by its encoding. -/
def moveBad (m : Nat) : List Nat :=
  let kind := m / 2 ^ 17
  let low := m % 64
  let src := m / 64 % 8
  let r := m / 2 ^ 10 % 8
  let addr := m / 2 ^ 13 % 16
  let fm := m.testBit 9
  let ill : Bool :=
    match kind with
    | 0 => m != 0
    | 1 | 2 | 3 => low != 0 || src != 0
    | 4 => low != 0 || src != 0 || 4 ≤ r
    | 5 => low != 0 || addr != 0 || fm
    | 6 => low != 0 || addr != 0 || 4 ≤ src
    | _ => true
  (if ill then [1] else []) ++ (if kind = 2 ∧ r % 2 = 1 then [3] else [])

/-- The causes an integer slot gives by its encoding. -/
def intBad (i : Nat) : List Nat :=
  let aop := i / 2 ^ 34
  let dst := i / 2 ^ 29 % 32
  let src := i / 2 ^ 24 % 32
  let imm := i % 2 ^ 24
  let ill : Bool :=
    match aop with
    | 0 => dst != 0 || src != 0 || imm != 0
    | 1 => src != 0
    | 2 | 4 | 5 | 12 | 13 => imm != 0
    | 3 | 6 | 7 | 8 => false
    | 9 | 10 | 11 => 32 ≤ imm
    | _ => true
  if ill then [1] else []

/-- Whether a control operation has delay slots (R451). -/
def ctlDelays (cop : Nat) : Bool := (1 ≤ cop && cop ≤ 7) || cop == 0x0B

/-- The reserved operand bits of a control slot are zero (R451). -/
def ctlFieldsOk (c : Nat) : Bool :=
  let cop := c / 2 ^ 33
  let o := c % 2 ^ 33
  let cond := o / 2 ^ 29
  let creg := o / 2 ^ 23 % 32
  let condOk : Bool := decide (cond ≤ 8) && (!o.testBit 28 || decide (creg < 4))
  match cop with
  | 0x00 | 0x04 | 0x07 | 0x08 | 0x09 | 0x0A | 0x0B => o == 0
  | 0x01 | 0x02 => condOk && o / 2 ^ 11 % 2 ^ 12 == 0
  | 0x03 => condOk && o % 2 ^ 23 == 0
  | 0x05 => o / 2 ^ 11 % 2 ^ 6 == 0
  | 0x06 => o / 2 ^ 28 == 0 && o / 2 ^ 11 % 2 ^ 12 == 0
  | 0x0C | 0x0D => o / 2 ^ 27 == 0 && o % 2 ^ 25 == 0
  | 0x0E | 0x0F => o / 2 ^ 27 == 0 && o % 2 ^ 14 == 0
  | 0x10 => o < 256
  | _ => false

namespace State

variable (s : State)

/-! ### Who runs, and its registers -/

/-- What lane `n` is running now (R413, R430, R431): a lent routine only after the last task of the SP. -/
def whoRuns (n : Nat) : Option Who :=
  let x := s.laneF n
  if x.loopRun then some .loop
  else match x.cur with
    | some k => match s.task? k with
      | some t => some (.task k t.pinned)
      | none => none
    | none => match x.lent with
      | some j => if x.todo = [] then some (.lent j) else none
      | none => none

/-- The register set it uses. -/
def ctxOf (n : Nat) (w : Who) : Ctx := match w with | .lent _ => (s.laneF n).bg | _ => (s.laneF n).ctx

/-- Store the register set. -/
def setCtx (n : Nat) (w : Who) (c : Ctx) : State :=
  s.setLaneF n fun x => match w with | .lent _ => { x with bg := c } | _ => { x with ctx := c }

/-- IPEND (R459). -/
def ipend (n : Nat) : Nat :=
  let x := s.laneF n
  let chan := (List.range 32).any fun i => x.chmask.toNat.testBit i && !(s.chanOf n i).isEmpty
  let gnss := x.role == 2 && s.laneReads && !s.gnss.dump.entries.isEmpty
  (!x.mailIn.isEmpty).toNat + 2 * chan.toNat + 4 * x.tickPend.toNat + 8 * gnss.toNat + 16 * x.softPend.toNat

/-- A register by its code (R439), extended to 24 bits: M sign-extended, the others with zeros. -/
def regRead (n : Nat) (c : Ctx) (code : Nat) : BitVec 24 :=
  let x := s.laneF n
  if code < 8 then c.xr code
  else if code < 12 then (c.a.getD (code - 8) 0).setWidth 24
  else if code < 16 then (c.m.getD (code - 12) 0).signExtend 24
  else if code < 20 then (c.l.getD (code - 16) 0).setWidth 24
  else match code with
    | 20 => BitVec.ofNat 24 c.sr
    | 21 => c.ra.setWidth 24
    | 22 => x.ivec.setWidth 24
    | 23 => x.ien.setWidth 24
    | 24 => BitVec.ofNat 24 (s.ipend n)
    | 25 => c.isavePc.setWidth 24
    | 26 => c.isaveSr
    | 27 => BitVec.ofNat 24 x.tcause
    | 28 => BitVec.ofNat 24 x.taddr
    | 29 => BitVec.ofNat 24 (x.chmask.toNat % 65536)
    | 30 => BitVec.ofNat 24 (x.chmask.toNat / 65536)
    | _ => c.cyc

/-- Write a register by its code (R439): the low bits that fit; a read-only one ignores it. -/
def regWrite (n : Nat) (c : Ctx) (code : Nat) (v : BitVec 24) : Ctx × State :=
  let k := v.toNat
  if code < 8 then (c.setX code v, s)
  else if code < 12 then ({ c with a := c.a.set (code - 8) (v.setWidth 13) }, s)
  else if code < 16 then ({ c with m := c.m.set (code - 12) (v.setWidth 13) }, s)
  else if code < 20 then ({ c with l := c.l.set (code - 16) (v.setWidth 13) }, s)
  else match code with
    | 20 => (c.setSr k, s)
    | 21 => ({ c with ra := v.setWidth 11 }, s)
    | 22 => (c, s.setLaneF n fun x => { x with ivec := v.setWidth 11 })
    | 23 => (c, s.setLaneF n fun x => { x with ien := v.setWidth 5 })
    | 24 => (c, s.setLaneF n fun x => { x with tickPend := x.tickPend && !k.testBit 2, softPend := x.softPend && !k.testBit 4 })
    | 25 => ({ c with isavePc := v.setWidth 11 }, s)
    | 26 => ({ c with isaveSr := v }, s)
    | 29 => (c, s.setLaneF n fun x => { x with chmask := BitVec.ofNat 32 (x.chmask.toNat / 65536 * 65536 + k % 65536) })
    | 30 => (c, s.setLaneF n fun x => { x with chmask := BitVec.ofNat 32 (x.chmask.toNat % 65536 + k % 65536 * 65536) })
    | _ => (c, s)

/-! ### Ports (R454) -/

/-- Whether a port may be read by `w`. -/
def portIn (w : Who) (port : Nat) : Bool :=
  if port ≤ 0x02 ∨ (0x20 ≤ port ∧ port ≤ 0x40) then port != 0x01 && w.open_
  else if port = 0x41 ∨ port = 0x48 ∨ port = 0x49 then true
  else if 0x60 ≤ port ∧ port ≤ 0x62 then w == .loop && s.laneReads
  else if port = 0x68 ∨ port = 0x6A then (match w with | .lent _ => true | _ => false)
  else false

/-- Whether a port may be written by `w`. -/
def portOut (w : Who) (port : Nat) : Bool :=
  if port = 0x01 ∨ (0x20 ≤ port ∧ port ≤ 0x40) then w.open_
  else if 0x50 ≤ port ∧ port ≤ 0x55 then w == .loop
  else if port = 0x69 ∨ port = 0x6B then (match w with | .lent _ => true | _ => false)
  else false

/-- One word of the oldest record of a GNSS FIFO, in order: position `pos` of `width`; at the first the record leaves the FIFO. -/
def recordWord (q : Fifo) (pos : Nat) : Option (Word × Fifo) :=
  if pos = 0 then (match q.entries with
    | [] => none
    | e :: es => some (e.headD 0, { q with entries := es, last := e }))
  else some (q.last.getD pos 0, q)

/-- A word read from a permitted port, or none while it is empty. -/
def portRead (n : Nat) (w : Who) (port : Nat) : Option (Word × State) :=
  let x := s.laneF n
  if port = 0x00 then (match x.mailIn with
    | [] => none
    | v :: vs => some (v, (s.setLaneF n fun y => { y with mailIn := vs }).mailShow n))
  else if port = 0x02 then some (BitVec.ofNat 32 (x.mailIn.length * 65536 + x.mailOut.length), s)
  else if port < 0x40 then (match s.chanOf n (port - 0x20) with
    | [] => none
    | v :: vs => some (v, s.setFacet fun f => { f with chans := f.chans.set [] (n / 16 * 32 + (port - 0x20)) vs }))
  else match port with
    | 0x40 => some (BitVec.ofNat 32 (s.facet.chanOvr.get 0 (n / 16)), s)
    | 0x41 => some (BitVec.ofNat 32 (n * 256 + x.role * 16 + (s.laneCplx n).toNat), s)
    | 0x48 => some (BitVec.ofNat 32 (s.tick 0), s.setLaneF n fun y => { y with tickHi := BitVec.ofNat 32 (s.tick 0 / 2 ^ 32) })
    | 0x49 => some (x.tickHi, s)
    | 0x60 => match recordWord s.gnss.dump s.gnss.dumpPos with
      | none => none
      | some (v, q) => some (v, (s.setGnss fun g => { g with dump := q, dumpPos := (g.dumpPos + 1) % 10 }).gnssFill)
    | 0x61 => match recordWord s.gnss.nav s.gnss.navPos with
      | none => none
      | some (v, q) => some (v, (s.setGnss fun g => { g with nav := q, navPos := (g.navPos + 1) % 16 }).gnssFill)
    | 0x62 => some (BitVec.ofNat 32 (s.gnss.dump.entries.length * 65536 + s.gnss.nav.entries.length), s)
    | 0x68 =>
      let j := match w with | .lent j => j | _ => 0
      let regs := [Reg.jobCfg j, Reg.jobDoppMin j, Reg.jobDoppBins j, Reg.gnssAcqT0Lo, Reg.gnssAcqT0Hi, Reg.gnssAcqCtrl, Reg.gnssAcqMix]
      some (s.rd (regs.getD x.jobPos 0), s.setLaneF n fun y => { y with jobPos := (y.jobPos + 1) % 7 })
    | _ => some (s.gnss.cap.get 0 x.capAddr, s.setLaneF n fun y => { y with capAddr := (y.capAddr + 1) % 65536 })

/-- A word written to a permitted port (R433, R434, R454). -/
def portWrite (n : Nat) (w : Who) (port : Nat) (v : Word) : State :=
  if port = 0x01 then s.mailOutPush n v
  else if port < 0x40 then s.chanPush n (port - 0x20) v
  else match port with
    | 0x40 => s.setFacet fun f => { f with chanOvr := f.chanOvr.set 0 (n / 16) (f.chanOvr.get 0 (n / 16) &&& (2 ^ 32 - 1 - v.toNat)) }
    | 0x50 => s.wr (Reg.refOfsLo 16) v
    | 0x51 => s.wr (Reg.refOfsLo 16 + 4) v
    | 0x52 => s.wr (Reg.refOfsTimeLo 16) v
    | 0x53 => s.wr (Reg.refOfsTimeLo 16 + 4) v
    | 0x54 => s.wr (Reg.refOfsUnc 16) v
    | 0x55 => if v = 1 then s.ofsOffer 16 (s.rd64i (Reg.refOfsLo 16)) (s.rd64 (Reg.refOfsTimeLo 16)) (s.rdn (Reg.refOfsUnc 16)) else s
    | 0x69 => s.setLaneF n fun y => { y with capAddr := v.toNat % 65536 }
    | _ =>
      let r := (s.laneF n).results ++ [v]
      let s := s.setLaneF n fun y => { y with results := r }
      match w with
      | .lent j => if r.length = 3 ∧ s.jobState j = 2 then s.jobComplete j (r.getD 0 0) (r.getD 1 0) (r.getD 2 0) else s
      | _ => s

/-! ### Traps (R421, R431, R458) -/

/-- Lane `n` traps: bundles issued before complete, TCAUSE and TADDR are written, a FACET_TRAP entry is posted, and what ran is stopped. -/
def laneTrap (n : Nat) (w : Who) (cause code : Nat) : State :=
  let pc := (s.ctxOf n w).pc % 2048
  let s := s.setCtx n w (s.ctxOf n w).drain
  let s := (s.setLaneF n fun x => { x with tcause := cause, taddr := pc, stalled := false }).evtPush 2 n
    (BitVec.ofNat 32 (code * 2 ^ 24 + cause * 2 ^ 20 + pc * 512 + n))
  match w with
  | .task k _ =>
    let used := (s.laneF n).ctx.cyc.toNat
    let s := (s.taskBreaks k).setTask k fun t => { t with used := used, usedMax := max t.usedMax used }
    ((s.setLaneF n fun x => { x with cur := none }).incSat (Reg.facetMisses n) ⟨16, 16⟩).raiseFault 6 n
  | .loop => (s.setLaneF n fun x => { x with loopRun := false }).raiseFault 6 n
  | .lent _ => s.lendEnd n

/-- An address lies outside the regions of a task that may not leave them (R449). -/
def outside (w : Who) (y : Bool) (a : Nat) : Bool :=
  match w with
  | .task k false => match s.task? k with
    | some t => !inRegion t y a
    | none => true
  | _ => false

/-- The REGION causes of a move slot (R449). -/
def moveRegion (w : Who) (c : Ctx) (y : Bool) (m : Nat) : List Nat :=
  let kind := m / 2 ^ 17
  let ar := m / 2 ^ 15 % 4
  let a := c.ar ar
  if kind = 1 ∨ kind = 3 ∨ kind = 4 then (if s.outside w y a then [5] else [])
  else if kind = 2 then (if s.outside w y a || s.outside w y (stepAddr a (c.lr ar) 1) then [5] else [])
  else []

/-- The value an integer operation gives (R450). -/
def intResult (aop : Nat) (d x : BitVec 24) (imm : BitVec 24) : BitVec 24 :=
  match aop with
  | 1 => imm
  | 2 => x
  | 3 => x + imm
  | 4 => d + x
  | 5 => d - x
  | 6 => x &&& imm
  | 7 => x ||| imm
  | 8 => x ^^^ imm
  | 9 => x <<< (imm.toNat % 32)
  | 10 => x >>> (imm.toNat % 32)
  | 11 => x.sshiftRight (imm.toNat % 32)
  | 12 => if x.toInt < d.toInt then x else d
  | 13 => if d.toInt < x.toInt then x else d
  | _ => d

/-- The result of an integer slot. -/
def intValue (n : Nat) (c : Ctx) (i : Nat) : BitVec 24 :=
  intResult (i / 2 ^ 34) (s.regRead n c (i / 2 ^ 29 % 32)) (s.regRead n c (i / 2 ^ 24 % 32)) (BitVec.ofNat 24 (i % 2 ^ 24))

/-- A record of LSAVE (R464): the levels, outermost first. -/
def loopRecord (c : Ctx) : List Word :=
  let ls := c.loops.reverse
  let lv (k : Nat) : List Nat := match ls[k]? with
    | some l => [l.count % 65536, l.start % 2048 * 65536 + l.stop]
    | none => [0, 0]
  ([0xA5000000 + ls.length] ++ lv 0 ++ lv 1 ++ lv 2).map (BitVec.ofNat 32)

/-- The levels of a record, innermost first, if it conforms (R464). -/
def readRecord (ws : List Word) : Option (List LoopLv) :=
  let w (i : Nat) : Nat := (ws.getD i 0).toNat
  let k := w 0 % 4
  let lv := (List.range k).map fun i => (⟨w (1 + 2 * i), w (2 + 2 * i) / 65536, w (2 + 2 * i) % 65536⟩ : LoopLv)
  let ok := w 0 / 4 == 0xA5000000 / 4 && lv.all (fun l => l.count < 65536 && l.start < 2048 && l.stop < 2048 && l.start ≤ l.stop) &&
    (List.range 3).all (fun i => i < k || (w (1 + 2 * i) == 0 && w (2 + 2 * i) == 0)) &&
    (List.range (k - 1)).all fun i => match lv[i]?, lv[i + 1]? with | some o, some p => decide (p.stop ≤ o.stop) | _, _ => true
  if ok then some lv.reverse else none

/-- The value a branch condition tests (R452). -/
def condValue (n : Nat) (c : Ctx) (o : Nat) : Int :=
  let creg := o / 2 ^ 23 % 32
  if o.testBit 28 then (c.ac (creg % 4)).toInt else (s.regRead n c creg).toInt

/-- The causes of a control slot (R449–R454, R462–R464). -/
def ctlCauses (n : Nat) (w : Who) (c : Ctx) (k : Nat) : List Nat :=
  let cop := k / 2 ^ 33
  let o := k % 2 ^ 33
  let p := c.pc
  let stop := o % 2048
  let ar := o / 2 ^ 25 % 4
  let port := o / 2 ^ 14 % 256
  let guarded := match w with | .task _ q => !q | .loop => false | .lent _ => true
  let ill := if ctlFieldsOk k && !((cop == 5 || cop == 6) && stop < p + 3) then [] else [1]
  let region := if (cop = 0x0E ∨ cop = 0x0F) && s.outside w (o.testBit 22) (c.ar ar) then [5] else []
  let ports := if (cop == 0x0E && !s.portIn w port) || (cop == 0x0F && !portOut w port) then [6] else []
  let bad := if (cop = 5 ∨ cop = 6) && (3 ≤ c.loops.length || (match c.loops with | l :: _ => decide (l.stop < stop) | [] => false)) then [7] else []
  let off := if (cop = 5 ∨ cop = 6) && c.lsOff then [8] else []
  let atEnd := match c.loops with
    | l :: _ => if cop != 0 && !c.lsOff && (l.stop == p || (ctlDelays cop && (l.stop == p + 1 || l.stop == p + 2))) then [9] else []
    | [] => []
  let rest := if cop = 0x0D && (readRecord ((List.range 7).map fun i => s.memRd n true ((c.ar ar + i) % 8192))).isNone then [10] else []
  let ctx := (cop == 0x08 && guarded) || ((cop == 0x04 || cop == 0x0C || cop == 0x0D) && !c.ih) ||
    (cop == 0x0B && (c.ih || (match w with | .task _ _ => false | .loop => true | .lent _ => decide ((s.laneF n).results.length < 3))))
  ill ++ region ++ ports ++ bad ++ off ++ atEnd ++ rest ++ (if ctx then [11] else []) ++ (if cop = 0x10 then [12] else [])

/-- The lowest of a list of causes; 0 for none. -/
def lowest (l : List Nat) : Nat := l.foldl (fun a b => if a = 0 then b else min a b) 0

/-- Whether a bundle reads a word of memory. -/
def readsMemory (b : Nat) : Bool :=
  let r (m : Nat) : Bool := m / 2 ^ 17 == 1 || m / 2 ^ 17 == 2
  r (xSlot b) || r (ySlot b) || ctlSlot b / 2 ^ 33 == 0x0F || ctlSlot b / 2 ^ 33 == 0x0D

/-- Every trap cause of the bundle `b` on lane `n` (R458). -/
def bundleCauses (n : Nat) (w : Who) (c : Ctx) (b err : Nat) : List Nat :=
  let i := intSlot b
  let guarded := match w with | .task _ q => !q | .loop => false | .lent _ => true
  macBad (macSlot b) (s.laneCplx n) ++ moveBad (xSlot b) ++ moveBad (ySlot b) ++ intBad i ++
    (if bundleFormat b = 1 then s.ctlCauses n w c (ctlSlot b) else []) ++
    s.moveRegion w c false (xSlot b) ++ s.moveRegion w c true (ySlot b) ++
    (if guarded && i / 2 ^ 34 != 0 && i / 2 ^ 29 % 32 == 20 && (s.intValue n c i).toNat.testBit 0 then [11] else []) ++
    (if err = 2 && readsMemory b then [13] else [])

/-! ### Issuing a bundle -/

/-- The MAC operation a bundle puts in flight, with what it read in stage A. -/
def macLatch (c : Ctx) (mac : Nat) : Option MacOp :=
  let op := mac / 2 ^ 18
  if op = 0 then none
  else
    let a := mac / 2 ^ 13 % 8
    let b := mac / 2 ^ 10 % 8
    let x (r : Nat) : Int := (c.xr r).toInt
    let flip (r : Nat) : Nat := if r % 2 = 0 then r + 1 else r - 1
    some ⟨op, mac / 2 ^ 16 % 4, mac / 2 ^ 13 % 4, mac % 1024, x a, x (flip a), x b, x (flip b), c.rm⟩

/-- What a move slot does in stage A: the register set after, the loads that land later, and the memory words stored.  `c0` is what it reads. -/
def moveDo (n : Nat) (c0 : Ctx) (y : Bool) (m : Nat) (r : Ctx × List (Nat × BitVec 24) × List (Bool × Nat × Word)) :
    Ctx × List (Nat × BitVec 24) × List (Bool × Nat × Word) :=
  let (c, lds, sts) := r
  let kind := m / 2 ^ 17
  let ar := m / 2 ^ 15 % 4
  let upd := m / 2 ^ 13 % 4
  let reg := m / 2 ^ 10 % 8
  let fm := m.testBit 9
  let src := m / 64 % 8
  let a := c0.ar ar
  let len := c0.lr ar
  let step := fun (unit : Nat) (c : Ctx) => if upd = 0 then c else c.setA ar (stepAddr a len (updStep upd unit (c0.mr ar)))
  match kind with
  | 1 => (step 1 c, lds ++ [(reg, loadWord fm (s.memRd n y a))], sts)
  | 2 => (step 2 c, lds ++ [(reg, loadWord fm (s.memRd n y a)), (reg + 1, loadWord fm (s.memRd n y (stepAddr a len 1)))], sts)
  | 3 => (step 1 c, lds, sts ++ [(y, a, storeWord fm (c0.xr reg))])
  | 4 =>
    let (v, sat) := accTo24 fm c0.rm c0.sm (c0.ac (reg % 4))
    (step 1 { c with sv := c.sv || sat }, lds, sts ++ [(y, a, storeWord fm v)])
  | 5 => (c.setX reg (c0.xr src), lds, sts)
  | 6 =>
    let (v, sat) := accTo24 fm c0.rm c0.sm (c0.ac (src % 4))
    ({ c with sv := c.sv || sat }.setX reg v, lds, sts)
  | _ => (c, lds, sts)

/-- The X registers a move slot writes. -/
def moveWrites (m : Nat) : List Nat :=
  let reg := m / 2 ^ 10 % 8
  match m / 2 ^ 17 with
  | 1 | 5 | 6 => [reg]
  | 2 => [reg, reg + 1]
  | _ => []

/-- What a control operation does in stage A, the port operations aside: the register set after, with the transfer it starts (R451–R453, R462–R464). -/
def ctlDo (n : Nat) (c0 c : Ctx) (k : Nat) : Ctx × State :=
  let cop := k / 2 ^ 33
  let o := k % 2 ^ 33
  let p := c0.pc
  let taken := condHolds (o / 2 ^ 29) (s.condValue n c0 o) c0.sv
  let go (t : Transfer) (c : Ctx) : Ctx := { c with xfer := c.xfer ++ [(2, t)] }
  let stop := o % 2048
  let enter (count : Nat) : Ctx := if count = 0 then go (.jump (stop + 1)) c else go .seq { c with loops := ⟨count, p + 3, stop⟩ :: c.loops }
  let ar := o / 2 ^ 25 % 4
  match cop with
  | 0x01 => (if taken then go (.jump stop) c else go .seq c, s)
  | 0x02 => (if taken then go (.jump stop) { c with ra := BitVec.ofNat 11 (p + 3) } else go .seq c, s)
  | 0x03 => (if taken then go (.jump c0.ra.toNat) c else go .seq c, s)
  | 0x04 => (go (.rti c0.isavePc.toNat c0.isaveSr.toNat) c, s)
  | 0x05 => (enter (o / 2 ^ 17 % 65536), s)
  | 0x06 => (enter ((s.regRead n c0 (o / 2 ^ 23 % 32)).toNat % 65536), s)
  | 0x07 => (go .pop c, s)
  | 0x08 => ({ c with ie := true }, s)
  | 0x09 => ({ c with ie := false }, s)
  | 0x0A => (c, s.setLaneF n fun x => { x with softPend := true })
  | 0x0B => (go .tend c, s)
  | 0x0C =>
    let a := c0.ar ar
    let s := (List.range 7).foldl (fun (t : State) (i : Nat) => t.memPut n true ((a + i) % 8192) ((loopRecord c0).getD i 0)) s
    ({ c with loops := [], lsOff := false }.setA ar ((a + 7) % 8192), s)
  | 0x0D =>
    let a := c0.ar ar
    let ls := (readRecord ((List.range 7).map fun i => s.memRd n true ((a + i) % 8192))).getD []
    ({ c with loops := ls, lsOff := true }.setA ar ((a + 7) % 8192), s)
  | _ => (c, s)

/-- The running task ends (R412, R452): it delivers its output window, and the lane is free for the next. -/
def taskEnd (n : Nat) (w : Who) : State :=
  match w with
  | .task k _ =>
    let used := (s.laneF n).ctx.cyc.toNat
    let ws := match s.task? k with | some t => s.taskWordsOut t | none => []
    (s.setTask k fun t => { t with out := some ws, used := used, usedMax := max t.usedMax used }).setLaneF n fun x => { x with cur := none }
  | .lent _ => s.lendEnd n
  | .loop => s

/-- After the bundle: transfers whose delay slots have passed take place, otherwise fetch goes on in sequence (R451, R453, R463). -/
def advance (n : Nat) (w : Who) (c : Ctx) (fresh : List (Nat × Transfer)) : State :=
  let old : List (Nat × Transfer) := c.xfer.map fun (e : Nat × Transfer) => (e.1 - 1, e.2)
  let fire : Option (Nat × Transfer) := old.find? fun (e : Nat × Transfer) => e.1 == 0
  let c := { c with xfer := (old.filter fun (e : Nat × Transfer) => e.1 != 0) ++ fresh, cyc := c.cyc + 1 }
  let s := match w with
    | .lent _ => s
    | _ => s.setLaneF n fun x => { x with bundles := x.bundles + 1 }
  let (ls, p) := if c.lsOff then (c.loops, c.pc + 1) else Ctx.seqNext c.loops c.pc
  match fire with
  | some (_, .jump t) => s.setCtx n w { c with pc := t }
  | some (_, .rti t sr) => s.setCtx n w ({ c with pc := t }.restoreSr sr)
  | some (_, .tend) => (s.setCtx n w c.drain).taskEnd n w
  | some (_, .pop) => s.setCtx n w { c with pc := p, loops := ls.drop 1 }
  | some (_, .seq) | none => s.setCtx n w { c with pc := p, loops := ls }

/-- The bundle `b` of lane `n` issues without a trap: stage A reads, earlier results land, its own follow (R455–R457). -/
def bundleRun (n : Nat) (w : Who) (b : Nat) : State :=
  let c0 := s.ctxOf n w
  let k := ctlSlot b
  let cop := k / 2 ^ 33
  let o := k % 2 ^ 33
  let port := o / 2 ^ 14 % 256
  let par := o / 2 ^ 25 % 4
  let pupd := o / 2 ^ 23 % 4
  let pa := c0.ar par
  -- a PIN from an empty port holds the lane; bundles before it complete
  let got := if cop = 0x0E then s.portRead n w port else none
  if cop = 0x0E ∧ got.isNone = true then (s.setCtx n w c0.drain).setLaneF n fun x => { x with stalled := true }
  else
    -- what lands with this bundle's stage A
    let c1 := if c0.macs.length = 2 then c0.macLand else c0
    let c1 := c1.loadLand
    -- move slots; the Y slot's value stands over the X slot's
    let rx := s.moveDo n c0 false (xSlot b) (c1, [], [])
    let drop := moveWrites (ySlot b)
    let ry := s.moveDo n c0 true (ySlot b) (rx.1, rx.2.1.filter (fun e => !drop.contains e.1), rx.2.2)
    let c2 := { ry.1 with loads := ry.2.1, macs := c1.macs ++ [macLatch c0 (macSlot b)] }
    -- the integer slot
    let i := intSlot b
    let (c3, s3) := if i / 2 ^ 34 = 0 then (c2, s) else s.regWrite n c2 (i / 2 ^ 29 % 32) (s.intValue n c0 i)
    let s4 := ry.2.2.foldl (fun (t : State) e => t.memPut n e.1 e.2.1 e.2.2) s3
    -- ports
    let pstep (c : Ctx) : Ctx := if pupd = 0 then c else c.setA par (stepAddr pa (c0.lr par) (updStep pupd 1 (c0.mr par)))
    let (c5, s5) := match cop, got with
      | 0x0E, some (v, _) =>
        let t := match s4.portRead n w port with | some (_, t) => t | none => s4
        (pstep c3, t.memPut n (o.testBit 22) pa v)
      | 0x0F, _ => (pstep c3, s4.portWrite n w port (s.memRd n (o.testBit 22) pa))
      | _, _ => (c3, s4)
    let held := c5.xfer
    let (c6, s6) := s5.ctlDo n c0 { c5 with xfer := [] } k
    let fresh := c6.xfer
    let c7 := if cop = 0x0C ∨ cop = 0x0D then { c6 with xfer := held }.drain else { c6 with xfer := held }
    (s6.setLaneF n fun x => { x with stalled := false }).advance n w c7 fresh

/-- A fetch address the running program may not have (R452). -/
def badFetch (w : Who) (p : Nat) : Bool :=
  2047 < p || (match w with
    | .task k _ => match s.task? k with
      | some t => p < t.entry + 2 || t.entry + 1 + t.codeLen < p
      | none => true
    | _ => false)

/-- Lane `n` issues the bundle at its pc, if what runs there runs and the bundle is the one the command names (`is`). -/
def issue (n : Nat) (is : Nat → Bool) (err : Nat) : State :=
  match s.whoRuns n with
  | none => s
  | some w =>
    let c := s.ctxOf n w
    if (s.laneF n).stalled then s
    else if s.badFetch w c.pc then s.laneTrap n w 4 0
    else
      let b := (s.progAt n c.pc).toNat
      if !is b then s
      else
        let s := if err ≠ 0 ∧ readsMemory b = true then s.raiseFault (if err = 1 then 0 else 1) (0x1000 + n) else s
        let cause := lowest (s.bundleCauses n w c b err)
        if cause = 0 then s.bundleRun n w b else s.laneTrap n w cause (if cause = 12 then ctlSlot b % 256 else 0)

/-- An interrupt is accepted by lane `n` (R460). -/
def laneInterrupt (n : Nat) : State :=
  match s.whoRuns n with
  | none => s
  | some w =>
    let c := s.ctxOf n w
    let x := s.laneF n
    if w.open_ && c.ie && (s.ipend n &&& x.ien.toNat) != 0 && c.xfer == [] && !x.stalled then
      let d := c.drain
      s.setCtx n w { d with isavePc := BitVec.ofNat 11 c.pc, isaveSr := BitVec.ofNat 24 d.sr, ie := false, ih := true, lsOff := true, pc := x.ivec.toNat }
    else s

end State

/-! ### The rows -/

/-- The bundle has a MAC slot. -/
def hasMac (m : Nat) (b : Nat) : Bool := macSlot b == m

/-- The bundle holds no listed operation: FACET_NOP issues it. -/
def noOperation (b : Nat) : Bool :=
  let mac := macSlot b / 2 ^ 18
  let mv (m : Nat) : Bool := m / 2 ^ 17 == 0 || m / 2 ^ 17 == 7
  (mac == 0 || mac == 7 || (0x0B ≤ mac && mac ≤ 0x0F) || 0x1A ≤ mac) && mv (xSlot b) && mv (ySlot b) &&
    (intSlot b / 2 ^ 34 == 0 || 14 ≤ intSlot b / 2 ^ 34) && (ctlSlot b / 2 ^ 33 == 0 || 0x11 ≤ ctlSlot b / 2 ^ 33)

/-- FACET_NOP (R445): the lane issues a bundle without an operation; a reserved one traps. -/
def execFacetNop (n : Fin 256) (s : State) : Res := done (s.issue n noOperation 0)

/-- MPY (R446): ACC_D = X_A × X_B. -/
def execMpy (n : Fin 256) (d : Fin 4) (a b : Fin 8) (aux : BitVec 10) (s : State) : Res :=
  done (s.issue n (hasMac (macWord 0x01 d a b aux.toNat)) 0)

/-- MAC (R446): ACC_D += X_A × X_B. -/
def execMac (n : Fin 256) (d : Fin 4) (a b : Fin 8) (aux : BitVec 10) (s : State) : Res :=
  done (s.issue n (hasMac (macWord 0x02 d a b aux.toNat)) 0)

/-- MSU (R446): ACC_D −= X_A × X_B. -/
def execMsu (n : Fin 256) (d : Fin 4) (a b : Fin 8) (aux : BitVec 10) (s : State) : Res :=
  done (s.issue n (hasMac (macWord 0x03 d a b aux.toNat)) 0)

/-- MPY2 (R446): two products. -/
def execMpy2 (n : Fin 256) (d : Fin 4) (a b : Fin 8) (aux : BitVec 10) (s : State) : Res :=
  done (s.issue n (hasMac (macWord 0x04 d a b aux.toNat)) 0)

/-- MAC2 (R446): two products, accumulating. -/
def execMac2 (n : Fin 256) (d : Fin 4) (a b : Fin 8) (aux : BitVec 10) (s : State) : Res :=
  done (s.issue n (hasMac (macWord 0x05 d a b aux.toNat)) 0)

/-- MSU2 (R446): two products, subtracting. -/
def execMsu2 (n : Fin 256) (d : Fin 4) (a b : Fin 8) (aux : BitVec 10) (s : State) : Res :=
  done (s.issue n (hasMac (macWord 0x06 d a b aux.toNat)) 0)

/-- CMPY (R446): a complex product. -/
def execCmpy (n : Fin 256) (d : Fin 4) (a b : Fin 8) (aux : BitVec 10) (s : State) : Res :=
  done (s.issue n (hasMac (macWord 0x08 d a b aux.toNat)) 0)

/-- CMAC (R446): a complex product, accumulating. -/
def execCmac (n : Fin 256) (d : Fin 4) (a b : Fin 8) (aux : BitVec 10) (s : State) : Res :=
  done (s.issue n (hasMac (macWord 0x09 d a b aux.toNat)) 0)

/-- CMSU (R446): a complex product, subtracting. -/
def execCmsu (n : Fin 256) (d : Fin 4) (a b : Fin 8) (aux : BitVec 10) (s : State) : Res :=
  done (s.issue n (hasMac (macWord 0x0A d a b aux.toNat)) 0)

/-- CLR (R446): ACC_D = 0. -/
def execClr (n : Fin 256) (d : Fin 4) (s : State) : Res := done (s.issue n (hasMac (accWord 0x10 d 0 0)) 0)

/-- MOVA (R446): ACC_D = ACC_S. -/
def execMova (n : Fin 256) (d src : Fin 4) (s : State) : Res := done (s.issue n (hasMac (accWord 0x11 d src 0)) 0)

/-- ADDA (R446): ACC_D += ACC_S. -/
def execAdda (n : Fin 256) (d src : Fin 4) (s : State) : Res := done (s.issue n (hasMac (accWord 0x12 d src 0)) 0)

/-- SUBA (R446): ACC_D −= ACC_S. -/
def execSuba (n : Fin 256) (d src : Fin 4) (s : State) : Res := done (s.issue n (hasMac (accWord 0x13 d src 0)) 0)

/-- NEGA (R446): ACC_D = −ACC_S. -/
def execNega (n : Fin 256) (d src : Fin 4) (s : State) : Res := done (s.issue n (hasMac (accWord 0x14 d src 0)) 0)

/-- ABSA (R446): ACC_D = |ACC_S|. -/
def execAbsa (n : Fin 256) (d src : Fin 4) (s : State) : Res := done (s.issue n (hasMac (accWord 0x15 d src 0)) 0)

/-- SATA (R446): ACC_D = ACC_S limited to 48 bits. -/
def execSata (n : Fin 256) (d src : Fin 4) (s : State) : Res := done (s.issue n (hasMac (accWord 0x18 d src 0)) 0)

/-- RNDA (R446): ACC_D = ACC_S rounded at bit 24. -/
def execRnda (n : Fin 256) (d src : Fin 4) (s : State) : Res := done (s.issue n (hasMac (accWord 0x19 d src 0)) 0)

/-- ASHA (R446): ACC_D = ACC_S shifted arithmetically by AUX[5:0]. -/
def execAsha (n : Fin 256) (d src : Fin 4) (aux : BitVec 10) (s : State) : Res :=
  done (s.issue n (hasMac (accWord 0x16 d src aux.toNat)) 0)

/-- LDA (R446): ACC_D from a 48-bit register pair. -/
def execLda (n : Fin 256) (d : Fin 4) (a : Fin 8) (s : State) : Res := done (s.issue n (hasMac (macWord 0x17 d a 0 0)) 0)

/-- LD (R447): X_R from memory, with post-modify. -/
def execLd (n : Fin 256) (y : Bool) (ar upd : Fin 4) (r : Fin 8) (fm : Bool) (err : Fin 3) (s : State) : Res :=
  done (s.issue n (fun b => moveSlot y b == moveWord 1 ar upd r fm 0) err)

/-- LDP (R447): a register pair from two words. -/
def execLdp (n : Fin 256) (y : Bool) (ar upd : Fin 4) (r : Fin 8) (fm : Bool) (err : Fin 3) (s : State) : Res :=
  done (s.issue n (fun b => moveSlot y b == moveWord 2 ar upd r fm 0) err)

/-- ST (R447): X_R to memory. -/
def execSt (n : Fin 256) (y : Bool) (ar upd : Fin 4) (r : Fin 8) (fm : Bool) (s : State) : Res :=
  done (s.issue n (fun b => moveSlot y b == moveWord 3 ar upd r fm 0) 0)

/-- STA (R447): a converted accumulator to memory. -/
def execSta (n : Fin 256) (y : Bool) (ar upd : Fin 4) (r : Fin 8) (fm : Bool) (s : State) : Res :=
  done (s.issue n (fun b => moveSlot y b == moveWord 4 ar upd r fm 0) 0)

/-- MOV (R447): X_R = X_S. -/
def execMov (n : Fin 256) (y : Bool) (r src : Fin 8) (s : State) : Res :=
  done (s.issue n (fun b => moveSlot y b == moveWord 5 0 0 r false src) 0)

/-- MVA (R447): X_R = the converted ACC_S. -/
def execMva (n : Fin 256) (y : Bool) (r src : Fin 8) (fm : Bool) (s : State) : Res :=
  done (s.issue n (fun b => moveSlot y b == moveWord 6 0 0 r fm src) 0)

/-- The bundle has an integer slot. -/
def hasInt (i : Nat) (b : Nat) : Bool := bundleFormat b == 2 && intSlot b == i

/-- The bundle has a control slot. -/
def hasCtl (k : Nat) (b : Nat) : Bool := bundleFormat b == 1 && ctlSlot b == k

/-- LDI (R450): DST = IMM. -/
def execLdi (n : Fin 256) (dst : Fin 32) (imm : BitVec 24) (s : State) : Res := done (s.issue n (hasInt (intWord 1 dst 0 imm.toNat)) 0)

/-- MVR (R450): DST = SRC. -/
def execMvr (n : Fin 256) (dst src : Fin 32) (s : State) : Res := done (s.issue n (hasInt (intWord 2 dst src 0)) 0)

/-- ADDI (R450): DST = SRC + IMM. -/
def execAddi (n : Fin 256) (dst src : Fin 32) (imm : BitVec 24) (s : State) : Res := done (s.issue n (hasInt (intWord 3 dst src imm.toNat)) 0)

/-- ADD (R450): DST = DST + SRC. -/
def execAdd (n : Fin 256) (dst src : Fin 32) (s : State) : Res := done (s.issue n (hasInt (intWord 4 dst src 0)) 0)

/-- SUB (R450): DST = DST − SRC. -/
def execSub (n : Fin 256) (dst src : Fin 32) (s : State) : Res := done (s.issue n (hasInt (intWord 5 dst src 0)) 0)

/-- ANDI (R450): DST = SRC AND IMM. -/
def execAndi (n : Fin 256) (dst src : Fin 32) (imm : BitVec 24) (s : State) : Res := done (s.issue n (hasInt (intWord 6 dst src imm.toNat)) 0)

/-- ORI (R450): DST = SRC OR IMM. -/
def execOri (n : Fin 256) (dst src : Fin 32) (imm : BitVec 24) (s : State) : Res := done (s.issue n (hasInt (intWord 7 dst src imm.toNat)) 0)

/-- XORI (R450): DST = SRC XOR IMM. -/
def execXori (n : Fin 256) (dst src : Fin 32) (imm : BitVec 24) (s : State) : Res := done (s.issue n (hasInt (intWord 8 dst src imm.toNat)) 0)

/-- SHLI (R450): DST = SRC shifted left. -/
def execShli (n : Fin 256) (dst src : Fin 32) (imm : BitVec 24) (s : State) : Res := done (s.issue n (hasInt (intWord 9 dst src imm.toNat)) 0)

/-- SHRI (R450): DST = SRC shifted right, logical. -/
def execShri (n : Fin 256) (dst src : Fin 32) (imm : BitVec 24) (s : State) : Res := done (s.issue n (hasInt (intWord 10 dst src imm.toNat)) 0)

/-- ASRI (R450): DST = SRC shifted right, arithmetic. -/
def execAsri (n : Fin 256) (dst src : Fin 32) (imm : BitVec 24) (s : State) : Res := done (s.issue n (hasInt (intWord 11 dst src imm.toNat)) 0)

/-- MIN (R450): DST = the signed minimum. -/
def execMinOp (n : Fin 256) (dst src : Fin 32) (s : State) : Res := done (s.issue n (hasInt (intWord 12 dst src 0)) 0)

/-- MAX (R450): DST = the signed maximum. -/
def execMaxOp (n : Fin 256) (dst src : Fin 32) (s : State) : Res := done (s.issue n (hasInt (intWord 13 dst src 0)) 0)

/-- BR (R451, R452): TARGET after two delay slots, if the condition holds. -/
def execBr (n : Fin 256) (cond : Fin 16) (acc : Bool) (creg : Fin 32) (target : BitVec 11) (s : State) : Res := done (s.issue n (hasCtl (ctlWord 0x01 (brOps cond acc creg target.toNat))) 0)

/-- CALL (R451, R452): RA = p + 3 and TARGET, if the condition holds. -/
def execCall (n : Fin 256) (cond : Fin 16) (acc : Bool) (creg : Fin 32) (target : BitVec 11) (s : State) : Res := done (s.issue n (hasCtl (ctlWord 0x02 (brOps cond acc creg target.toNat))) 0)

/-- RET (R451, R452): RA, if the condition holds. -/
def execRet (n : Fin 256) (cond : Fin 16) (acc : Bool) (creg : Fin 32) (s : State) : Res := done (s.issue n (hasCtl (ctlWord 0x03 (brOps cond acc creg 0))) 0)

/-- RTI (R462): the interrupted bundle issues with its SR after two delay slots. -/
def execRti (n : Fin 256) (s : State) : Res := done (s.issue n (hasCtl (ctlWord 0x04 (0))) 0)

/-- LOOP (R453): a loop level with an immediate count. -/
def execLoop (n : Fin 256) (count : BitVec 16) (stop : BitVec 11) (s : State) : Res := done (s.issue n (hasCtl (ctlWord 0x05 (count.toNat * 2 ^ 17 + stop.toNat))) 0)

/-- LOOPR (R453): a loop level with a count from a register. -/
def execLoopr (n : Fin 256) (creg : Fin 32) (stop : BitVec 11) (s : State) : Res := done (s.issue n (hasCtl (ctlWord 0x06 (creg * 2 ^ 23 + stop.toNat))) 0)

/-- LBRK (R451): pop the innermost level. -/
def execLbrk (n : Fin 256) (s : State) : Res := done (s.issue n (hasCtl (ctlWord 0x07 (0))) 0)

/-- EI (R450, R451): SR.IE = 1, or a CONTEXT trap. -/
def execEi (n : Fin 256) (s : State) : Res := done (s.issue n (hasCtl (ctlWord 0x08 (0))) 0)

/-- DI (R451): SR.IE = 0. -/
def execDi (n : Fin 256) (s : State) : Res := done (s.issue n (hasCtl (ctlWord 0x09 (0))) 0)

/-- SETI (R451, R459): IPEND bit 4. -/
def execSeti (n : Fin 256) (s : State) : Res := done (s.issue n (hasCtl (ctlWord 0x0A (0))) 0)

/-- TEND (R452): end the task and deliver its output window. -/
def execTend (n : Fin 256) (s : State) : Res := done (s.issue n (hasCtl (ctlWord 0x0B (0))) 0)

/-- LSAVE (R464): the loop state to Y memory; every level emptied. -/
def execLsave (n : Fin 256) (ar : Fin 4) (s : State) : Res := done (s.issue n (hasCtl (ctlWord 0x0C (ar * 2 ^ 25))) 0)

/-- LREST (R464): the loop state from Y memory. -/
def execLrest (n : Fin 256) (ar : Fin 4) (err : Fin 3) (s : State) : Res := done (s.issue n (hasCtl (ctlWord 0x0D (ar * 2 ^ 25))) err)

/-- PIN (R454): a word from a port to memory; stalls on an empty one. -/
def execPin (n : Fin 256) (ar upd : Fin 4) (y : Bool) (port : BitVec 8) (s : State) : Res := done (s.issue n (hasCtl (ctlWord 0x0E (portOps ar upd y port.toNat))) 0)

/-- POUT (R454): a word of memory to a port. -/
def execPout (n : Fin 256) (ar upd : Fin 4) (y : Bool) (port : BitVec 8) (err : Fin 3) (s : State) : Res := done (s.issue n (hasCtl (ctlWord 0x0F (portOps ar upd y port.toNat))) err)

/-- TRAP (R458): trap with SOFT. -/
def execTrap (n : Fin 256) (code : BitVec 8) (s : State) : Res := done (s.issue n (hasCtl (ctlWord 0x10 (code.toNat))) 0)

/-- FACET_INTERRUPT_ENTRY (R460): the pipeline drains, pc and SR are saved, and the handler at IVEC issues. -/
def execFacetInterruptEntry (n : Fin 256) (s : State) : Res := done (s.laneInterrupt n)

/-- FACET_PORT_STALL_END (R454): a word has arrived, and the stalled PIN completes. -/
def execFacetPortStallEnd (n : Fin 256) (s : State) : Res :=
  done (if (s.laneF n).stalled then (s.setLaneF n fun x => { x with stalled := false }).issue n (fun b => ctlSlot b / 2 ^ 33 == 0x0E) 0 else s)

end Sys2Proof.Machine
end

