-- ==== Sys2Proof/Machine/Second.lean ====
section
/-!
DEFINITION. The TB_0 second boundary (R137, R217–R219, R326), and a step of a time base at its GRID edge (R206, R213–R216, R219, R223).
-/

namespace Sys2Proof.Machine

namespace State

variable (s : State)

/-! ### The watchdog (R217) -/

/-- The TB_0 time elapsed since the last second boundary, less the steps recorded and the OSC edges × the model increment, in 2^-48 ns; 0 where a change of
oscillator accounts for it, and where no oscillator runs (log entry 45). -/
def watchDiff (oscEdges : Nat) : Int :=
  if s.time.watchOsc || s.noOsc then 0
  else ((s.tb 0).t : Int) - s.time.watchT - s.time.watchSteps * 2 ^ 32 - (oscEdges * s.bypassAdvance : Nat)

/-- The watchdog's judgement of a difference: WDOG_LAST, fault 18 beyond 2 µs, and the next second begins. -/
def watchJudge (diff : Int) : State :=
  let t := (s.wriSat Reg.wdogLast (rdiv diff (2 ^ 48))).raiseFaultIf (decide (2000 * 2 ^ 48 < diff.natAbs)) 18 0
  t.setTime fun x => { x with watchT := (t.tb 0).t, watchSteps := 0, watchOsc := false }

/-! ### The actions of a boundary -/

/-- The time core's actions at a second boundary (R137, R203, R208): the leap table first, then R137's order, then the steering; `differ` says that the
two copies of the ledger differ. -/
def secondActions (differ : Bool) : State :=
  ((((((((s.leapApply (s.seconds 0)).monitorSecond).selectorSecond).holdSecond).ledgerUpdate differ).boundLimitTest).classRule).publish).steerModel

/-- The figures of the external memory for the second that ends (R404, R606): its load and the longest access of requesters other than the pager are
free values while it is in service. -/
def dramSecond : State :=
  let t := (s.wrnSat Reg.pagerMaxwait s.dram.wait).setDram fun d => { d with wait := 0 }
  if s.dramState = 3 then
    let (l, t1) := t.fresh 10
    let (m, t2) := t1.fresh 32
    (t2.wrn Reg.dramLoad (l.toNat % 1001)).wrnSat Reg.dramMaxlat (max s.dram.wait m.toNat)
  else (t.wr Reg.dramLoad 0).wr Reg.dramMaxlat 0

/-- What every second boundary does beside the time core: measurements, messages, keys, lanes, outputs, the pair, the chain and external memory. -/
def secondRest : State :=
  let now := s.seconds 0
  let t := (s.keyRollover (now - 1) now).loupeSecond
  let t := t.ptpSecond.ntsSecond
  ((((t.facetSecond).outSecond).pairSecond).chainSecond).dramSecond

/-! ### Steps (R213–R216) -/

/-- The new value of time base `n` after its step, in 2^-48 ns, and the size in ticks (R213, R214). -/
def stepOf (n : Nat) (r : StepReq) : Nat × Int :=
  match r with
  | .by d => (wrapTime ((s.tb n).t + d * 2 ^ 32), d)
  | .to sec ns =>
    let v := wrapTime (sec * secondFine + ns * 2 ^ 48)
    (v, (v / 2 ^ 32 : Nat) - (s.fullTicks n : Int))

/-- A step of TB_0 by `d` ticks jumps the media count of domain `k` (R216). -/
def countJump (k : Nat) (d : Int) : State :=
  if s.domUsed k && (s.domAt k).run then
    let (a, b) := s.rateQ k
    let j : Int := -((-(d * a)) / ((secondTicks * b : Nat) : Int))
    if j = 0 then s else (s.setDom k fun x => { x with count := ((x.count : Int) + j).toNat }).domJump k
  else s

/-- A step of TB_0 by `d` ticks moves the phase of every CLKOUT that follows TB_0 (R166): the period lengthens by the change, at once or under SLEW. -/
def outStepped (d : Int) : State :=
  (List.range 8).foldl (fun (t : State) (n : Nat) =>
    if t.fld (Reg.outCtrl n) Fld.outCtrl_SRC = 3 ∨ t.fld (Reg.outAlign n) Fld.outAlign_SLEW = 0 then t
    else
      let (num, den) := t.outPeriod n
      let change := (((t.outE n).rem * 65536 - d * 1000) * den % (num * 65536) / (den * 65536)).toNat
      (t.setOut n fun o => { o with rem := change }).outMoved n) s

/-- The units of time base `n` whose targets a forward step has crossed fire once (R223); `before` is the state before it. -/
def stepFires (n : Nat) (before : State) : State :=
  (List.range 4).foldl (fun (t : State) (k : Nat) =>
    if before.bit (Reg.tbCmpCtrl n k) 0 && !before.cmpDue n k && t.cmpDue n k then t.cmpFire n k false true else t) s

/-- What a step of TB_0 by `d` ticks does beyond the time base itself; `was` is the second before it, `auto` says it is the automatic step
(R96, R97, R134, R206, R216, R219, R243).  A boundary that it crosses ends no second of the lock criteria (R117; log entry 14). -/
def step0 (d : Int) (was : Nat) (auto : Bool) : State :=
  let now := s.seconds 0
  let timeSel := match s.selected with | some n => isTimeRef n | none => false
  let t := (s.recordStep d auto).setTime fun x => { x with moved := x.moved + d, pullT := x.pullT + d, watchSteps := x.watchSteps + d }
  let t := t.setHold fun h => { h with autoPend := false }
  let t := if timeSel then
      (t.wr64i Reg.selPullLo (t.rd64i Reg.selPullLo - d)).put Reg.selStatus Fld.selStatus_PULLING (t.pull - d != 0).toNat
    else t
  let t := (((t.countJump 0 d).countJump 1 d).outStepped d).gnssStepped
  let t := t.raiseFaultIf (decide (now < was) && t.time.applied.any fun x => decide (now < x) && decide (x ≤ was)) 46 1
  if was < now then
    ((((t.keyRollover was now).pulledSecond).secondActions false).raiseIrq 11).setHold fun h =>
      { h with lockSecs := min h.lockSecs t.hold.lockSecs, selNew := t.hold.selNew }
  else t

/-- The pending step of time base `n` takes effect. -/
def applyStep (n : Nat) (r : StepReq) : State :=
  let (v, d) := s.stepOf n r
  let t := (s.setTb n fun b => { b with t := v, req := none }).put (Reg.tbStatus n) Fld.tbStatus_STEP_PEND 0
  let t := (t.put (Reg.tbStatus n) Fld.tbStatus_STEPPED 1).evtPush 1 n (BitVec.ofNat 32 n)
  let t := if 0 < d then t.stepFires n s else t
  let t := (t.ptpStepped n).outRepeat n
  if n = 0 then t.step0 d (s.seconds 0) s.hold.autoPend else t

end State

/-! ### The rows -/

/-- SECOND_BOUNDARY (R136, R137, R217, R218): `oscEdges` OSC edges have passed since the last; `differ` says that the ledger's copies differ. -/
def execSecondBoundary (oscEdges : Word) (differ : Bool) (s : State) : Res :=
  done (
    let diff := s.watchDiff oscEdges.toNat
    ((((s.pulledSecond).secondActions differ).watchJudge diff).secondRest).raiseIrq 11)

/-- TB_STEP_APPLY (R213): the GRID edge at which the step that waits takes effect. -/
def execTbStepApply (n : Fin 8) (s : State) : Res :=
  done (match (s.tb n).req with
    | some r => s.applyStep n r
    | none => s)

end Sys2Proof.Machine
end

