-- ==== Sys2Proof/Machine/Dispatch.lean ====
section
/-!
DEFINITION. One arm for each command: the rows of the command table, each with its one meaning.
-/

namespace Sys2Proof.Machine

/-- The effect of a command on everything but the queue. -/
def exec (i : Instr) (s : State) : Host.Outcome State Fault Refusal :=
  match i with
  | .hostRegisterWrite p addr value => Sys2Proof.Machine.execHostRegisterWrite p addr value s
  | .readLoLatch p addr => Sys2Proof.Machine.execReadLoLatch p addr s
  | .writeLoHold p addr value => Sys2Proof.Machine.execWriteLoHold p addr value s
  | .writeHiCommit p addr value => Sys2Proof.Machine.execWriteHiCommit p addr value s
  | .bar2WindowWrite p off data => Sys2Proof.Machine.execBar2WindowWrite p off data s
  | .handshakeStall pos => Sys2Proof.Machine.execHandshakeStall pos s
  | .sampleBoundary dom absent upset => Sys2Proof.Machine.execSampleBoundary dom absent upset s
  | .secondBoundary oscEdges differ => Sys2Proof.Machine.execSecondBoundary oscEdges differ s
  | .structLoad => Sys2Proof.Machine.execStructLoad s
  | .structAbort => Sys2Proof.Machine.execStructAbort s
  | .loaderLeaveEmpty => Sys2Proof.Machine.execLoaderLeaveEmpty s
  | .structFetchComplete octets => Sys2Proof.Machine.execStructFetchComplete octets s
  | .qspiFetchTimeout => Sys2Proof.Machine.execQspiFetchTimeout s
  | .structCheckComplete => Sys2Proof.Machine.execStructCheckComplete s
  | .structApplyComplete regions => Sys2Proof.Machine.execStructApplyComplete regions s
  | .structOwnerProg value => Sys2Proof.Machine.execStructOwnerProg value s
  | .structRollbackAdv value => Sys2Proof.Machine.execStructRollbackAdv value s
  | .structScrub corrected bad => Sys2Proof.Machine.execStructScrub corrected bad s
  | .poresetAssert ns => Sys2Proof.Machine.execPoresetAssert ns s
  | .poresetRelease straps => Sys2Proof.Machine.execPoresetRelease straps s
  | .chipReset byFault => Sys2Proof.Machine.execChipReset byFault s
  | .otpReadDone => Sys2Proof.Machine.execOtpReadDone s
  | .startupSelftestDone sram aead trng => Sys2Proof.Machine.execStartupSelftestDone sram aead trng s
  | .refEnable n => Sys2Proof.Machine.execRefEnable n s
  | .refDisable n => Sys2Proof.Machine.execRefDisable n s
  | .refAccept n => Sys2Proof.Machine.execRefAccept n s
  | .refMonitorEvent n => Sys2Proof.Machine.execRefMonitorEvent n s
  | .ppsinPulse n => Sys2Proof.Machine.execPpsinPulse n s
  | .refActivityLoss n => Sys2Proof.Machine.execRefActivityLoss n s
  | .todRxOctet n octet => Sys2Proof.Machine.execTodRxOctet n octet s
  | .todDataRead n => Sys2Proof.Machine.execTodDataRead n s
  | .refOfsCommit n value => Sys2Proof.Machine.execRefOfsCommit n value s
  | .refOfsTake n => Sys2Proof.Machine.execRefOfsTake n s
  | .refWtrExpire n => Sys2Proof.Machine.execRefWtrExpire n s
  | .selCtrlWrite value => Sys2Proof.Machine.execSelCtrlWrite value s
  | .oscEdgeLoss osc => Sys2Proof.Machine.execOscEdgeLoss osc s
  | .oscCompare a b ab aEdges bEdges => Sys2Proof.Machine.execOscCompare a b ab aEdges bEdges s
  | .oscPreferWrite osc => Sys2Proof.Machine.execOscPreferWrite osc s
  | .tempSensorRead value => Sys2Proof.Machine.execTempSensorRead value s
  | .holdSnapExport => Sys2Proof.Machine.execHoldSnapExport s
  | .holdSnapExportDone => Sys2Proof.Machine.execHoldSnapExportDone s
  | .holdSnapRestore => Sys2Proof.Machine.execHoldSnapRestore s
  | .holdSnapRestoreDone => Sys2Proof.Machine.execHoldSnapRestoreDone s
  | .synTableReady k => Sys2Proof.Machine.execSynTableReady k s
  | .synSurvey k => Sys2Proof.Machine.execSynSurvey k s
  | .synSurveyDone k centres gaps => Sys2Proof.Machine.execSynSurveyDone k centres gaps s
  | .synRelock k => Sys2Proof.Machine.execSynRelock k s
  | .synPullWrite k pull => Sys2Proof.Machine.execSynPullWrite k pull s
  | .synLockAchieved k freq worst gaps => Sys2Proof.Machine.execSynLockAchieved k freq worst gaps s
  | .synAcquireTimeout k => Sys2Proof.Machine.execSynAcquireTimeout k s
  | .synAcquireRetry k => Sys2Proof.Machine.execSynAcquireRetry k s
  | .synRelockTimeout k => Sys2Proof.Machine.execSynRelockTimeout k s
  | .synUnlock k least bankEnd gaps => Sys2Proof.Machine.execSynUnlock k least bankEnd gaps s
  | .synEnvelopeCheck k target gaps => Sys2Proof.Machine.execSynEnvelopeCheck k target gaps s
  | .clkoutAlignInstant n => Sys2Proof.Machine.execClkoutAlignInstant n s
  | .outSrcDivWrite n src div => Sys2Proof.Machine.execOutSrcDivWrite n src div s
  | .outOffsetWrite n value => Sys2Proof.Machine.execOutOffsetWrite n value s
  | .ppsoutPulse n err extra => Sys2Proof.Machine.execPpsoutPulse n err extra s
  | .ppsoutPulseEnd n => Sys2Proof.Machine.execPpsoutPulseEnd n s
  | .clkoutMonitor n count => Sys2Proof.Machine.execClkoutMonitor n count s
  | .alignerInputEdge n => Sys2Proof.Machine.execAlignerInputEdge n s
  | .alignerInputMissing n => Sys2Proof.Machine.execAlignerInputMissing n s
  | .loupeStamp n src falling code busy => Sys2Proof.Machine.execLoupeStamp n src falling code busy s
  | .loupeCalibration n gain noise offset => Sys2Proof.Machine.execLoupeCalibration n gain noise offset s
  | .loupeStart n => Sys2Proof.Machine.execLoupeStart n s
  | .loupeStop n => Sys2Proof.Machine.execLoupeStop n s
  | .loupeArmCal n => Sys2Proof.Machine.execLoupeArmCal n s
  | .loupeGateOpen n => Sys2Proof.Machine.execLoupeGateOpen n s
  | .loupeGateClose n => Sys2Proof.Machine.execLoupeGateClose n s
  | .loupeModeWrite n mode => Sys2Proof.Machine.execLoupeModeWrite n mode s
  | .loupeContBlock n => Sys2Proof.Machine.execLoupeContBlock n s
  | .loupeGuest target err code gain noise offset busy => Sys2Proof.Machine.execLoupeGuest target err code gain noise offset busy s
  | .loupeFifoRead => Sys2Proof.Machine.execLoupeFifoRead s
  | .timeSnap => Sys2Proof.Machine.execTimeSnap s
  | .leapCommit value => Sys2Proof.Machine.execLeapCommit value s
  | .tbStep n => Sys2Proof.Machine.execTbStep n s
  | .tbSet n => Sys2Proof.Machine.execTbSet n s
  | .tbStepApply n => Sys2Proof.Machine.execTbStepApply n s
  | .tbOfsCommit n value => Sys2Proof.Machine.execTbOfsCommit n value s
  | .tbServoTimeout n => Sys2Proof.Machine.execTbServoTimeout n s
  | .tbSrcWrite n src => Sys2Proof.Machine.execTbSrcWrite n src s
  | .tbFadjWrite n value => Sys2Proof.Machine.execTbFadjWrite n value s
  | .cmpArm n k periodic => Sys2Proof.Machine.execCmpArm n k periodic s
  | .cmpFire n k => Sys2Proof.Machine.execCmpFire n k s
  | .tbevPulseEnd m => Sys2Proof.Machine.execTbevPulseEnd m s
  | .gnssSclkStop time => Sys2Proof.Machine.execGnssSclkStop time s
  | .gnssListenLock phases => Sys2Proof.Machine.execGnssListenLock phases s
  | .gnssFeMonitor n balls => Sys2Proof.Machine.execGnssFeMonitor n balls s
  | .gnssChStart c => Sys2Proof.Machine.execGnssChStart c s
  | .gnssChStop c => Sys2Proof.Machine.execGnssChStop c s
  | .gnssChUpdate c => Sys2Proof.Machine.execGnssChUpdate c s
  | .gnssChRunBegin c balls edge => Sys2Proof.Machine.execGnssChRunBegin c balls edge s
  | .gnssEpochDump c samples => Sys2Proof.Machine.execGnssEpochDump c samples s
  | .gnssNavEntry c => Sys2Proof.Machine.execGnssNavEntry c s
  | .gnssDumpRead => Sys2Proof.Machine.execGnssDumpRead s
  | .gnssNavRead => Sys2Proof.Machine.execGnssNavRead s
  | .gnssAcqStart => Sys2Proof.Machine.execGnssAcqStart s
  | .gnssAcqAbort => Sys2Proof.Machine.execGnssAcqAbort s
  | .gnssCaptureBegin balls edge => Sys2Proof.Machine.execGnssCaptureBegin balls edge s
  | .gnssCaptureFull balls => Sys2Proof.Machine.execGnssCaptureFull balls s
  | .gnssJobGo j => Sys2Proof.Machine.execGnssJobGo j s
  | .gnssJobAbort j => Sys2Proof.Machine.execGnssJobAbort j s
  | .gnssJobDispatch lane => Sys2Proof.Machine.execGnssJobDispatch lane s
  | .gnssAntShort => Sys2Proof.Machine.execGnssAntShort s
  | .gnssAntRetry => Sys2Proof.Machine.execGnssAntRetry s
  | .gnssAntOpen second => Sys2Proof.Machine.execGnssAntOpen second s
  | .gnssAntFaultClear short => Sys2Proof.Machine.execGnssAntFaultClear short s
  | .lineEnableWrite n enable => Sys2Proof.Machine.execLineEnableWrite n enable s
  | .lineSyncAcquired n => Sys2Proof.Machine.execLineSyncAcquired n s
  | .lineLinkUp n fullDuplex pause speed => Sys2Proof.Machine.execLineLinkUp n fullDuplex pause speed s
  | .lineSyncLost n hiBer => Sys2Proof.Machine.execLineSyncLost n hiBer s
  | .lineAnRestart n => Sys2Proof.Machine.execLineAnRestart n s
  | .lineBlkRst n => Sys2Proof.Machine.execLineBlkRst n s
  | .lineCntClr n => Sys2Proof.Machine.execLineCntClr n s
  | .lineFrameRx n frame back align symbol ovr refused corr uncorr => Sys2Proof.Machine.execLineFrameRx n frame back align symbol ovr refused corr uncorr s
  | .linePauseExpire n => Sys2Proof.Machine.execLinePauseExpire n s
  | .lineFrameTx n back octets => Sys2Proof.Machine.execLineFrameTx n back octets s
  | .poolTailWrite value addrs => Sys2Proof.Machine.execPoolTailWrite value addrs s
  | .rxqHeadWrite q value => Sys2Proof.Machine.execRxqHeadWrite q value s
  | .rxqCoalTimer q => Sys2Proof.Machine.execRxqCoalTimer q s
  | .txqTailWrite q value descs => Sys2Proof.Machine.execTxqTailWrite q value descs s
  | .txqFrameComplete q dmaFailed => Sys2Proof.Machine.execTxqFrameComplete q dmaFailed s
  | .queueBlkRst => Sys2Proof.Machine.execQueueBlkRst s
  | .ptpProfileWrite n profile => Sys2Proof.Machine.execPtpProfileWrite n profile s
  | .ptpAnnounceRx m => Sys2Proof.Machine.execPtpAnnounceRx m s
  | .ptpSyncRx m => Sys2Proof.Machine.execPtpSyncRx m s
  | .ptpFollowUpRx m => Sys2Proof.Machine.execPtpFollowUpRx m s
  | .ptpDelayReqRx m => Sys2Proof.Machine.execPtpDelayReqRx m s
  | .ptpDelayRespRx m => Sys2Proof.Machine.execPtpDelayRespRx m s
  | .ptpPdelayReqRx m => Sys2Proof.Machine.execPtpPdelayReqRx m s
  | .ptpPdelayRespRx m => Sys2Proof.Machine.execPtpPdelayRespRx m s
  | .ptpPdelayRespFupRx m => Sys2Proof.Machine.execPtpPdelayRespFupRx m s
  | .ptpUcRequestRx m => Sys2Proof.Machine.execPtpUcRequestRx m s
  | .ptpUcCancelRx m => Sys2Proof.Machine.execPtpUcCancelRx m s
  | .ptpUcGrantRx m => Sys2Proof.Machine.execPtpUcGrantRx m s
  | .ptpMgmtForward m => Sys2Proof.Machine.execPtpMgmtForward m s
  | .ptpAnnounceTx n client => Sys2Proof.Machine.execPtpAnnounceTx n client s
  | .ptpSyncTx n client back => Sys2Proof.Machine.execPtpSyncTx n client back s
  | .ptpFollowUpTx n => Sys2Proof.Machine.execPtpFollowUpTx n s
  | .ptpDelayRespTx n => Sys2Proof.Machine.execPtpDelayRespTx n s
  | .ptpDelayReqTx n back => Sys2Proof.Machine.execPtpDelayReqTx n back s
  | .ptpPdelayReqTx n back => Sys2Proof.Machine.execPtpPdelayReqTx n back s
  | .ptpPdelayRespTx n back => Sys2Proof.Machine.execPtpPdelayRespTx n back s
  | .ptpPdelayRespFupTx n => Sys2Proof.Machine.execPtpPdelayRespFupTx n s
  | .ptpAnnounceTimeout n dom src => Sys2Proof.Machine.execPtpAnnounceTimeout n dom src s
  | .ptpGrantExpire client kind => Sys2Proof.Machine.execPtpGrantExpire client kind s
  | .ptpUcRenew n => Sys2Proof.Machine.execPtpUcRenew n s
  | .ptpUcRetry n => Sys2Proof.Machine.execPtpUcRetry n s
  | .ptpUcSelWrite entry => Sys2Proof.Machine.execPtpUcSelWrite entry s
  | .ptpTsRead => Sys2Proof.Machine.execPtpTsRead s
  | .ntsRequestRx n frame back => Sys2Proof.Machine.execNtsRequestRx n frame back s
  | .ntsResponseTx n late => Sys2Proof.Machine.execNtsResponseTx n late s
  | .ntsRotDraw => Sys2Proof.Machine.execNtsRotDraw s
  | .ntsRotSwap => Sys2Proof.Machine.execNtsRotSwap s
  | .ntsRotCmd value => Sys2Proof.Machine.execNtsRotCmd value s
  | .ntsMint count => Sys2Proof.Machine.execNtsMint count s
  | .ntsMintDone => Sys2Proof.Machine.execNtsMintDone s
  | .keysLoad p target => Sys2Proof.Machine.execKeysLoad p target s
  | .keysClear target => Sys2Proof.Machine.execKeysClear target s
  | .keysZeroize value => Sys2Proof.Machine.execKeysZeroize value s
  | .keysBlobExport => Sys2Proof.Machine.execKeysBlobExport s
  | .keysBlobExportDone => Sys2Proof.Machine.execKeysBlobExportDone s
  | .keysBlobRestore => Sys2Proof.Machine.execKeysBlobRestore s
  | .keysBlobRestoreDone => Sys2Proof.Machine.execKeysBlobRestoreDone s
  | .keystoreCheck good => Sys2Proof.Machine.execKeystoreCheck good s
  | .drbgReseed => Sys2Proof.Machine.execDrbgReseed s
  | .ntsRotRetry => Sys2Proof.Machine.execNtsRotRetry s
  | .serialFrameRx n chans z => Sys2Proof.Machine.execSerialFrameRx n chans z s
  | .serialLock n rate => Sys2Proof.Machine.execSerialLock n rate s
  | .serialLockLost n => Sys2Proof.Machine.execSerialLockLost n s
  | .streamPacketRx n frame => Sys2Proof.Machine.execStreamPacketRx n frame s
  | .streamSourceTimeout idx path addr => Sys2Proof.Machine.execStreamSourceTimeout idx path addr s
  | .streamRxEnable idx enable => Sys2Proof.Machine.execStreamRxEnable idx enable s
  | .streamTxEnable idx enable => Sys2Proof.Machine.execStreamTxEnable idx enable s
  | .asrcLock stream index rate => Sys2Proof.Machine.execAsrcLock stream index rate s
  | .asrcUnlock stream index rate => Sys2Proof.Machine.execAsrcUnlock stream index rate s
  | .serialLaunch dom late => Sys2Proof.Machine.execSerialLaunch dom late s
  | .tblRead => Sys2Proof.Machine.execTblRead s
  | .tblWrite => Sys2Proof.Machine.execTblWrite s
  | .tblStage => Sys2Proof.Machine.execTblStage s
  | .tblRelease => Sys2Proof.Machine.execTblRelease s
  | .tblCmdDone => Sys2Proof.Machine.execTblCmdDone s
  | .routeCommit => Sys2Proof.Machine.execRouteCommit s
  | .routeDiscard => Sys2Proof.Machine.execRouteDiscard s
  | .meterPeriodEnd dom => Sys2Proof.Machine.execMeterPeriodEnd dom s
  | .meterHoldRelease slot => Sys2Proof.Machine.execMeterHoldRelease slot s
  | .pagerPageFetch line ns errs => Sys2Proof.Machine.execPagerPageFetch line ns errs s
  | .pagerTimeout => Sys2Proof.Machine.execPagerTimeout s
  | .storeBlkRst => Sys2Proof.Machine.execStoreBlkRst s
  | .storeSplitWrite value => Sys2Proof.Machine.execStoreSplitWrite value s
  | .facetOosWrite n oos => Sys2Proof.Machine.execFacetOosWrite n oos s
  | .facetBlkRst n => Sys2Proof.Machine.execFacetBlkRst n s
  | .facetMove n task target => Sys2Proof.Machine.execFacetMove n task target s
  | .facetSwap n task => Sys2Proof.Machine.execFacetSwap n task s
  | .facetMailInWrite n value => Sys2Proof.Machine.execFacetMailInWrite n value s
  | .facetMailOutRead n => Sys2Proof.Machine.execFacetMailOutRead n s
  | .facetMailStatusRead n => Sys2Proof.Machine.execFacetMailStatusRead n s
  | .facetMarginMinRead n => Sys2Proof.Machine.execFacetMarginMinRead n s
  | .facetTaskDataRead n => Sys2Proof.Machine.execFacetTaskDataRead n s
  | .facetMemWrite n off value => Sys2Proof.Machine.execFacetMemWrite n off value s
  | .facetTaskStart n => Sys2Proof.Machine.execFacetTaskStart n s
  | .facetDeadline n slack issue => Sys2Proof.Machine.execFacetDeadline n slack issue s
  | .migrationCopyDone => Sys2Proof.Machine.execMigrationCopyDone s
  | .facetRotation => Sys2Proof.Machine.execFacetRotation s
  | .facetSelftestDone pass => Sys2Proof.Machine.execFacetSelftestDone pass s
  | .facetInterruptEntry n => Sys2Proof.Machine.execFacetInterruptEntry n s
  | .facetPortStallEnd n => Sys2Proof.Machine.execFacetPortStallEnd n s
  | .facetNop n => Sys2Proof.Machine.execFacetNop n s
  | .mpy n d a b aux => Sys2Proof.Machine.execMpy n d a b aux s
  | .mac n d a b aux => Sys2Proof.Machine.execMac n d a b aux s
  | .msu n d a b aux => Sys2Proof.Machine.execMsu n d a b aux s
  | .mpy2 n d a b aux => Sys2Proof.Machine.execMpy2 n d a b aux s
  | .mac2 n d a b aux => Sys2Proof.Machine.execMac2 n d a b aux s
  | .msu2 n d a b aux => Sys2Proof.Machine.execMsu2 n d a b aux s
  | .cmpy n d a b aux => Sys2Proof.Machine.execCmpy n d a b aux s
  | .cmac n d a b aux => Sys2Proof.Machine.execCmac n d a b aux s
  | .cmsu n d a b aux => Sys2Proof.Machine.execCmsu n d a b aux s
  | .clr n d => Sys2Proof.Machine.execClr n d s
  | .mova n d src => Sys2Proof.Machine.execMova n d src s
  | .adda n d src => Sys2Proof.Machine.execAdda n d src s
  | .suba n d src => Sys2Proof.Machine.execSuba n d src s
  | .nega n d src => Sys2Proof.Machine.execNega n d src s
  | .absa n d src => Sys2Proof.Machine.execAbsa n d src s
  | .asha n d src aux => Sys2Proof.Machine.execAsha n d src aux s
  | .lda n d a => Sys2Proof.Machine.execLda n d a s
  | .sata n d src => Sys2Proof.Machine.execSata n d src s
  | .rnda n d src => Sys2Proof.Machine.execRnda n d src s
  | .ld n y ar upd r fm err => Sys2Proof.Machine.execLd n y ar upd r fm err s
  | .ldp n y ar upd r fm err => Sys2Proof.Machine.execLdp n y ar upd r fm err s
  | .st n y ar upd r fm => Sys2Proof.Machine.execSt n y ar upd r fm s
  | .sta n y ar upd r fm => Sys2Proof.Machine.execSta n y ar upd r fm s
  | .mov n y r src => Sys2Proof.Machine.execMov n y r src s
  | .mva n y r src fm => Sys2Proof.Machine.execMva n y r src fm s
  | .ldi n dst imm => Sys2Proof.Machine.execLdi n dst imm s
  | .mvr n dst src => Sys2Proof.Machine.execMvr n dst src s
  | .addi n dst src imm => Sys2Proof.Machine.execAddi n dst src imm s
  | .add n dst src => Sys2Proof.Machine.execAdd n dst src s
  | .sub n dst src => Sys2Proof.Machine.execSub n dst src s
  | .andi n dst src imm => Sys2Proof.Machine.execAndi n dst src imm s
  | .ori n dst src imm => Sys2Proof.Machine.execOri n dst src imm s
  | .xori n dst src imm => Sys2Proof.Machine.execXori n dst src imm s
  | .shli n dst src imm => Sys2Proof.Machine.execShli n dst src imm s
  | .shri n dst src imm => Sys2Proof.Machine.execShri n dst src imm s
  | .asri n dst src imm => Sys2Proof.Machine.execAsri n dst src imm s
  | .minOp n dst src => Sys2Proof.Machine.execMinOp n dst src s
  | .maxOp n dst src => Sys2Proof.Machine.execMaxOp n dst src s
  | .br n cond acc creg target => Sys2Proof.Machine.execBr n cond acc creg target s
  | .call n cond acc creg target => Sys2Proof.Machine.execCall n cond acc creg target s
  | .ret n cond acc creg => Sys2Proof.Machine.execRet n cond acc creg s
  | .rti n => Sys2Proof.Machine.execRti n s
  | .loop n count stop => Sys2Proof.Machine.execLoop n count stop s
  | .loopr n creg stop => Sys2Proof.Machine.execLoopr n creg stop s
  | .lbrk n => Sys2Proof.Machine.execLbrk n s
  | .ei n => Sys2Proof.Machine.execEi n s
  | .di n => Sys2Proof.Machine.execDi n s
  | .seti n => Sys2Proof.Machine.execSeti n s
  | .tend n => Sys2Proof.Machine.execTend n s
  | .lsave n ar => Sys2Proof.Machine.execLsave n ar s
  | .lrest n ar err => Sys2Proof.Machine.execLrest n ar err s
  | .pin n ar upd y port => Sys2Proof.Machine.execPin n ar upd y port s
  | .pout n ar upd y port err => Sys2Proof.Machine.execPout n ar upd y port err s
  | .trap n code => Sys2Proof.Machine.execTrap n code s
  | .claimFrame low => Sys2Proof.Machine.execClaimFrame low s
  | .ivernBlockLock lane => Sys2Proof.Machine.execIvernBlockLock lane s
  | .ivernDeskew => Sys2Proof.Machine.execIvernDeskew s
  | .ivernHelloTx => Sys2Proof.Machine.execIvernHelloTx s
  | .ivernHelloRx w0 digest => Sys2Proof.Machine.execIvernHelloRx w0 digest s
  | .ivernTimeTx back => Sys2Proof.Machine.execIvernTimeTx back s
  | .ivernTimeRx seq w0 w1 w2 w3 back => Sys2Proof.Machine.execIvernTimeRx seq w0 w1 w2 w3 back s
  | .ivernLinkLoss => Sys2Proof.Machine.execIvernLinkLoss s
  | .ivernMirrorRx dom last b base n words => Sys2Proof.Machine.execIvernMirrorRx dom last b base n words s
  | .ivernDigestRx dom b digest => Sys2Proof.Machine.execIvernDigestRx dom b digest s
  | .ivernWriteRx dom b writes => Sys2Proof.Machine.execIvernWriteRx dom b writes s
  | .ivernHealthRx w0 w1 => Sys2Proof.Machine.execIvernHealthRx w0 w1 s
  | .ivernKeyRx aux start sealed_ => Sys2Proof.Machine.execIvernKeyRx aux start sealed_ s
  | .ivernStateRx space off words => Sys2Proof.Machine.execIvernStateRx space off words s
  | .ivernJoinReqRx sec digest => Sys2Proof.Machine.execIvernJoinReqRx sec digest s
  | .ivernLockRx a b => Sys2Proof.Machine.execIvernLockRx a b s
  | .ivernHandoverRx frame epoch => Sys2Proof.Machine.execIvernHandoverRx frame epoch s
  | .ivernLeaveRx => Sys2Proof.Machine.execIvernLeaveRx s
  | .ivernResyncRx => Sys2Proof.Machine.execIvernResyncRx s
  | .ivernBadMessage msg => Sys2Proof.Machine.execIvernBadMessage msg s
  | .pairDigestTimeout dom b => Sys2Proof.Machine.execPairDigestTimeout dom b s
  | .pairJoinDrained => Sys2Proof.Machine.execPairJoinDrained s
  | .pairJoinKeyTimeout => Sys2Proof.Machine.execPairJoinKeyTimeout s
  | .pairHandover => Sys2Proof.Machine.execPairHandover s
  | .pairLeave => Sys2Proof.Machine.execPairLeave s
  | .pairResync => Sys2Proof.Machine.execPairResync s
  | .chainCycle => Sys2Proof.Machine.execChainCycle s
  | .chainFrame48Rx side k crc => Sys2Proof.Machine.execChainFrame48Rx side k crc s
  | .chainSideLost side => Sys2Proof.Machine.execChainSideLost side s
  | .chainTodRx side flags bound claim uid hop => Sys2Proof.Machine.execChainTodRx side flags bound claim uid hop s
  | .chainHopRx side ttx trx cycle uid => Sys2Proof.Machine.execChainHopRx side ttx trx cycle uid s
  | .chainEnumRx side hops hop uid => Sys2Proof.Machine.execChainEnumRx side hops hop uid s
  | .chainPartnerRx side hops sender uid kind claim addr => Sys2Proof.Machine.execChainPartnerRx side hops sender uid kind claim addr s
  | .chainBadFrame frame => Sys2Proof.Machine.execChainBadFrame frame s
  | .chainTodTimeout side => Sys2Proof.Machine.execChainTodTimeout side s
  | .partnerLeaveTimeout uid => Sys2Proof.Machine.execPartnerLeaveTimeout uid s
  | .partnerSelWrite idx => Sys2Proof.Machine.execPartnerSelWrite idx s
  | .faultTake => Sys2Proof.Machine.execFaultTake s
  | .faultStatusClear hi value => Sys2Proof.Machine.execFaultStatusClear hi value s
  | .faultForce p hi value => Sys2Proof.Machine.execFaultForce p hi value s
  | .faultForceArm value => Sys2Proof.Machine.execFaultForceArm value s
  | .faultSoft value => Sys2Proof.Machine.execFaultSoft value s
  | .faultFirstRelease => Sys2Proof.Machine.execFaultFirstRelease s
  | .faultNmiAck => Sys2Proof.Machine.execFaultNmiAck s
  | .faultEpinHoldWrite hold => Sys2Proof.Machine.execFaultEpinHoldWrite hold s
  | .errBMinWidthEnd => Sys2Proof.Machine.execErrBMinWidthEnd s
  | .nmiBMinWidthEnd => Sys2Proof.Machine.execNmiBMinWidthEnd s
  | .intcSourceEvent => Sys2Proof.Machine.execIntcSourceEvent s
  | .intcMsixUnmask enable funcMask masks => Sys2Proof.Machine.execIntcMsixUnmask enable funcMask masks s
  | .intcClaim t => Sys2Proof.Machine.execIntcClaim t s
  | .intcComplete t value => Sys2Proof.Machine.execIntcComplete t value s
  | .intcSwTest => Sys2Proof.Machine.execIntcSwTest s
  | .intcPendClear hi value => Sys2Proof.Machine.execIntcPendClear hi value s
  | .evtRead => Sys2Proof.Machine.execEvtRead s
  | .ppsCapRead n => Sys2Proof.Machine.execPpsCapRead n s
  | .pgLatencyWrite n us => Sys2Proof.Machine.execPgLatencyWrite n us s
  | .pgDemand n => Sys2Proof.Machine.execPgDemand n s
  | .pgWakeComplete n => Sys2Proof.Machine.execPgWakeComplete n s
  | .pgIdleReturn n => Sys2Proof.Machine.execPgIdleReturn n s
  | .vidAdjust corner => Sys2Proof.Machine.execVidAdjust corner s
  | .vmonSample mv => Sys2Proof.Machine.execVmonSample mv s
  | .sentinelMeasure rings corner tj => Sys2Proof.Machine.execSentinelMeasure rings corner tj s
  | .ageingFit ratios => Sys2Proof.Machine.execAgeingFit ratios s
  | .tjSample hot tj => Sys2Proof.Machine.execTjSample hot tj s
  | .dramEnWrite en => Sys2Proof.Machine.execDramEnWrite en s
  | .dramTrainStart => Sys2Proof.Machine.execDramTrainStart s
  | .dramTrainAbort => Sys2Proof.Machine.execDramTrainAbort s
  | .dramTrainDone fail us lanes found => Sys2Proof.Machine.execDramTrainDone fail us lanes found s
  | .dramMrsCmd k => Sys2Proof.Machine.execDramMrsCmd k s
  | .dramEccInjectSingle => Sys2Proof.Machine.execDramEccInjectSingle s
  | .dramEccInjectDouble => Sys2Proof.Machine.execDramEccInjectDouble s
  | .dramScrubPass errs => Sys2Proof.Machine.execDramScrubPass errs s
  | .dramRefresh => Sys2Proof.Machine.execDramRefresh s
  | .dramZqCal => Sys2Proof.Machine.execDramZqCal s
  | .dramTempRead range hot => Sys2Proof.Machine.execDramTempRead range hot s
  | .dramAlert crc again addr => Sys2Proof.Machine.execDramAlert crc again addr s
  | .spiWriteBar0 addr octets => Sys2Proof.Machine.execSpiWriteBar0 addr octets s
  | .spiReadBar0 addr waits => Sys2Proof.Machine.execSpiReadBar0 addr waits s
  | .spiWriteBar2 addr octets => Sys2Proof.Machine.execSpiWriteBar2 addr octets s
  | .spiReadBar2 addr waits => Sys2Proof.Machine.execSpiReadBar2 addr waits s
  | .spiUnknownCommand code n => Sys2Proof.Machine.execSpiUnknownCommand code n s
  | .pcieUnsupportedRequest => Sys2Proof.Machine.execPcieUnsupportedRequest s
  | .pcieCorrectableError => Sys2Proof.Machine.execPcieCorrectableError s
  | .pcieFatalError linkDown => Sys2Proof.Machine.execPcieFatalError linkDown s
  | .pciePoisonedWrite => Sys2Proof.Machine.execPciePoisonedWrite s
  | .pciePerst => Sys2Proof.Machine.execPciePerst s
  | .pcieFlr => Sys2Proof.Machine.execPcieFlr s
  | .pcieBmeClear => Sys2Proof.Machine.execPcieBmeClear s
  | .pcieDmaReadTimeout q => Sys2Proof.Machine.execPcieDmaReadTimeout q s
  | .pcieLinkUp gen width => Sys2Proof.Machine.execPcieLinkUp gen width s
  | .pcieBmeSet => Sys2Proof.Machine.execPcieBmeSet s
  | .pcieD3hot enter => Sys2Proof.Machine.execPcieD3hot enter s
  | .hostWdogKick p value => Sys2Proof.Machine.execHostWdogKick p value s
  | .hostWdogEnable value => Sys2Proof.Machine.execHostWdogEnable value s
  | .hostWdogExpire => Sys2Proof.Machine.execHostWdogExpire s
  | .doorbellSet value => Sys2Proof.Machine.execDoorbellSet value s
  | .globalReset value => Sys2Proof.Machine.execGlobalReset value s
  | .dbgClr => Sys2Proof.Machine.execDbgClr s
  | .vddAonLoss => Sys2Proof.Machine.execVddAonLoss s
  | .vddCoreLow => Sys2Proof.Machine.execVddCoreLow s
  | .vddAonBrownout => Sys2Proof.Machine.execVddAonBrownout s
  | .vddio33Loss => Sys2Proof.Machine.execVddio33Loss s
  | .tapExtest => Sys2Proof.Machine.execTapExtest s
  | .tapIdcode => Sys2Proof.Machine.execTapIdcode s
  | .tapSamplePreload => Sys2Proof.Machine.execTapSamplePreload s
  | .tapExtestPulse => Sys2Proof.Machine.execTapExtestPulse s
  | .tapExtestTrain => Sys2Proof.Machine.execTapExtestTrain s
  | .tapHighz => Sys2Proof.Machine.execTapHighz s
  | .tapClamp => Sys2Proof.Machine.execTapClamp s
  | .tapBypass => Sys2Proof.Machine.execTapBypass s
  | .tapOtherCode code => Sys2Proof.Machine.execTapOtherCode code s

end Sys2Proof.Machine
end

