-- ==== Sys2Proof/Safety.lean ====
section
/-!
DEFINITION. What claims about the part speak of: the canonical form of its octet memories, pins that show what the state
calls for, frames (which registers and which parts of the state a command may change), and a run that never stops.
-/

namespace Sys2Proof.Machine

/-- An octet memory in canonical form (R49): addresses strictly rising, and no entry equal to what an unlisted address reads
as, which is 0 (log entry 6). -/
abbrev Memory.wf (m : List Host.Cell) : Bool := SMap.wf (fun _ => (0 : Byte)) m

/-- Both octet memories of the staging window are in canonical form (R49). -/
def State.memWf (s : State) : Bool := Memory.wf s.staging && Memory.wf s.reserve

/-- The control pins carry the levels the state calls for (R512, R530, R531, R541, R565). -/
def State.pinsShown (s : State) : Prop := s.pins = s.pinsNow

/-- Every register outside the list reads the same. -/
def SameRegs (s t : State) (changed : List Nat) : Prop := ∀ a, a ∉ changed → t.rd a = s.rd a

/-- Every register outside the address ranges (first address, address after the last) reads the same. -/
def SameRegsBut (s t : State) (changed : List (Nat × Nat)) : Prop :=
  ∀ a, (∀ r ∈ changed, a < r.1 ∨ r.2 ≤ a) → t.rd a = s.rd a

/-- Nothing but registers and the control pins differs. -/
def OnlyRegs (s t : State) : Prop := t = { s with regs := t.regs, pins := t.pins }

/-- The command completes: exec answers a next state of which `post` holds. -/
def Completes (c : Instr) (s : State) (post : State → Prop) : Prop := ∃ t, exec c s = .next t ∧ post t

/-- No transfer of the lane takes place with the next bundle (R451). -/
def Ctx.Quiet (c : Ctx) : Prop := ∀ e ∈ c.xfer, 2 ≤ e.1

/-- The next bundle neither ends the task nor returns from an interrupt: a transfer that takes place moves the pc alone (R451, R452, R462). -/
def Ctx.Keeps (c : Ctx) : Prop := ∀ e ∈ c.xfer, 2 ≤ e.1 ∨ ∃ p, e.2 = .jump p ∨ e.2 = .seq ∨ e.2 = .pop

/-- Lane `n` is about to issue bundle `b` for `w`, and no cause of R458 stops it: what runs, a port that does not stall, a pc that may be
fetched, the bundle there, and no trap cause with the read error `err`. -/
def State.Issues (s : State) (n : Nat) (w : Who) (b err : Nat) : Prop :=
  s.whoRuns n = some w ∧ (s.laneF n).stalled = false ∧ s.badFetch w (s.ctxOf n w).pc = false ∧
    (s.progAt n (s.ctxOf n w).pc).toNat = b ∧ s.bundleCauses n w (s.ctxOf n w) b err = []

/-- The violation record after a violating access (R589): DBG_VIOL_COUNT counts and saturates at 65,535; the first since it was cleared is
described in DBG_VIOL_ADDR and DBG_VIOL_INFO, and later ones leave these; no other register changes. -/
def Violated (s t : State) (kind : Nat) (p : Port) (write bar2 : Bool) (addr : Nat) : Prop :=
  t.rdn Reg.dbgViolCount = min (s.rdn Reg.dbgViolCount + 1) 65535 ∧
    (s.bit Reg.dbgViolInfo 31 = true → SameRegs s t [Reg.dbgViolCount]) ∧
    (s.bit Reg.dbgViolInfo 31 = false →
      t.rdn Reg.dbgViolAddr = addr % 2 ^ 32 ∧ t.bit Reg.dbgViolInfo 31 = true ∧ t.fld Reg.dbgViolInfo ⟨20, 8⟩ = kind % 256 ∧
        t.bit Reg.dbgViolInfo 16 = write ∧ t.bit Reg.dbgViolInfo 12 = (p == .spi) ∧ t.bit Reg.dbgViolInfo 0 = bar2 ∧
        SameRegs s t [Reg.dbgViolCount, Reg.dbgViolAddr, Reg.dbgViolInfo])

/-- A state from which `n` steps stop with no fault and no refusal. -/
def Safe : Nat → State → Prop
  | 0, _ => True
  | n + 1, s => ∃ t, step s = .next t ∧ Safe n t

end Sys2Proof.Machine
end

