-- ==== Sys2Proof/WellFormed.lean ====
section
/-!
DEFINITION. What a command must satisfy beyond the types of its operands: lengths of lists and codes that belong to
another row.
-/

namespace Sys2Proof

/-- A well-formed command.  The operands of every other command are bounded by their types. -/
def Instr.wf : Instr → Bool
  | .hostRegisterWrite _ a _ | .readLoLatch _ a | .writeLoHold _ a _ | .writeHiCommit _ a _ => decide (a < 2 ^ 24)   -- BAR0 (R578)
  | .bar2WindowWrite _ off data => decide (off.toNat + data.length ≤ 2 ^ 26)                    -- BAR2 (R578)
  | .structFetchComplete octets => decide (octets.length ≤ 2 ^ 24)                              -- R38
  | .synSurveyDone _ centres _ => centres.length == 64                                           -- R146
  | .gnssFeMonitor _ balls => decide (balls.length ≤ 78125)                                    -- R231, R234
  | .pagerPageFetch _ _ errs => decide (errs.length ≤ 2048)                                     -- R391
  | .serialLaunch _ late => late.all (· < 48)                                                   -- R27
  | .ivernMirrorRx _ _ _ _ n words => words.length == n.toNat                                   -- R481
  | .vidAdjust corner => corner.length == 16                                                    -- R566
  | .sentinelMeasure rings corner _ => rings.length == 20 && corner.length == 16                -- R568
  | .dramTrainDone fail _ _ found => found.length == 36 && fail.all fun f => decide (f.1.val ≠ 0)  -- R599: steps 1–10
  | .spiUnknownCommand code _ => !(code == 0x02 || code == 0x03 || code == 0x0A || code == 0x0B)  -- R582
  | .tapOtherCode code => decide (0x07 ≤ code.toNat ∧ code.toNat ≤ 0xFE)                        -- R626
  | _ => true

end Sys2Proof
end

