-- ==== Sys2Proof/Certificates/Slice0/Obligations.lean ====
section
/-!
DEFINITION. The statements for the provers, family by family; each docstring names the rules of spec/ it rests on.
-/

open Sys2Proof Sys2Proof.Machine Sys2Proof.Machine.State Host

/-! ### Time bases (R199–R228) -/

/-- TIME_SNAP captures all eight time bases at one GRID edge (R202): seconds, nanoseconds, fraction and tick time, and nothing
else changes.

LEAP_COMMIT (R204): 1 replaces the table by the staged entries when they pass the checks and clears REJECT; entries that fail
leave the table, set REJECT and strobe fault 46; any other value changes nothing. -/
def Obligations.TimeSnapAndLeapTable : Prop :=
  (∀ s : State, Completes .timeSnap s fun t =>
    (∀ n, n < 8 →
      t.rd64 (Reg.tbSnapSecLo n) = s.seconds n % 2 ^ 64 ∧ t.rdn (Reg.tbSnapNs n) = s.nanos n ∧
      t.rdn (Reg.tbSnapFrac n) = s.fracNs n ∧ t.rd64 (Reg.tbSnapTickLo n) = s.tick n) ∧
    OnlyRegs s t ∧
    ∀ a, (∀ n, n < 8 → a ∉ [Reg.tbSnapSecLo n, Reg.tbSnapSecLo n + 4, Reg.tbSnapNs n, Reg.tbSnapFrac n, Reg.tbSnapTickLo n,
      Reg.tbSnapTickLo n + 4]) → t.rd a = s.rd a) ∧
  (∀ (s : State) (value : Word),
    (value = 1 → s.leapRefused s.leapStaged = false → Completes (.leapCommit value) s fun t =>
      t.time = { s.time with leap := s.leapStaged.map fun e => (e.1, State.leapDelta e.2) } ∧
      t.fld Reg.leapStatus Fld.leapStatus_REJECT = 0 ∧ SameRegs s t [Reg.leapStatus] ∧ t.fault = s.fault) ∧
    (value = 1 → s.leapRefused s.leapStaged = true → Completes (.leapCommit value) s fun t =>
      t.time = s.time ∧ t.fld Reg.leapStatus Fld.leapStatus_REJECT = 1 ∧ SameRegs s t [Reg.leapStatus] ∧
      t.fault = { s.fault with strobes := s.fault.strobes ++ [(46, 0, false)] }) ∧
    (value ≠ 1 → Completes (.leapCommit value) s fun t => t = s.showPins))

/-- TB_STEP and TB_SET capture a request when none waits (R213, R215): the signed step, or the time to load with the nanoseconds
limited to 999,999,999 and every compare unit disarmed; a request while one waits is ignored.

TB_STEP_APPLY (R213): the step that waits is added to the full time, which wraps at 48 bits of seconds, or the time to load replaces it; on TB_1
to TB_7 the request is gone, STEP_PEND is clear, STEPPED is set and no other time base moves; on TB_0 the same time results while no
second boundary is passed; with no request nothing happens.

The servo of TB_1 to TB_7 (R210–R212): an accepted host offset is shown in TB_n_ERR and the servo tracks, and it steps the base when stepping is
enabled and the offset is beyond the threshold; a time-out turns INTEG into FADJ and holds; SRC NONE frees the servo with FADJ kept; a
source starts tracking from FREE with INTEG = FADJ; FADJ takes a written value in FREE only. -/
def Obligations.StepsAndServosOfTimeBases : Prop :=
  (∀ (s : State) (n : Fin 8),
    ((s.tb n).req = none → Completes (.tbStep n) s fun t =>
      (t.tb n).req = some (.by (s.rd64i (Reg.tbStepLo n))) ∧ (t.tb n).t = (s.tb n).t ∧
      t.fld (Reg.tbStatus n) Fld.tbStatus_STEP_PEND = 1 ∧ SameRegs s t [Reg.tbStatus n] ∧
      ∀ m, m ≠ n.val → t.tb m = s.tb m) ∧
    ((s.tb n).req = none → Completes (.tbSet n) s fun t =>
      (t.tb n).req = some (.to (s.rdn (Reg.tbSetSecLo n) + s.rdn (Reg.tbSetSecHi n) % 65536 * 2 ^ 32)
        (min (s.rdn (Reg.tbSetNs n)) 999999999)) ∧
      t.fld (Reg.tbStatus n) Fld.tbStatus_STEP_PEND = 1 ∧ t.fld (Reg.tbStatus n) Fld.tbStatus_DISARMED = 1 ∧
      (∀ k, k < 4 → t.bit (Reg.tbCmpCtrl n k) 0 = false) ∧ ∀ m, m ≠ n.val → t.tb m = s.tb m) ∧
    ((s.tb n).req ≠ none → Completes (.tbStep n) s (· = s.showPins) ∧ Completes (.tbSet n) s (· = s.showPins))) ∧
  ((∀ (s : State) (n : Fin 8) (d : Int), n.val ≠ 0 → (s.tb n).req = some (.by d) →
    Completes (.tbStepApply n) s fun t =>
      (t.tb n).t = wrapTime (((s.tb n).t : Int) + d * 2 ^ 32) ∧ (t.tb n).req = none ∧
      t.fld (Reg.tbStatus n) Fld.tbStatus_STEP_PEND = 0 ∧ t.fld (Reg.tbStatus n) Fld.tbStatus_STEPPED = 1 ∧
      ∀ m, m ≠ n.val → t.tb m = s.tb m) ∧
  (∀ (s : State) (n : Fin 8) (sec ns : Nat), n.val ≠ 0 → (s.tb n).req = some (.to sec ns) →
    Completes (.tbStepApply n) s fun t =>
      (t.tb n).t = wrapTime ((sec : Int) * secondFine + ns * 2 ^ 48) ∧ (t.tb n).req = none ∧
      t.fld (Reg.tbStatus n) Fld.tbStatus_STEP_PEND = 0 ∧ t.fld (Reg.tbStatus n) Fld.tbStatus_STEPPED = 1 ∧
      ∀ m, m ≠ n.val → t.tb m = s.tb m) ∧
  (∀ (s : State) (d : Int), (s.tb 0).req = some (.by d) →
    wrapTime (((s.tb 0).t : Int) + d * 2 ^ 32) / secondFine ≤ s.seconds 0 →
    Completes (.tbStepApply 0) s fun t => (t.tb 0).t = wrapTime (((s.tb 0).t : Int) + d * 2 ^ 32) ∧ (t.tb 0).req = none) ∧
  ∀ (s : State) (n : Fin 8), (s.tb n).req = none → Completes (.tbStepApply n) s (· = s.showPins)) ∧
  (∀ (s : State) (n : Fin 8), n.val ≠ 0 →
    (s.tbSrc n = 5 → ofsVerdict (s.tick n) (s.rd64 (Reg.tbOfsTimeLo n)) = 0 →
      s.fld (Reg.tbCtrl n) Fld.tbCtrl_STEP_EN = 0 → Completes (.tbOfsCommit n 1) s fun t =>
        t.rd64i (Reg.tbErrLo n) = s.rd64i (Reg.tbOfsLo n) ∧ t.fld (Reg.tbStatus n) Fld.tbStatus_STATE = 1 ∧
        (t.tb n).lastOfs = some (s.rd64 (Reg.tbOfsTimeLo n)) ∧ (t.tb n).t = (s.tb n).t ∧
        SameRegs s t [Reg.tbErrLo n, Reg.tbErrLo n + 4, Reg.tbStatus n, Reg.tbInteg n, Reg.tbFadj n]) ∧
    (s.tbSrc n = 5 → ofsVerdict (s.tick n) (s.rd64 (Reg.tbOfsTimeLo n)) = 0 → (s.tb n).req = none →
      s.fld (Reg.tbCtrl n) Fld.tbCtrl_STEP_EN = 1 → s.rdn (Reg.tbStepThr n) * 65536 < (s.rd64i (Reg.tbOfsLo n)).natAbs →
      Completes (.tbOfsCommit n 1) s fun t =>
        t.rd64i (Reg.tbErrLo n) = s.rd64i (Reg.tbOfsLo n) ∧ (t.tb n).req = some (.by (s.rd64i (Reg.tbOfsLo n))) ∧
        t.fld (Reg.tbStatus n) Fld.tbStatus_STATE = 1 ∧ t.fld (Reg.tbStatus n) Fld.tbStatus_STEP_PEND = 1 ∧
        SameRegs s t [Reg.tbErrLo n, Reg.tbErrLo n + 4, Reg.tbStatus n]) ∧
    (∀ value, (value ≠ 1 ∨ s.tbSrc n ≠ 5 ∨ ofsVerdict (s.tick n) (s.rd64 (Reg.tbOfsTimeLo n)) ≠ 0) →
      Completes (.tbOfsCommit n value) s (· = s.showPins)) ∧
    (∀ src : Fin 16, 0 < src.val → src.val ≤ 5 → s.fld (Reg.tbStatus n) Fld.tbStatus_STATE = 0 →
      Completes (.tbSrcWrite n src) s fun t =>
        t.fld (Reg.tbCtrl n) Fld.tbCtrl_SRC = src.val ∧ t.fld (Reg.tbStatus n) Fld.tbStatus_STATE = 1 ∧
        t.rd (Reg.tbInteg n) = s.rd (Reg.tbFadj n) ∧ t.rd (Reg.tbFadj n) = s.rd (Reg.tbFadj n) ∧ (t.tb n).t = (s.tb n).t ∧
        SameRegs s t [Reg.tbCtrl n, Reg.tbStatus n, Reg.tbInteg n]) ∧
    (s.fld (Reg.tbStatus n) Fld.tbStatus_STATE = 1 → Completes (.tbServoTimeout n) s fun t =>
      t.rd (Reg.tbFadj n) = s.rd (Reg.tbInteg n) ∧ t.fld (Reg.tbStatus n) Fld.tbStatus_STATE = 2 ∧
      OnlyRegs s t ∧ SameRegs s t [Reg.tbFadj n, Reg.tbStatus n]) ∧
    Completes (.tbSrcWrite n 0) s (fun t =>
      t.fld (Reg.tbCtrl n) Fld.tbCtrl_SRC = 0 ∧ t.fld (Reg.tbStatus n) Fld.tbStatus_STATE = 0 ∧
      OnlyRegs s t ∧ SameRegs s t [Reg.tbCtrl n, Reg.tbStatus n]) ∧
    (∀ value, s.fld (Reg.tbStatus n) Fld.tbStatus_STATE = 0 → Completes (.tbFadjWrite n value) s fun t =>
      t.rd (Reg.tbFadj n) = value ∧ OnlyRegs s t ∧ SameRegs s t [Reg.tbFadj n]) ∧
    (∀ value, s.fld (Reg.tbStatus n) Fld.tbStatus_STATE ≠ 0 → Completes (.tbFadjWrite n value) s (· = s.showPins)))

/-- Compare units (R220–R222, R224): arming an unarmed unit whose target lies ahead sets ARM and ARMED and clears SKIPPED; an armed
one-shot unit at its target fires once: MATCH is set, ARM is cleared, LATE and STEPPED read 0, and the interrupt of the time base is
raised when its enable is 1; a unit armed with its target reached fires at once with LATE; a periodic unit takes its next target ahead of
the tick time and stays armed; a pulse ends once its width has passed, and the ball is low. -/
def Obligations.CompareUnitsArmFireAndRelease : Prop :=
  ∀ (s : State) (n : Fin 8) (k : Fin 4),
    (∀ periodic, s.bit (Reg.tbCmpCtrl n k) 0 = false → s.cmpDue n k = false → Completes (.cmpArm n k periodic) s fun t =>
      t.bit (Reg.tbCmpCtrl n k) 0 = true ∧ t.bit (Reg.tbCmpCtrl n k) 1 = periodic ∧
      t.fld (Reg.tbCmpStatus n k) Fld.tbCmpStatus_ARMED = 1 ∧ t.fld (Reg.tbCmpStatus n k) Fld.tbCmpStatus_SKIPPED = 0 ∧
      OnlyRegs s t ∧ SameRegs s t [Reg.tbCmpCtrl n k, Reg.tbCmpStatus n k]) ∧
    (s.bit (Reg.tbCmpCtrl n k) 0 = true → s.bit (Reg.tbCmpCtrl n k) 1 = false → s.cmpDue n k = true →
      Completes (.cmpFire n k) s fun t =>
        t.bit (Reg.tbMatch n) k = true ∧ t.bit (Reg.tbCmpCtrl n k) 0 = false ∧
        t.fld (Reg.tbCmpStatus n k) Fld.tbCmpStatus_LATE = 0 ∧ t.fld (Reg.tbCmpStatus n k) Fld.tbCmpStatus_STEPPED = 0 ∧
        t.intc.raised = s.intc.raised ++ (if s.bit (Reg.tbMatchEn n) k then [14 + n.val] else []) ∧
        SameRegs s t [Reg.tbMatch n, Reg.tbCmpCtrl n k, Reg.tbCmpStatus n k]) ∧
    (s.bit (Reg.tbCmpCtrl n k) 0 = false → s.cmpDue n k = true → Completes (.cmpArm n k false) s fun t =>
      t.bit (Reg.tbMatch n) k = true ∧ t.bit (Reg.tbCmpCtrl n k) 0 = false ∧ t.fld (Reg.tbCmpStatus n k) Fld.tbCmpStatus_LATE = 1) ∧
    (s.bit (Reg.tbCmpCtrl n k) 0 = true → s.bit (Reg.tbCmpCtrl n k) 1 = true → s.rdn (Reg.tbCmpPeriod n k) ≠ 0 → s.cmpDue n k = true →
      State.tickDiff (s.tick n) (s.rd64 (Reg.tbCmpTargetLo n k) + s.rdn (Reg.tbCmpPeriod n k) * 65536) < 0 →
      Completes (.cmpFire n k) s fun t =>
        t.bit (Reg.tbMatch n) k = true ∧ t.bit (Reg.tbCmpCtrl n k) 0 = true ∧
        t.rd64 (Reg.tbCmpTargetLo n k) = (s.rd64 (Reg.tbCmpTargetLo n k) + s.rdn (Reg.tbCmpPeriod n k) * 65536) % 2 ^ 64 ∧
        t.fld (Reg.tbCmpStatus n k) Fld.tbCmpStatus_SKIPPED = s.fld (Reg.tbCmpStatus n k) Fld.tbCmpStatus_SKIPPED) ∧
    (∀ m : Fin 4, ((s.time.tbev.get {} m.val).pulse = none ∨ ∃ x, (s.time.tbev.get {} m.val).pulse = some x ∧
        s.monitorNow < x + max 1 (s.fld (Reg.tbevCfg m) Fld.tbevCfg_WIDTH) * usTicks) → Completes (.tbevPulseEnd m) s (· = s.showPins)) ∧
    (∀ (m : Fin 4) x, (s.time.tbev.get {} m.val).pulse = some x →
      x + max 1 (s.fld (Reg.tbevCfg m) Fld.tbevCfg_WIDTH) * usTicks ≤ s.monitorNow → Completes (.tbevPulseEnd m) s fun t =>
      t.time.tbev.get {} m.val = {} ∧ t.regs = s.regs ∧
      ∀ j, j ≠ m.val → t.time.tbev.get {} j = s.time.tbev.get {} j)

/-! ### Structure loader (R43–R57) -/

/-- The loader moves as R51 says on a load, the end of a fetch, an abort, a time-out and when reset ends, with nothing in OTP touched:
LOAD is taken in WAIT_HOST, FAILED and BUILT from the source of STRUCT_SRC (3 acts as 0) and is ignored elsewhere; a QSPI load clears ALT_USED
(R60) and reads the flash as R48 and R61 say, with STRUCT_QSPI_CFG when the host started it and with its reset value when the straps did. -/
def Obligations.LoaderStatesFollowR51 : Prop :=
  ∀ s : State,
    let source := if s.fld Reg.structSrc ⟨0, 2⟩ = 3 then 0 else s.fld Reg.structSrc ⟨0, 2⟩
    let read (c offset : Nat) : Output :=
      .qspiRead (c % 256) (c.testBit 12) (c / 256 % 16) offset (qspiHz (s.fld Reg.structStraps ⟨2, 2⟩))
    (s.loader.state ∈ [LoaderState.waitHost, .failed, .built] → Completes .structLoad s fun t =>
      t.loader.state = .fetch ∧ t.loader.origin = s.loader.state ∧ t.loader.image = [] ∧ t.loader.startEdges = s.edges ∧
      t.loader.source = source ∧ t.loader.built = s.loader.built ∧
      (source = 0 → t.regs = s.regs ∧ t.sent = s.sent) ∧
      (source ≠ 0 → t.fld Reg.structStatus Fld.structStatus_ALT_USED = 0 ∧ SameRegs s t [Reg.structStatus] ∧
        t.sent = s.sent ++ [read (s.rdn Reg.structQspiCfg) (s.rdn (if source = 1 then Reg.structQspiPri else Reg.structQspiAlt))]) ∧
      t.otp = s.otp) ∧
    (s.loader.state ∉ [LoaderState.waitHost, .failed, .built] → Completes .structLoad s (· = s.showPins)) ∧
    (s.loader.state ∈ [LoaderState.fetch, .check] → Completes .structAbort s fun t =>
      t.loader.state = (if s.loader.origin = .empty then .waitHost else s.loader.origin) ∧ t.loader.image = [] ∧
      t.fld Reg.structStatus Fld.structStatus_ERROR = 0 ∧ t.intc.raised = s.intc.raised ++ [61] ∧
      t.loader.built = s.loader.built ∧ t.loader.params = s.loader.params ∧
      SameRegs s t [Reg.structStatus, Reg.structLoadCount, Reg.structLastUs]) ∧
    (∀ octets, s.loader.state = .fetch → Completes (.structFetchComplete octets) s fun t =>
      t.loader.state = .check ∧ t.regs = s.regs ∧
      t.loader.image = if s.loader.source = 0 then s.stagingRead 0 (min (s.rdn Reg.structSize) 16777216) else octets) ∧
    (s.loader.state = .empty → s.running = true → s.tested = true → s.bit Reg.structStraps 0 = true → Completes .loaderLeaveEmpty s fun t =>
      t.loader = { s.loader with state := .waitHost } ∧ t.regs = s.regs) ∧
    (s.loader.state = .empty → s.running = true → s.tested = true → s.bit Reg.structStraps 0 = false → Completes .loaderLeaveEmpty s fun t =>
      t.loader.state = .fetch ∧ t.loader.source = 1 ∧ t.loader.strapLoad = true ∧ t.loader.startEdges = s.loader.startEdges ∧
      t.sent = s.sent ++ [read 0x18EC (s.rdn Reg.structQspiPri)]) ∧
    ((s.loader.state ≠ .empty ∨ s.running = false ∨ s.tested = false) → Completes .loaderLeaveEmpty s (· = s.showPins)) ∧
    (s.loader.state = .fetch → s.loader.source = 1 → Completes .qspiFetchTimeout s fun t =>
      t.loader.state = .fetch ∧ t.loader.source = 2 ∧ t.fld Reg.structStatus Fld.structStatus_ALT_USED = 1 ∧
      t.sent = s.sent ++ [read (if s.loader.strapLoad then 0x18EC else s.rdn Reg.structQspiCfg) (s.rdn Reg.structQspiAlt)]) ∧
    (s.loader.state = .fetch → s.loader.source = 2 → s.loader.built = true → Completes .qspiFetchTimeout s fun t =>
      t.loader.state = .built ∧ t.fld Reg.structStatus Fld.structStatus_ERROR = 12 ∧ t.intc.raised = s.intc.raised ++ [61])

/-- The checks decide (R43, R51): an image that passes makes the loader APPLY with the regions of its mask busy; the first failure of a
staging-window load is recorded as the error code and ends the load with interrupt 61, the structure in force kept, and one of the primary image
starts the fetch of the alternate; in APPLY the
busy bits of the regions completed clear (R55), and with the last of them the structure is taken: BUILT, no region busy, the rollback number and the digest those of the image, and interrupt 61.

OTP is burnt by the two magic values only (R45, R46): 0xA5 puts the loaded image's signer into the next of four owner slots, 0x5A
raises the rollback floor to the image's number, at most 64, and never lowers it; nothing else changes, and any other value is ignored.

The scrub of configuration memory (R57): corrected bits are counted and saturate; an uncorrectable error strobes fault 37 with its
region and records it; nothing else changes.  Before a structure is built there is nothing to scrub. -/
def Obligations.CheckApplyOtpAndScrub : Prop :=
  (∀ s : State,
    (s.loader.state = .check → checkImage s s.loader.image (s.loader.source != 0) = 0 → Completes .structCheckComplete s fun t =>
      t.loader.state = .apply ∧ t.loader.built = s.loader.built ∧ t.loader.image = s.loader.image ∧
      t.loader.muted = s.loader.muted ||| Image.regionMask s.loader.image ∧
      t.rdn Reg.structRegionBusy = Image.regionMask s.loader.image % 2 ^ 32) ∧
    (s.loader.state = .check → s.loader.source = 0 → s.loader.built = true →
      checkImage s s.loader.image false ≠ 0 → Completes .structCheckComplete s fun t =>
        t.loader = { s.loader with state := .built, image := [] } ∧
        t.fld Reg.structStatus Fld.structStatus_ERROR = checkImage s s.loader.image false % 2 ^ Fld.structStatus_ERROR.len ∧
        t.intc.raised = s.intc.raised ++ [61] ∧
        SameRegs s t [Reg.structStatus, Reg.structLoadCount, Reg.structLastUs]) ∧
    (s.loader.state = .check → s.loader.source = 1 → checkImage s s.loader.image true ≠ 0 → Completes .structCheckComplete s fun t =>
        t.loader.state = .fetch ∧ t.loader.source = 2 ∧ t.fld Reg.structStatus Fld.structStatus_ALT_USED = 1 ∧
        t.loader.built = s.loader.built ∧ SameRegs s t [Reg.structStatus]) ∧
    (∀ m : Nat, s.loader.state = .apply → Completes (.structApplyComplete m) s fun t =>
      (s.applyLeft m = 0 → t.loader.state = .built ∧ t.loader.built = true ∧ t.loader.image = [] ∧
        t.loader.rollback = Image.rollback s.loader.image ∧ t.loader.digest = s.digestAfter s.loader.image ∧
        t.rdn Reg.structRegionBusy = 0 ∧ ∃ before, t.intc.raised = before ++ [61]) ∧
      (s.applyLeft m ≠ 0 → t.loader.state = .apply ∧ t.loader.image = s.loader.image ∧ t.loader.digest = s.loader.digest ∧
        t.loader.rollback = s.loader.rollback ∧ t.rdn Reg.structRegionBusy = s.applyLeft m))) ∧
  (∀ (s : State),
    (s.loader.built = true → s.otp.owners.length < 4 → Completes (.structOwnerProg 0xA5) s fun t =>
      t = ({ s with otp := { s.otp with owners := s.otp.owners ++ [s.loader.signer] } } : State).showPins) ∧
    (s.loader.built = true → Completes (.structRollbackAdv 0x5A) s fun t =>
      t = ({ s with otp := { s.otp with rollback := max s.otp.rollback (min 64 s.loader.rollback) } } : State).showPins) ∧
    (∀ v : Word, (v ≠ 0xA5 → Completes (.structOwnerProg v) s (· = s.showPins)) ∧
      (v ≠ 0x5A → Completes (.structRollbackAdv v) s (· = s.showPins)))) ∧
  (∀ (s : State) (c : Nat) (bad : Option (Fin 20)),
    (s.loader.built = true → Completes (.structScrub c bad) s fun t =>
      t.fld Reg.structScrub ⟨0, 16⟩ = min (s.fld Reg.structScrub ⟨0, 16⟩ + c) 65535 ∧
      t.fault.strobes = s.fault.strobes ++ (match bad with | some r => [(37, r.val, false)] | none => []) ∧
      (∀ r, bad = some r → t.fld Reg.structScrub ⟨22, 5⟩ = r.val) ∧
      SameRegs s t [Reg.structScrub]) ∧
    (s.loader.built = false → Completes (.structScrub c bad) s (· = s.showPins)))

/-! ### Resets, supplies and the test port (R12, R63, R64, R512, R592, R617–R619, R626–R627) -/

/-- A low pulse of PORESET_B (R619, R63, R528): at most 1 µs is ignored; between 1 µs and 5 µs the manual forbids it and the model stops
by name; from 5 µs on, as in a brownout of VDD_AON (R618), everything is as at reset but for one-time-programmable memory and the
latched grave faults with their details and FAULT_GRAVE.

Loss of VDD_AON leaves the state of reset (R528, R618), but for one-time-programmable memory, the model's own counters and the
commands that wait: no fault stays latched.

Chip reset (R63, R592, R618): the structure is discarded and the loader is EMPTY, the lanes, the store and the line ports lose their
state, and GLOBAL_RESET_CAUSE shows the cause; the time bases keep their values.

Startup (R47, R64): at the end of PORESET_B the straps are sampled; after the OTP read the identity and wear registers hold their
OTP values and the SPI port is open; the self-test strobes fault 1, 20 and 21 as it found, in that order, and with a TRNG that
passed and an unlocked store a CURRENT master key exists.

Loss of VDDIO_33 stops the heartbeat (R512): BYP_HB is not driven. -/
def Obligations.ResetsAndStartup : Prop :=
  (∀ (s : State) (ns : Nat),
    (ns ≤ 1000 → Completes (.poresetAssert ns) s (· = s.showPins)) ∧
    (1000 < ns → ns < 5000 → exec (.poresetAssert ns) s = .fault .forbiddenResetPulse) ∧
    (∀ c ∈ [Instr.poresetAssert (ns + 5000), .vddAonBrownout], Completes c s fun t =>
      t.running = false ∧ t.ready = false ∧ t.loader = {} ∧ t.edges = 0 ∧ t.time = {} ∧ t.facet = {} ∧ t.store = {} ∧
      t.staging = [] ∧ t.reserve = [] ∧ t.otp = s.otp ∧ t.pending = s.pending ∧ t.keys.cur = none ∧
      (∀ n ∈ [15, 17, 18, 19, 33, 39, 43], t.faultLatched n = s.faultLatched n ∧
        (s.faultLatched n = true → t.rd (Reg.faultDetail n) = s.rd (Reg.faultDetail n))) ∧
      (∀ n, n < 48 → n ∉ [15, 17, 18, 19, 33, 39, 43] → t.faultLatched n = false) ∧
      t.rd Reg.faultGrave = s.rd Reg.faultGrave)) ∧
  (∀ s : State, Completes .vddAonLoss s fun t =>
    t = ({ State.reset with otp := s.otp, sent := s.sent, free := s.free, pending := s.pending, keys := { draws := s.keys.draws },
                            tapIr := s.tapIr } : State).showPins) ∧
  (∀ s : State, s.running = true →
    (∀ byFault, Completes (.chipReset byFault) s fun t =>
      t.loader = { startEdges := s.edges } ∧ t.staging = [] ∧ t.facet.tasks = [] ∧ t.running = true ∧ t.otp = s.otp ∧
      (∀ n, (t.tb n).t = (s.tb n).t) ∧ t.rdn Reg.globalResetCause = if byFault then 4 else 2) ∧
    Completes .vddCoreLow s fun t =>
      t.loader = { startEdges := s.edges } ∧ t.staging = [] ∧ t.facet.tasks = [] ∧ (∀ n, (t.tb n).t = (s.tb n).t) ∧
      t.rd Reg.globalResetCause = s.rd Reg.globalResetCause) ∧
  (∀ s : State,
    (∀ straps : BitVec 5, s.running = false → Completes (.poresetRelease straps) s fun t =>
      t.running = true ∧ t.rdn Reg.structStraps = straps.toNat ∧
      t.rdn Reg.structSrc = (if straps.getLsbD 0 then 0 else 1) ∧ SameRegs s t [Reg.structStraps, Reg.structSrc]) ∧
    (s.running = true → s.ready = false → Completes .otpReadDone s fun t =>
      t.ready = true ∧ t.rd64 Reg.keysUidLo = s.otp.uid.toNat ∧ t.rdn Reg.ageHours = s.otp.hours % 2 ^ 32 ∧
      (∀ k, k < 8 → t.rdn (Reg.keysIdPub k) = s.otp.idPub.toNat / 2 ^ (32 * k) % 2 ^ 32) ∧
      SameRegs s t ([Reg.keysUidLo, Reg.keysUidLo + 4, Reg.keysStatus, Reg.vidStatus, Reg.ageHours, Reg.ageFitA, Reg.ageFitN] ++
        (List.range 8).map Reg.keysIdPub)) ∧
    (∀ sram aead trng, s.ready = true → s.tested = false → Completes (.startupSelftestDone sram aead trng) s fun t =>
      t.fault.strobes = s.fault.strobes ++ (match sram with | some d => [(1, d.toNat, false)] | none => []) ++
        (if trng then [] else [(20, 0, false)]) ++ (if aead then [] else [(21, 0, false)]) ∧
      (trng = true → s.fld Reg.keysStatus Fld.keysStatus_LOCKED = 0 → t.keys.cur.isSome = true ∧ t.keys.seeded = true) ∧
      (trng = false → t.keys = s.keys) ∧ t.tested = true)) ∧
  (∀ s : State, Completes .vddio33Loss s fun t => t.chain.noIo = true ∧ t.pins.bypHb = false)

/-- The test port (R626, R627): an update of the instruction register selects the register; with IDCODE and BYPASS nothing else happens,
and with every other code the key store is zeroized and fault 39 strobes with the code. -/
def Obligations.TestPortZeroizesButForIdcodeAndBypass : Prop :=
  ∀ (s : State),
    (∀ p ∈ [(Instr.tapIdcode, 1), (.tapBypass, 255)], Completes p.1 s fun t =>
      t = ({ s with tapIr := p.2, sent := s.sent ++ [.tap p.2] } : State).showPins) ∧
    (∀ p ∈ [(Instr.tapExtest, 0), (.tapSamplePreload, 2), (.tapExtestPulse, 3), (.tapExtestTrain, 4), (.tapHighz, 5), (.tapClamp, 6)],
      Completes p.1 s fun t =>
        t.tapIr = p.2 ∧ t.keys.cur = none ∧ t.keys.pair = none ∧ t.keys.window = [] ∧ t.nts.mintKey = [] ∧
        t.fld Reg.keysStatus Fld.keysStatus_ZEROIZED = 1 ∧ t.fault.strobes = s.fault.strobes ++ [(39, p.2, false)]) ∧
    (∀ code : Byte, 7 ≤ code.toNat → code.toNat < 255 → Completes (.tapOtherCode code) s fun t =>
      t.tapIr = code.toNat ∧ t.keys.cur = none ∧ t.keys.pair = none ∧ t.keys.window = [] ∧ t.nts.mintKey = [] ∧
      t.fld Reg.keysStatus Fld.keysStatus_ZEROIZED = 1 ∧ t.fault.strobes = s.fault.strobes ++ [(39, code.toNat, false)])

/-! ### Faults (R16, R519–R536) -/

/-- A collector tick with one event of a source that is not grave, has no block-reset and no chip-reset reaction (R520, R523, R525,
R530, R531): its status bit latches, COUNT and DETAIL are updated, and a first latch raises interrupt 0 with INT, asserts NMI_B with NMI and
is recorded in FAULT_FIRST when that is released; no other source's status changes.  A tick with any number of such events latches
every source named and no other; one with a single event of a grave source latches it.

Clearing status bits (R521, R528): a bit of a source whose level has ended clears, a grave source's stays, and bits not written stay. -/
def Obligations.FaultEventsLatchAndClear : Prop :=
  ((∀ s : State,
    (∀ e ∈ s.fault.strobes, e.1 < 48 ∧ e.1 ∉ [6, 15, 17, 18, 19, 33, 39, 43] ∧ s.bit (Reg.faultCfg e.1) 2 = false ∧
      s.bit (Reg.faultCfg e.1) 3 = false) →
    Completes .faultTake s fun t => t.fault.strobes = [] ∧
      ∀ m, m < 48 → t.faultLatched m = (s.faultLatched m || s.fault.strobes.any fun e => e.1 == m)) ∧
  (∀ (s : State) (n d : Nat), n ∈ [15, 17, 18, 19, 33, 39, 43] → s.fault.strobes = [(n, d, false)] →
    s.bit (Reg.faultCfg n) 2 = false → s.bit (Reg.faultCfg n) 3 = false → Completes .faultTake s fun t => t.faultLatched n = true) ∧
  ∀ (s : State) (n d : Nat), n < 48 → n ∉ [6, 15, 17, 18, 19, 33, 39, 43] → s.fault.strobes = [(n, d, false)] →
    s.bit (Reg.faultCfg n) 2 = false → s.bit (Reg.faultCfg n) 3 = false →
    Completes .faultTake s fun t =>
      t.faultLatched n = true ∧ t.fault.strobes = [] ∧
      t.rdn (Reg.faultDetail n) = min 255 (s.rdn (Reg.faultDetail n) / 2 ^ 24 + 1) * 2 ^ 24 + d % 65536 ∧
      (∀ m, m < 48 → m ≠ n → t.faultLatched m = s.faultLatched m) ∧
      t.intc.raised = s.intc.raised ++ (if s.faultLatched n = false ∧ s.bit (Reg.faultCfg n) 0 = true then [0] else []) ∧
      (s.faultLatched n = false → s.bit (Reg.faultCfg n) 1 = true → t.fault.nmi = true ∧ t.bit Reg.faultNmi 1 = true) ∧
      (s.faultLatched n = false → s.bit Reg.faultFirst 31 = false →
        t.rdn Reg.faultFirst = 2 ^ 31 + 65536 + min 2 (s.rdn (Reg.faultCfg n) / 256 % 4) * 256 + n) ∧
      ((s.faultLatched n = true ∨ s.bit Reg.faultFirst 31 = true) → t.rd Reg.faultFirst = s.rd Reg.faultFirst)) ∧
  (∀ (s : State) (hi : Bool) (v : Word), Completes (.faultStatusClear hi v) s fun t =>
    (∀ n, n < 48 → t.faultLatched n =
      (s.faultLatched n && !(decide (n / 32 = hi.toNat) && v.toNat.testBit (n % 32) && !([15, 17, 18, 19, 33, 39, 43].contains n)))) ∧
    SameRegs s t [Reg.faultStatusLo, Reg.faultStatusHi])

/-- Forced and software faults (R532, R533, R16): an armed force makes one event for every bit written, marked as forced, and uses up the
arming; an unarmed one drops its grave bits, which counts as one violation; 0x33 arms and no other value does; a software
fault carries the written value, and a stalled handshake its position.

The first-fault record and the two fault pins (R525, R530, R531): RELEASE empties FAULT_FIRST and its time; ACK clears PEND and
releases NMI_B, but not before it has been asserted for 1 µs; with no class-3 fault latched HOLD follows the write, but a
clear written while the minimum width runs waits for its end. -/
def Obligations.ForcedFaultsAndFaultPins : Prop :=
  (∀ (s : State) (p : Port) (hi : Bool) (v : Word),
    let bits := (List.range 32).filter fun i => v.toNat.testBit i && decide (i + 32 * hi.toNat < 48)
    (∀ a, s.fault.armed = some a → s.edges ≤ a + 625000 → Completes (.faultForce p hi v) s fun t =>
      t.fault = { s.fault with armed := none,
                               strobes := s.fault.strobes ++ bits.map fun i => (i + 32 * hi.toNat, 0xFFFF, true) } ∧ t.regs = s.regs) ∧
    (s.fault.armed = none → Completes (.faultForce p hi v) s fun t =>
      t.fault = { s.fault with strobes := s.fault.strobes ++
        (bits.filter fun i => !([15, 17, 18, 19, 33, 39, 43].contains (i + 32 * hi.toNat))).map fun i => (i + 32 * hi.toNat, 0xFFFF, true) } ∧
      t.rdn Reg.dbgViolCount = if bits.any fun i => [15, 17, 18, 19, 33, 39, 43].contains (i + 32 * hi.toNat)
        then min (s.rdn Reg.dbgViolCount + 1) 65535 else s.rdn Reg.dbgViolCount) ∧
    Completes (.faultForceArm 0x33) s (fun t => t.fault = { s.fault with armed := some s.edges } ∧ t.regs = s.regs) ∧
    (v ≠ 0x33 → Completes (.faultForceArm v) s (· = s.showPins)) ∧
    Completes (.faultSoft v) s (fun t => t = (s.raiseFault 47 (v.toNat % 65536)).showPins) ∧
    ∀ pos : Fin 24, Completes (.handshakeStall pos) s fun t => t = (s.raiseFault 43 pos).showPins) ∧
  (∀ s : State,
    Completes .faultFirstRelease s (fun t => t.rd Reg.faultFirst = 0 ∧ t.rd64 Reg.faultFirstTimeLo = 0 ∧ OnlyRegs s t ∧
      SameRegs s t [Reg.faultFirst, Reg.faultFirstTimeLo, Reg.faultFirstTimeLo + 4]) ∧
    Completes .faultNmiAck s (fun t => t.bit Reg.faultNmi 1 = false ∧ SameRegs s t [Reg.faultNmi] ∧
      t.fault = if s.fault.nmiMin then { s.fault with nmiAck := s.fault.nmi } else { s.fault with nmi := false }) ∧
    (s.fault.nmiMin = true → s.fault.nmiEnd ≤ s.edges → Completes .nmiBMinWidthEnd s fun t => t.regs = s.regs ∧
      t.fault = { s.fault with nmiMin := false, nmi := s.fault.nmi && !s.fault.nmiAck, nmiAck := false }) ∧
    ((∀ n ∈ [15, 17, 18, 19, 33, 39, 43], s.faultLatched n = false) →
      Completes (.faultEpinHoldWrite true) s (fun t => t.bit Reg.faultEpin 24 = true ∧ SameRegs s t [Reg.faultEpin] ∧
        (s.running = true → t.pins.errB = true)) ∧
      (s.fault.errMin = false → Completes (.faultEpinHoldWrite false) s fun t => t.bit Reg.faultEpin 24 = false ∧
        SameRegs s t [Reg.faultEpin] ∧ t.pins.errB = false) ∧
      (s.fault.errMin = true → Completes (.faultEpinHoldWrite false) s fun t =>
        t.regs = s.regs ∧ t.fault = { s.fault with holdClear := true })) ∧
    ((s.fault.nmiMin = false ∨ s.edges < s.fault.nmiEnd) → Completes .nmiBMinWidthEnd s (· = s.showPins)) ∧
    ((s.fault.errMin = false ∨ s.edges < s.fault.errEnd) → Completes .errBMinWidthEnd s (· = s.showPins)) ∧
    (s.fault.errMin = true → s.fault.errEnd ≤ s.edges → Completes .errBMinWidthEnd s fun t =>
      t.fault = { s.fault with errMin := false, holdClear := false } ∧ SameRegs s t [Reg.faultEpin] ∧
      t.bit Reg.faultEpin 24 = (s.bit Reg.faultEpin 24 && !s.fault.holdClear)))

/-- FAULT_SOFT (R533): one event of source 47 with the written value [15:0] as its detail, and nothing else; the tick that takes it shows that
detail. -/
def Obligations.SoftFaultsFollowR533 : Prop :=
  ∀ (s : State) (v : Word),
    (Completes (.faultSoft v) s fun t =>
      t = (s.raiseFault 47 (v.toNat % 65536)).showPins ∧ t.fault.strobes = s.fault.strobes ++ [(47, v.toNat % 65536, false)]) ∧
    (s.fault.strobes = [] → s.bit (Reg.faultCfg 47) 3 = false → Completes (.faultSoft v) s fun t => Completes .faultTake t fun u =>
      u.fld (Reg.faultDetail 47) ⟨0, 16⟩ = v.toNat % 65536)

/-! ### References and selection (R68–R109) -/

/-- The host's switches of a reference (R81, R87, R103): ENABLE of a FORCED_OFF reference starts it in DISQUALIFIED; a disabled reference
is FORCED_OFF with KIND NONE and no samples; ACCEPT makes an INCONSISTENT one usable, and does nothing elsewhere; SEL_CTRL
takes its written fields, and a change of mode that changes the selection is recorded with reason 4.

Losses and waits (R74, R81, R83, R184): a live reference with no activity for its detection time, or no stamp for 2 s, is DISQUALIFIED, with no samples, ACTIVITY 0 and
EVER_LOST, and before that the command does nothing; a
wait that ends makes it usable when it passes the phase rule and INCONSISTENT with KIND PHASE when it fails.

The ToD FIFO of a PPSIN reference (R79, R106, R551): 256 octets; an octet enters when there is room and raises interrupt 10 as the fill
crosses LEVEL; a read takes the oldest and shows it, with OVERRUN when one was lost; an empty FIFO shows the last with UNDERRUN;
a full one loses the octet and strobes fault 40.

The oscillators (R70–R72): when the oscillator in use loses its edges and the other is fitted and good, the other is taken and fault 14
strobes; with no reference selected the comparison of two good oscillators sets DISAGREE when they differ by more than OSC_FLIMIT
and clears it otherwise; a preferred oscillator that is fitted and not failed is taken into use. -/
def Obligations.ReferencesTodAndOscillators : Prop :=
  (∀ (s : State) (n : Fin 20),
    (s.refState n = 5 → Completes (.refEnable n) s fun t =>
      t.refState n = 0 ∧ t.fld (Reg.refCtrl n) Fld.refCtrl_ENABLE = 1 ∧ (t.ref n).samples = [] ∧ t.rd (Reg.refFofs n) = 0 ∧
      (s.choice = s.selected → SameRegs s t [Reg.refCtrl n, Reg.refState n, Reg.refFofs n, Reg.refFofsShort n])) ∧
    (s.refState n ≠ 5 → Completes (.refEnable n) s fun t =>
      t.refState n = s.refState n ∧ t.fld (Reg.refCtrl n) Fld.refCtrl_ENABLE = 1 ∧ SameRegs s t [Reg.refCtrl n]) ∧
    Completes (.refDisable n) s (fun t => t.refState n = 5 ∧ t.fld (Reg.refCtrl n) Fld.refCtrl_ENABLE = 0 ∧
      (s.refState n ≠ 5 → t.fld (Reg.refState n) Fld.refState_KIND = 0 ∧ (t.ref n).samples = [])) ∧
    (s.refState n = 4 → Completes (.refAccept n) s fun t =>
      t.refState n ∈ [2, 3] ∧ t.fld (Reg.refState n) Fld.refState_KIND = 0) ∧
    (s.refState n ≠ 4 → Completes (.refAccept n) s (· = s.showPins)) ∧
    ∀ value : Word, Completes (.selCtrlWrite value) s fun t => t.rd Reg.selCtrl = value &&& 0x1F23 ∧
      ((s.wr Reg.selCtrl (value &&& 0x1F23)).choice ≠ s.selected →
        min 2 (s.fld Reg.selCtrl Fld.selCtrl_MODE) ≠ min 2 (t.fld Reg.selCtrl Fld.selCtrl_MODE) → t.rdn Reg.selLast % 2 ^ 16 = 4)) ∧
  (∀ (s : State) (n : Fin 20),
    (s.lossDue n = true → s.refState n ∈ [1, 2, 3, 4] → Completes (.refActivityLoss n) s fun t =>
      t.refState n = 0 ∧ (t.ref n).samples = [] ∧ t.fld (Reg.refState n) Fld.refState_ACTIVITY = 0 ∧
      t.fld (Reg.refHistory n) Fld.refHistory_EVER_LOST = 1) ∧
    (s.lossDue n = true → s.refState n = 0 → Completes (.refActivityLoss n) s fun t =>
      t.refState n = 0 ∧ t.fld (Reg.refState n) Fld.refState_ACTIVITY = 0 ∧ SameRegs s t [Reg.refState n]) ∧
    ((s.refState n = 5 ∨ s.lossDue n = false) → Completes (.refActivityLoss n) s (· = s.showPins)) ∧
    (s.refState n = 1 → s.rdn (Reg.refWtrLeft n) % 65536 ≤ 1 → s.failsPhase n = false → Completes (.refWtrExpire n) s fun t =>
      t.refState n ∈ [2, 3] ∧ t.rd (Reg.refWtrLeft n) = 0) ∧
    (s.refState n = 1 → s.rdn (Reg.refWtrLeft n) % 65536 ≤ 1 → s.failsPhase n = true → Completes (.refWtrExpire n) s fun t =>
      t.refState n = 4 ∧ t.fld (Reg.refState n) Fld.refState_KIND = 1 ∧
      t.fld (Reg.refHistory n) Fld.refHistory_EVER_INCONSISTENT = 1)) ∧
  (∀ (s : State) (n : Fin 4),
    (∀ o : Byte, (s.ref n).tod.length < 256 → Completes (.todRxOctet n o) s fun t =>
      (t.ref n).tod = (s.ref n).tod ++ [o.toNat] ∧ t.regs = s.regs ∧ t.fault = s.fault ∧
      t.intc.raised = s.intc.raised ++ (if (s.ref n).tod.length = s.fld (Reg.refTodCfg n) Fld.refTodCfg_LEVEL then [10] else [])) ∧
    (∀ o : Byte, 256 ≤ (s.ref n).tod.length → Completes (.todRxOctet n o) s fun t =>
      (t.ref n).tod = (s.ref n).tod ∧ (t.ref n).todOver = true ∧
      t.fault.strobes = s.fault.strobes ++ [(40, n.val * 256 + 6, false)]) ∧
    (∀ o os, (s.ref n).tod = o :: os → Completes (.todDataRead n) s fun t =>
      (t.ref n).tod = os ∧ t.rdn (Reg.refTodData n) = (o + (s.ref n).todOver.toNat * 512) % 2 ^ 32 ∧
      SameRegs s t [Reg.refTodData n]) ∧
    ((s.ref n).tod = [] → Completes (.todDataRead n) s fun t =>
      (t.ref n).tod = [] ∧ t.rdn (Reg.refTodData n) = ((s.ref n).todLast + 256 + (s.ref n).todOver.toNat * 512) % 2 ^ 32)) ∧
  (∀ s : State,
    (s.noOsc = false → s.bit Reg.oscStatus 0 = false → s.bit Reg.oscStatus 1 = false → s.bit Reg.oscStatus 2 = false →
      s.bit Reg.oscCtrl 1 = true → Completes (.oscEdgeLoss 0) s fun t =>
        t.bit Reg.oscStatus 0 = true ∧ t.bit Reg.oscStatus 1 = true ∧ t.bit Reg.oscStatus 2 = false ∧
        t.fault.strobes = s.fault.strobes ++ [(14, 0, false)]) ∧
    (∀ (a b ab : BitVec 32) (ea eb : Bool), s.selected = none → s.bit Reg.oscStatus 1 = false → s.bit Reg.oscStatus 2 = false →
      s.bit Reg.oscCtrl 1 = true → Completes (.oscCompare a b ab ea eb) s fun t =>
        t.rd Reg.oscFofs = 0 ∧ t.bit Reg.oscStatus 3 = decide (s.rdn Reg.oscFlimit < ab.toInt.natAbs) ∧
        SameRegsBut s t [(Reg.oscFofs, Reg.oscFofs + 4), (Reg.oscStatus, Reg.oscStatus + 4), (0x50000, 0x60000)]) ∧
    (s.bit Reg.oscCtrl 1 = true → s.bit Reg.oscStatus 2 = false → s.noOsc = false → s.bit Reg.oscStatus 0 = false →
      Completes (.oscEdgeLoss 1) s fun t => t.bit Reg.oscStatus 2 = true ∧ t.bit Reg.oscStatus 0 = false ∧ t.fault.strobes = s.fault.strobes) ∧
    (∀ osc : Fin 2, (osc.val = 0 ∨ s.bit Reg.oscCtrl 1 = true) → s.bit Reg.oscStatus (1 + osc) = false →
      Completes (.oscPreferWrite osc) s fun t => t.bit Reg.oscStatus 0 = (osc.val == 1) ∧ t.bit Reg.oscCtrl 0 = (osc.val == 1) ∧
        t.noOsc = false ∧ (s.noOsc = false → t.fault = s.fault)) ∧
    (∀ osc : Fin 2, s.bit Reg.oscStatus (1 + osc) = true → Completes (.oscPreferWrite osc) s (· = s.showPins)))

/-- Phase samples (R73, R78, R79, R99, R100), with the phase-hit test off: a counted event of a monitored reference sets ACTIVITY, and where its
channel stamped it the nominal time of the events less TB_0 joins its samples; a PPSIN pulse takes the label written for it, or the previous
label plus one, and its phase is label plus cable delay minus capture; a committed offset waits for the monitor, which takes it as one
sample. -/
def Obligations.PhaseSamplesAreKept : Prop :=
  ∀ (s : State),
    (∀ (n : Fin 8) (c : Int) (k : Nat), (s.ref (4 + n)).evt = some (some c, k) → s.refState (4 + n) ≠ 5 →
      s.rdn (Reg.refPhaseHit (4 + n)) % 2 ^ 24 = 0 → Completes (.refMonitorEvent n) s fun t =>
        (t.ref (4 + n)).samples = (c - s.movedAt c, s.eventTime (4 + n) k - (c - s.movedAt c)) :: (s.ref (4 + n)).samples ∧
        (t.ref (4 + n)).evt = none ∧ t.fld (Reg.refState (4 + n)) Fld.refState_ACTIVITY = 1 ∧ SameRegs s t [Reg.refState (4 + n)]) ∧
    (∀ (n : Fin 8) (k : Nat), (s.ref (4 + n)).evt = some (none, k) → s.refState (4 + n) ≠ 5 → Completes (.refMonitorEvent n) s fun t =>
        (t.ref (4 + n)).samples = (s.ref (4 + n)).samples ∧ (t.ref (4 + n)).evt = none ∧
        t.fld (Reg.refState (4 + n)) Fld.refState_ACTIVITY = 1 ∧ SameRegs s t [Reg.refState (4 + n)]) ∧
    (∀ (n : Fin 8) e, (s.ref (4 + n)).evt = some e → s.refState (4 + n) = 5 → Completes (.refMonitorEvent n) s fun t =>
        (t.ref (4 + n)).evt = none ∧ (t.ref (4 + n)).samples = (s.ref (4 + n)).samples ∧ t.regs = s.regs) ∧
    (∀ n : Fin 8, (s.ref (4 + n)).evt = none → Completes (.refMonitorEvent n) s (· = s.showPins)) ∧
    (∀ n : Fin 4, (s.ref n).evt = none → Completes (.ppsinPulse n) s (· = s.showPins)) ∧
    (∀ (n : Fin 4) (c : Int) (k l : Nat), (s.ref n).evt = some (some c, k) → s.refState n ≠ 5 →
      s.rdn (Reg.refPhaseHit n) % 2 ^ 24 = 0 → (s.ref n).labelWritten = false → (s.ref n).lastLabel = some l →
      (s.ref n).unlabelled + 1 < s.fld (Reg.refTodCfg n) Fld.refTodCfg_TIMEOUT → Completes (.ppsinPulse n) s fun t =>
        (t.ref n).lastLabel = some (l + 1) ∧ (t.ref n).unlabelled = (s.ref n).unlabelled + 1 ∧
        t.fld (Reg.refState n) Fld.refState_TOD_OK = 0 ∧
        t.rd64 (Reg.refPhaseLo n) = uns 64 (((l + 1) * secondTicks : Nat) + s.rd64i (Reg.refDelayLo n) - c) ∧
        SameRegs s t [Reg.refState n, Reg.refPhaseLo n, Reg.refPhaseLo n + 4]) ∧
    (∀ (n : Fin 4) (c : Int) (k : Nat), (s.ref n).evt = some (some c, k) → s.refState n ≠ 5 →
      s.rdn (Reg.refPhaseHit n) % 2 ^ 24 = 0 → (s.ref n).labelWritten = true → Completes (.ppsinPulse n) s fun t =>
        let label := s.rdn (Reg.refTodSecLo n) + s.rdn (Reg.refTodSecHi n) % 65536 * 2 ^ 32
        (t.ref n).lastLabel = some label ∧ (t.ref n).labelWritten = false ∧ (t.ref n).unlabelled = 0 ∧
        t.fld (Reg.refState n) Fld.refState_TOD_OK = 1 ∧
        t.rd64 (Reg.refPhaseLo n) = uns 64 ((label * secondTicks : Nat) + s.rd64i (Reg.refDelayLo n) - c) ∧
        (t.ref n).samples = (c - s.movedAt c, (label * secondTicks : Nat) + s.rd64i (Reg.refDelayLo n) - c + s.movedAt c) :: (s.ref n).samples ∧
        SameRegs s t [Reg.refState n, Reg.refPhaseLo n, Reg.refPhaseLo n + 4]) ∧
    (∀ (n : Fin 8) value, (value ≠ 1 ∨ n.val ∉ [4, 7] ∨ (n.val = 4 ∧ s.hasGnssLane = true)) →
      Completes (.refOfsCommit n value) s (· = s.showPins)) ∧
    (s.hasGnssLane = false → ofsVerdict (s.tick 0) (s.rd64 (Reg.refOfsTimeLo 16)) = 0 → Completes (.refOfsCommit 4 1) s fun t =>
      (t.ref 16).waiting = some ⟨s.rd64i (Reg.refOfsLo 16), s.rd64 (Reg.refOfsTimeLo 16), s.rdn (Reg.refOfsUnc 16)⟩ ∧
      t.fld (Reg.refOfsStatus 16) Fld.refOfsStatus_ACCEPTED = (s.fld (Reg.refOfsStatus 16) Fld.refOfsStatus_ACCEPTED + 1) % 65536 ∧
      SameRegs s t [Reg.refOfsStatus 16]) ∧
    (ofsVerdict (s.tick 0) (s.rd64 (Reg.refOfsTimeLo 19)) = 0 → Completes (.refOfsCommit 7 1) s fun t =>
      (t.ref 19).waiting = some ⟨s.rd64i (Reg.refOfsLo 19), s.rd64 (Reg.refOfsTimeLo 19), s.rdn (Reg.refOfsUnc 19)⟩ ∧
      t.fld (Reg.refOfsStatus 19) Fld.refOfsStatus_ACCEPTED = (s.fld (Reg.refOfsStatus 19) Fld.refOfsStatus_ACCEPTED + 1) % 65536 ∧
      SameRegs s t [Reg.refOfsStatus 19]) ∧
    (∀ n : Fin 8, ((s.ref (12 + n)).waiting = none ∨ 1024 ≤ (s.ref (12 + n)).takes) → Completes (.refOfsTake n) s (· = s.showPins)) ∧
    (∀ (n : Fin 8) w, (s.ref (12 + n)).waiting = some w → (s.ref (12 + n)).takes < 1024 → s.refState (12 + n) ≠ 5 → s.rdn (Reg.refPhaseHit (12 + n)) % 2 ^ 24 = 0 →
      Completes (.refOfsTake n) s fun t =>
        (t.ref (12 + n)).waiting = none ∧ t.rd64 (Reg.refPhaseLo (12 + n)) = uns 64 w.ofs ∧
        (∀ x, x = (s.fullTicks 0 : Int) - State.tickDiff (s.tick 0) w.time →
          (t.ref (12 + n)).samples = (x - s.movedAt x, w.ofs + s.movedAt x) :: (s.ref (12 + n)).samples) ∧
        t.fld (Reg.refState (12 + n)) Fld.refState_ACTIVITY = 1)

/-! ### Oscillators, temperature and snapshots (R70–R72, R113, R123–R126) -/

/-- The temperature sensor and the snapshot (R113, R124–R126): with EN set an acknowledged value is shown, and VALID is set from the third
good read in a row and cleared from the third bad one, and with EN clear nothing is read; an export with the identity key builds the snapshot, whose end puts it into
the window with RESULT 1; a restore that passes its checks becomes busy, and its end gives RESULT 2; while busy an export is RESULT 6,
and without the identity key it is RESULT 5. -/
def Obligations.TemperatureAndSnapshotCommands : Prop :=
  ∀ s : State,
    (∀ v : BitVec 16, s.on Reg.holdTempCfg Fld.holdTempCfg_EN = true → Completes (.tempSensorRead (some v)) s fun t =>
      t.fld Reg.holdTemp ⟨0, 16⟩ = v.toNat ∧ t.hold.good = s.hold.good + 1 ∧ t.hold.bad = 0 ∧
      t.bit Reg.holdTemp 16 = (s.bit Reg.holdTemp 16 || decide (2 ≤ s.hold.good)) ∧ SameRegs s t [Reg.holdTemp]) ∧
    (∀ v, s.on Reg.holdTempCfg Fld.holdTempCfg_EN = false → Completes (.tempSensorRead v) s (· = s.showPins)) ∧
    (s.on Reg.holdTempCfg Fld.holdTempCfg_EN = true → Completes (.tempSensorRead none) s fun t =>
      t.hold.bad = s.hold.bad + 1 ∧ t.hold.good = 0 ∧ t.fld Reg.holdTemp ⟨0, 16⟩ = s.fld Reg.holdTemp ⟨0, 16⟩ ∧
      t.bit Reg.holdTemp 16 = (s.bit Reg.holdTemp 16 && decide (s.hold.bad < 2))) ∧
    (s.on Reg.holdSnapStatus Fld.holdSnapStatus_BUSY = false → s.on Reg.keysStatus Fld.keysStatus_ID_OK = true →
      Completes .holdSnapExport s fun t =>
        t.on Reg.holdSnapStatus Fld.holdSnapStatus_BUSY = true ∧ t.hold.building = s.snapshot ∧ t.hold.restoring = false ∧
        SameRegs s t [Reg.holdSnapStatus]) ∧
    (s.on Reg.holdSnapStatus Fld.holdSnapStatus_BUSY = false → s.on Reg.keysStatus Fld.keysStatus_ID_OK = false →
      Completes .holdSnapExport s fun t => t.fld Reg.holdSnapStatus Fld.holdSnapStatus_RESULT = 5 ∧ t.hold = s.hold) ∧
    (s.restoreCheck ∈ [3, 4, 5, 6] → Completes .holdSnapRestore s fun t =>
      t.fld Reg.holdSnapStatus Fld.holdSnapStatus_RESULT = s.restoreCheck ∧ t.hold = s.hold) ∧
    (s.on Reg.holdSnapStatus Fld.holdSnapStatus_BUSY = true → Completes .holdSnapExport s fun t =>
      t.fld Reg.holdSnapStatus Fld.holdSnapStatus_RESULT = 6 ∧ t.hold = s.hold) ∧
    (s.on Reg.holdSnapStatus Fld.holdSnapStatus_BUSY = true → s.hold.restoring = false → Completes .holdSnapExportDone s fun t =>
      t.hold.window = SMap.ofList 0 0 s.hold.building ∧ t.on Reg.holdSnapStatus Fld.holdSnapStatus_BUSY = false ∧
      t.fld Reg.holdSnapStatus Fld.holdSnapStatus_RESULT = 1) ∧
    (s.restoreCheck = 0 → Completes .holdSnapRestore s fun t =>
      t.hold.restoring = true ∧ t.on Reg.holdSnapStatus Fld.holdSnapStatus_BUSY = true ∧
      t.fld Reg.holdSnapStatus Fld.holdSnapStatus_REFUSED = 0 ∧ t.hold.a = s.hold.a ∧ t.hold.b = s.hold.b) ∧
    (s.on Reg.holdSnapStatus Fld.holdSnapStatus_BUSY = true → s.hold.restoring = true → Completes .holdSnapRestoreDone s fun t =>
      t.hold.restoring = false ∧ t.on Reg.holdSnapStatus Fld.holdSnapStatus_BUSY = false ∧
      t.fld Reg.holdSnapStatus Fld.holdSnapStatus_RESULT = 2)

/-! ### Synthesisers and outputs (R143–R174) -/

/-- The synthesisers enter the states of R149 with an oscillator present: a table makes an EMPTY one ACQUIRE, a survey starts from EMPTY,
ACQUIRE, LOCKED and RELOCK, lock is achieved from ACQUIRE and RELOCK with no phase error beyond LOCK_TOL, with FLOCK the measured offset
and the pull it was set for in force, and loss of lock and a relock time-out go to ACQUIRE while a commanded relock goes to RELOCK,
gated; guarded edges are counted in GUARD (R159).

Surveys, bands and the envelope (R146, R148, R152–R154): the end of a survey stores 64 centres and, with none in range, sets
SURVEY_FAIL and returns to EMPTY; a time-out tries the next band, a retry starts the choice again; a pull is kept by SYN_A
and SYN_B and makes a LOCKED one RELOCK; a target inside the envelope, 100 ppm of FLOCK and 10 ppm of the last target, is followed, one
outside it makes a LOCKED synthesiser RELOCK.

INPUT mode (R165): the oldest stamp delivered clears NO_INPUT and joins the last eight; without a stamp nothing happens; a missing edge
sets NO_INPUT, and the eighth in a row ends the fit. -/
def Obligations.SynthesisersFollowTheirStates : Prop :=
  (∀ (s : State) (k : Fin 3), s.noOsc = false →
    (s.synState k = 1 → s.synBands k ≠ [] → Completes (.synTableReady k) s fun t => t.synState k = 3) ∧
    (s.synState k ∈ [1, 3, 4, 5] → Completes (.synSurvey k) s fun t => t.synState k = 2) ∧
    (∀ (freq : BitVec 32) (worst : BitVec 16) (gaps : List (Nat × Nat)), s.synState k = 3 ∨ s.synState k = 5 →
      worst.toNat ≤ max 1 (s.fld (Reg.synLoop k) Fld.synLoop_LOCK_TOL) →
      Completes (.synLockAchieved k freq worst gaps) s fun t => t.rd (Reg.synFlock k) = freq ∧
        (t.synE k).pull = (s.synE k).goal ∧ t.rdn (Reg.synGuard k) = min (s.rdn (Reg.synGuard k) + s.swallowed k gaps) 0xFFFFFFFF ∧
        (s.synPull k = (s.synE k).goal → t.synState k = 4 ∧ t.fld (Reg.synStatus k) Fld.synStatus_BYPASS = 0 ∧
          t.fld (Reg.synStatus k) Fld.synStatus_GATED = 0) ∧
        (s.synPull k ≠ (s.synE k).goal → t.synState k = 5)) ∧
    (∀ (freq : BitVec 32) (worst : BitVec 16) (gaps : List (Nat × Nat)), (s.synState k ∉ [3, 5] ∨
        max 1 (s.fld (Reg.synLoop k) Fld.synLoop_LOCK_TOL) < worst.toNat) → Completes (.synLockAchieved k freq worst gaps) s (· = s.showPins)) ∧
    (s.synState k = 4 → Completes (.synRelock k) s fun t => t.synState k = 5 ∧ t.fld (Reg.synStatus k) Fld.synStatus_GATED = 1 ∧
      (t.synE k).goal = s.synPull k ∧ t.fld (Reg.synUnlocks k) ⟨16, 16⟩ = min (s.fld (Reg.synUnlocks k) ⟨16, 16⟩ + 1) 65535) ∧
    (∀ (least : BitVec 16) (bankEnd : Bool) (gaps : List (Nat × Nat)), s.synState k = 4 →
      (bankEnd = true ∨ 10 * max 1 (s.fld (Reg.synLoop k) Fld.synLoop_UNLOCK_TOL) < least.toNat) →
      Completes (.synUnlock k least bankEnd gaps) s fun t => t.synState k = 3 ∧
        t.fld (Reg.synUnlocks k) ⟨0, 16⟩ = min (s.fld (Reg.synUnlocks k) ⟨0, 16⟩ + 1) 65535) ∧
    (∀ (least : BitVec 16) (gaps : List (Nat × Nat)), least.toNat ≤ 10 * max 1 (s.fld (Reg.synLoop k) Fld.synLoop_UNLOCK_TOL) →
      Completes (.synUnlock k least false gaps) s (· = s.showPins)) ∧
    (s.synState k = 5 → s.synWaited k 5 = true → Completes (.synRelockTimeout k) s fun t => t.synState k = 3)) ∧
  (∀ (s : State) (k : Fin 3), s.noOsc = false →
    (∀ (centres : List (BitVec 24)) gaps, s.synState k = 2 → (∀ c ∈ centres, c = 0) → Completes (.synSurveyDone k centres gaps) s fun t =>
      t.synState k = 1 ∧ t.fld (Reg.synStatus k) Fld.synStatus_SURVEY_FAIL = 1 ∧ ∀ i, i < 64 → t.rd (Reg.synBand k i) = 0) ∧
    (∀ (centres : List (BitVec 24)) gaps (i : Fin 64), s.synState k = 2 → centres.length = 64 →
      (synBandRange k).2.1 ≤ (centres.getD i 0).toNat → (centres.getD i 0).toNat ≤ (synBandRange k).2.2 →
      Completes (.synSurveyDone k centres gaps) s fun t =>
        t.synState k = 3 ∧ t.rdn (Reg.synBand k i) = (centres.getD i 0).toNat + 2 ^ 31 ∧
        t.fld (Reg.synStatus k) Fld.synStatus_SURVEY_FAIL = 0) ∧
    (s.synState k = 3 → (s.synE k).failed = false → s.synWaited k 5 = true → Completes (.synAcquireTimeout k) s fun t =>
      t.synState k = 3 ∧ (t.synE k).tried = s.fld (Reg.synStatus k) Fld.synStatus_BAND :: (s.synE k).tried) ∧
    (s.synState k = 3 → (s.synE k).failed = true → s.synWaited k 1000 = true → Completes (.synAcquireRetry k) s fun t =>
      t.synState k = 3 ∧ (t.synE k).tried = []) ∧
    (∀ pull : Fin 8, k.val ≠ 0 → s.synState k ≠ 4 → Completes (.synPullWrite k pull) s fun t =>
      t.fld (Reg.synCtrl k) Fld.synCtrl_PULL = pull.val ∧ OnlyRegs s t ∧ SameRegs s t [Reg.synCtrl k]) ∧
    (∀ pull : Fin 8, k.val ≠ 0 → s.synState k = 4 → (if 4 < pull.val then 0 else pull.val) ≠ (s.synE k).pull →
      Completes (.synPullWrite k pull) s fun t =>
        t.fld (Reg.synCtrl k) Fld.synCtrl_PULL = pull.val ∧ t.synState k = 5 ∧ (t.synE k).goal = if 4 < pull.val then 0 else pull.val) ∧
    (∀ pull : Fin 8, k.val = 0 → Completes (.synPullWrite k pull) s (· = s.showPins)) ∧
    (∀ (v : BitVec 32) gaps, s.synState k = 4 →
      (v.toInt - s.rdi (Reg.synFlock k)).natAbs * 1000000000 ≤ 100000 * (1000000000 + s.rdi (Reg.synFlock k)) →
      (v.toInt - (s.synE k).target.getD (s.rdi (Reg.synFlock k))).natAbs * 1000000000 ≤
        10000 * (1000000000 + (s.synE k).target.getD (s.rdi (Reg.synFlock k))) → Completes (.synEnvelopeCheck k v gaps) s fun t =>
        t.synState k = 4 ∧ t.rd (Reg.synFnow k) = v ∧ (t.synE k).target = some v.toInt ∧ SameRegs s t [Reg.synFnow k, Reg.synGuard k]) ∧
    (∀ (v : BitVec 32) gaps, s.synState k = 4 →
      100000 * (1000000000 + s.rdi (Reg.synFlock k)) < (v.toInt - s.rdi (Reg.synFlock k)).natAbs * 1000000000 →
      Completes (.synEnvelopeCheck k v gaps) s fun t => t.synState k = 5)) ∧
  (∀ (s : State) (n : Fin 12),
    ((s.outE n).fed = [] → Completes (.alignerInputEdge n) s (· = s.showPins)) ∧
    (s.outOn n = true → s.inputMode n = true →
      (∀ x xs, (s.outE n).fed = x :: xs → Completes (.alignerInputEdge n) s fun t =>
        (t.outE n).edges = (x :: (s.outE n).edges).take 8 ∧ (t.outE n).fed = xs ∧ (t.outE n).missing = 0 ∧
        t.bit (Reg.outStatus n) 6 = false ∧ SameRegs s t [Reg.outStatus n, Reg.outDelay n]) ∧
      Completes (.alignerInputMissing n) s fun t =>
        t.bit (Reg.outStatus n) 6 = true ∧ (t.outE n).missing = min 8 ((s.outE n).missing + 1) ∧
        (7 ≤ (s.outE n).missing → (t.outE n).edges = []) ∧ SameRegs s t [Reg.outStatus n]) ∧
    ((s.outOn n = false ∨ s.inputMode n = false) → Completes (.alignerInputMissing n) s (· = s.showPins)))

/-- CLKOUT and PPSOUT (R157, R162–R167, R170): an enabled idle CLKOUT with its source LOCKED starts aligned, at an alignment instant, with
interrupt 9; a write of SRC and DIV returns it to idle; an offset moves a CLKOUT at once without SLEW and over time with it, and a PPSOUT
from its next edge; a PPSOUT raises its pulse once at each period boundary, waits while a pulse runs or ended less than 1 µs ago, and ends
it after its width; a missing edge read back fails it with fault 45; a CLKOUT whose monitor counts no edge fails with fault 44, and one with
the count due does not. -/
def Obligations.OutputsAlignIdleAndFail : Prop :=
  ∀ (s : State),
    (∀ n : Fin 8, s.outOn n = true → s.padMode n ≠ 0 → s.outTooFast n = false → s.fld (Reg.outCtrl n) Fld.outCtrl_SRC ≠ 3 →
      s.synState (s.fld (Reg.outCtrl n) Fld.outCtrl_SRC) = 4 → s.bit (Reg.outStatus n) 2 = false → s.inputMode n = false →
      s.alignDue n = true →
      Completes (.clkoutAlignInstant n) s fun t => t.bit (Reg.outStatus n) 2 = true ∧ t.bit (Reg.outStatus n) 0 = true ∧
        t.intc.raised = s.intc.raised ++ [9] ∧ SameRegs s t [Reg.outStatus n, Reg.outDelay n]) ∧
    (∀ n : Fin 8, s.alignDue n = false → Completes (.clkoutAlignInstant n) s (· = s.showPins)) ∧
    (∀ (n : Fin 8) (src : Fin 4) (div : Word), Completes (.outSrcDivWrite n src div) s fun t =>
      t.fld (Reg.outCtrl n) Fld.outCtrl_SRC = src.val ∧ t.rd (Reg.outDiv n) = div ∧ t.bit (Reg.outStatus n) 2 = false ∧
      OnlyRegs s t ∧ SameRegs s t [Reg.outCtrl n, Reg.outDiv n, Reg.outStatus n]) ∧
    (∀ (n : Fin 12) (v : Word), 8 ≤ n.val → Completes (.outOffsetWrite n v) s fun t => t = (s.wr (Reg.outOffset n) v).showPins) ∧
    (∀ (n : Fin 12) (v : Word), n.val < 8 → Completes (.outOffsetWrite n v) s fun t =>
      let p := s.outPeriod n
      t.rd (Reg.outOffset n) = v ∧ (t.outE n).off = v.toInt ∧
      (t.outE n).rem = (if s.fld (Reg.outAlign n) Fld.outAlign_SLEW = 0 then 0
        else ((v.toInt - (s.outE n).off + (s.outE n).rem) * p.2 % p.1 / p.2).toNat) ∧
      SameRegs s t [Reg.outOffset n, Reg.outDelay n]) ∧
    (∀ (n : Fin 4) (k : Int), s.outOn (8 + n) = true → s.padMode (8 + n) ≠ 0 → s.fld (Reg.outAlign (8 + n)) Fld.outAlign_SLEW = 0 →
      s.pulseDue (8 + n) = some k → (s.outE (8 + n)).pulsed ≠ some k → (s.outE (8 + n)).high = false →
      (∀ x, (s.outE (8 + n)).ended = some x → x + usTicks ≤ s.monitorNow) →
      Completes (.ppsoutPulse n (some 0) false) s (fun t => (t.outE (8 + n)).high = true ∧ t.fault = s.fault ∧
        (t.outE (8 + n)).off = s.rdi (Reg.outOffset (8 + n)) ∧ (t.outE (8 + n)).pulsed = some k ∧ SameRegs s t [Reg.outDelay (8 + n)]) ∧
      Completes (.ppsoutPulse n none false) s fun t => (t.outE (8 + n)).high = true ∧ t.bit (Reg.outStatus (8 + n)) 1 = true ∧
        t.fault.strobes = s.fault.strobes ++ [(45, 8 + n.val, false)]) ∧
    (∀ (n : Fin 4) (k : Int) e, s.outOn (8 + n) = true → s.padMode (8 + n) ≠ 0 → s.pulseDue (8 + n) = some k →
      (s.outE (8 + n)).pulsed ≠ some k →
      ((s.outE (8 + n)).high = true ∨ ∃ x, (s.outE (8 + n)).ended = some x ∧ s.monitorNow < x + usTicks) →
      Completes (.ppsoutPulse n e false) s fun t => (t.outE (8 + n)).late = true ∧ (t.outE (8 + n)).high = (s.outE (8 + n)).high ∧
        t.regs = s.regs ∧ t.fault = s.fault) ∧
    (∀ (n : Fin 4) e x, (s.outOn (8 + n) = false ∨ s.padMode (8 + n) = 0) → Completes (.ppsoutPulse n e x) s (· = s.showPins)) ∧
    (∀ n : Fin 4, (s.outE (8 + n)).high = true → (s.outE (8 + n)).since + s.pulseWidth (8 + n) * usTicks ≤ s.monitorNow →
      Completes (.ppsoutPulseEnd n) s fun t => (t.outE (8 + n)).high = false ∧ (t.outE (8 + n)).ended = some s.monitorNow ∧ t.regs = s.regs ∧
        ∀ m, m ≠ 8 + n.val → t.outE m = s.outE m) ∧
    (∀ n : Fin 4, ((s.outE (8 + n)).high = false ∨ s.monitorNow < (s.outE (8 + n)).since + s.pulseWidth (8 + n) * usTicks) →
      Completes (.ppsoutPulseEnd n) s (· = s.showPins)) ∧
    (∀ n : Fin 8, s.bit (Reg.outStatus n) 0 = true → s.bit (Reg.outStatus n) 4 = false → s.bit (Reg.outStatus n) 3 = true →
      Completes (.clkoutMonitor n 0) s fun t => t.bit (Reg.outStatus n) 1 = true ∧
        t.fault.strobes = s.fault.strobes ++ [(44, n.val, false)] ∧ SameRegs s t [Reg.outStatus n]) ∧
    (∀ (n : Fin 8) (count : Word), s.bit (Reg.outStatus n) 0 = true → s.bit (Reg.outStatus n) 4 = false → s.bit (Reg.outStatus n) 3 = false →
      count.toNat = (s.outFreq n).1 / (1000 * (s.outFreq n).2) → Completes (.clkoutMonitor n count) s (· = s.showPins))

/-! ### The Loupe (R175–R193) -/

/-- The gate of a TI channel moves as R187 says with GRID on SYN_G: START arms, or calibrates at once with LATE when the arm time is less
than 4 µs ahead; 4 µs before the arm time it calibrates, at the arm time (or with LATE 4 µs after the START) it opens, and when its length
or count is reached it closes; an end latches the count of values, sets DONE and raises interrupt 12; a mode write abandons an active
gate, and of an enabled reference's channel only REF is taken (R176). -/
def Obligations.LoupeGateFollowsR187 : Prop :=
  ∀ (s : State) (n : Fin 12),
    (s.loupeMode n = 2 → s.gridBypass = false → s.gateState n ∈ [0, 4] → Completes (.loupeStart n) s fun t =>
      let late := decide (tickDiff (s.rd64 (Reg.loupeArmLo n)) (s.tick (s.fld (Reg.loupeCfg n) Fld.loupeCfg_TB)) < 4000 * 65536)
      t.gateState n = (if late then 2 else 1) ∧ t.fld (Reg.loupeStatus n) Fld.loupeStatus_LATE = late.toNat ∧
      (t.lch n).stats = {} ∧ (t.lch n).taken = 0 ∧ SameRegs s t [Reg.loupeStatus n]) ∧
    (s.loupeMode n = 2 → s.gridBypass = true → s.gateState n ∈ [0, 4] → Completes (.loupeStart n) s (· = s.showPins)) ∧
    (s.loupeMode n = 2 → s.gateState n = 1 → s.toArm n ≤ 4000 * 65536 → Completes (.loupeArmCal n) s fun t =>
      t.gateState n = 2 ∧ (t.lch n).gateCal = false ∧ (t.lch n).calFrom = some s.edges ∧ SameRegs s t [Reg.loupeStatus n]) ∧
    (4000 * 65536 < s.toArm n → Completes (.loupeArmCal n) s (· = s.showPins)) ∧
    (s.loupeMode n = 2 → s.gateState n = 2 → (s.lch n).gateCal = true →
      (s.fld (Reg.loupeStatus n) Fld.loupeStatus_LATE = 0 → s.toArm n ≤ 0) →
      (s.fld (Reg.loupeStatus n) Fld.loupeStatus_LATE = 1 → (s.lch n).opened + 2500 ≤ s.edges) → Completes (.loupeGateOpen n) s fun t =>
        t.gateState n = 3 ∧ (t.lch n).opened = s.edges ∧ SameRegs s t [Reg.loupeStatus n]) ∧
    (s.loupeMode n = 2 → s.gateState n = 3 →
      ((s.rdn (Reg.loupeGate n) ≠ 0 ∧ (s.lch n).opened + 625 * s.rdn (Reg.loupeGate n) ≤ s.edges) ∨
        (s.rdn (Reg.loupeCount n) % 65536 ≠ 0 ∧ s.rdn (Reg.loupeCount n) % 65536 ≤ (s.lch n).taken)) →
      Completes (.loupeGateClose n) s fun t =>
        t.gateState n = 4 ∧ t.fld (Reg.loupeStatus n) Fld.loupeStatus_END = 0 ∧ t.bit Reg.loupeDone n = true ∧
        t.rdn (Reg.loupeN n) = min (s.lch n).stats.n 0xFFFFFFFF ∧ t.intc.raised = s.intc.raised ++ [12]) ∧
    (s.loupeMode n = 2 → s.gateState n ∈ [1, 2, 3] → Completes (.loupeStop n) s fun t =>
      t.gateState n = 4 ∧ t.fld (Reg.loupeStatus n) Fld.loupeStatus_END = 1 ∧ t.bit Reg.loupeDone n = true ∧
      t.rdn (Reg.loupeN n) = min (s.lch n).stats.n 0xFFFFFFFF ∧ t.intc.raised = s.intc.raised ++ [12]) ∧
    ((s.loupeMode n ≠ 2 ∨ s.gateState n ∈ [0, 4]) → Completes (.loupeStop n) s (· = s.showPins)) ∧
    (∀ mode : Fin 8, s.refState n = 5 → s.gateState n ∈ [1, 2, 3] → Completes (.loupeModeWrite n mode) s fun t =>
      t.gateState n = 0 ∧ t.fld (Reg.loupeCfg n) Fld.loupeCfg_MODE = mode.val ∧ SameRegs s t [Reg.loupeCfg n, Reg.loupeStatus n]) ∧
    (∀ mode : Fin 8, s.refState n = 5 → s.gateState n ∉ [1, 2, 3] → Completes (.loupeModeWrite n mode) s fun t =>
      t.fld (Reg.loupeCfg n) Fld.loupeCfg_MODE = mode.val ∧ (t.lch n).stats = {} ∧ (t.lch n).first = true ∧
      SameRegs s t [Reg.loupeCfg n]) ∧
    (s.refState n ≠ 5 → Completes (.loupeModeWrite n 1) s fun t =>
      t.fld (Reg.loupeCfg n) Fld.loupeCfg_MODE = 1 ∧ t.loupe = s.loupe ∧ SameRegs s t [Reg.loupeCfg n]) ∧
    (∀ mode : Fin 8, mode.val ≠ 1 → s.refState n ≠ 5 → Completes (.loupeModeWrite n mode) s (· = s.showPins))

/-- Stamps, blocks and calibrations (R73, R175, R178, R180–R186, R189, R190): an edge of the channel's source and slope that its divider passes is
stamped by a calibrated channel that captures, outside the 2.5 ns dead time, and in REF mode its monitor has the stamp to take; one inside a
calibration counts as MISSED, and in REF mode its monitor sees activity alone; an edge that the divider holds back counts, and one of
another source or slope does nothing; after 1 ms a CONT block latches its count and starts afresh with a calibration; a calibration that
passes opens the channel and clears CAL_FAIL, and one that fails strobes fault 16, sets it, and ends a gate in CAL.

Guests and the Loupe FIFO (R181, R191, R192, R551): a target that is due, with a free channel that calibrates, has its error recorded, a marker its
stamp; with no free channel it is skipped and counted; a target that is not due is left; a read of the FIFO takes the oldest entry and latches
its four words, and of an empty FIFO shows the last again. -/
def Obligations.LoupeStampsGuestsAndFifo : Prop :=
  (∀ (s : State) (n : Fin 12),
    (∀ (src : Fin 22) (falling : Bool) (code : BitVec 16) (busy : Bool), s.loupeSees n src falling = true →
      s.loupeDiv n ≤ (s.lch n).pre + 1 → s.loupeCaptures n = true → (s.lch n).calFrom = none → (s.lch n).calOk = true →
      (∀ l, (s.lch n).lastAt = some l → 2500 ≤ s.edgeAt n code - l) →
      Completes (.loupeStamp n src falling code busy) s fun t =>
        (t.lch n).last = some (s.stampPs n (s.fld (Reg.loupeCfg n) Fld.loupeCfg_TB) code) ∧
        (t.lch n).lastAt = some (s.edgeAt n code) ∧ (t.lch n).first = false ∧ (t.lch n).taken = (s.lch n).taken + 1 ∧ (t.lch n).pre = 0 ∧
        (s.loupeMode n = 1 → s.refState n ≠ 5 → (t.ref n).evt = some (some (s.stampTicks n 0 code), (s.ref n).evts + 1))) ∧
    (∀ (src : Fin 22) (falling : Bool) (code : BitVec 16) (busy : Bool) (e : Nat), s.loupeSees n src falling = true →
      s.loupeDiv n ≤ (s.lch n).pre + 1 → s.loupeCaptures n = true → (s.lch n).calFrom = some e →
      Completes (.loupeStamp n src falling code busy) s fun t =>
        t.fld (Reg.loupeCounters n) ⟨0, 16⟩ = min (s.fld (Reg.loupeCounters n) ⟨0, 16⟩ + 1) 65535 ∧
        (t.lch n).taken = (s.lch n).taken ∧ (t.lch n).period = none ∧ SameRegs s t [Reg.loupeCounters n] ∧
        (s.loupeMode n = 1 → s.refState n ≠ 5 → (t.ref n).evt = some (none, (s.ref n).evts + 1))) ∧
    (∀ (src : Fin 22) (falling : Bool) (code : BitVec 16) (busy : Bool), s.loupeSees n src falling = true →
      (s.lch n).pre + 1 < s.loupeDiv n → Completes (.loupeStamp n src falling code busy) s fun t =>
        t.lch n = { s.lch n with pre := (s.lch n).pre + 1 } ∧ t.regs = s.regs ∧ t.refs = s.refs) ∧
    (∀ (src : Fin 22) (falling : Bool) (code : BitVec 16) (busy : Bool), s.loupeSees n src falling = false →
      Completes (.loupeStamp n src falling code busy) s (· = s.showPins)) ∧
    (s.loupeMode n = 3 → s.gridBypass = false → (s.lch n).calFrom = none → (s.lch n).since + 625000 ≤ s.edges →
      Completes (.loupeContBlock n) s fun t =>
        t.rdn (Reg.loupeN n) = min (s.lch n).stats.n 0xFFFFFFFF ∧ (t.lch n).stats = {} ∧ (t.lch n).first = true ∧
        (t.lch n).calFrom = some s.edges ∧ (t.lch n).calOk = false ∧
        SameRegs s t [Reg.loupeN n, Reg.loupeMeanLo n, Reg.loupeMeanLo n + 4, Reg.loupeSdev n, Reg.loupeMin n, Reg.loupeMax n]) ∧
    (s.loupeMode n = 2 → s.gateState n = 3 → s.gridBypass = false → (s.lch n).calFrom = none → (s.lch n).since + 625000 ≤ s.edges →
      Completes (.loupeContBlock n) s fun t =>
        (t.lch n).calFrom = some s.edges ∧ (t.lch n).stats = (s.lch n).stats ∧ t.regs = s.regs) ∧
    (s.edges < (s.lch n).since + 625000 → Completes (.loupeContBlock n) s (· = s.showPins)) ∧
    (∀ gain noise offset : BitVec 32, s.calDue n = true → calPasses gain.toNat (s.calRes n offset.toInt) = true →
      Completes (.loupeCalibration n gain noise offset) s fun t =>
        t.rd (Reg.loupeCalGain n) = gain ∧ (t.lch n).calOk = true ∧ (t.lch n).offset = some offset.toInt ∧ (t.lch n).calFrom = none ∧
        t.bit Reg.loupeStatusOf (16 + n) = false ∧ t.fault = s.fault) ∧
    (∀ gain noise offset : BitVec 32, s.calDue n = true → calPasses gain.toNat (s.calRes n offset.toInt) = false →
      Completes (.loupeCalibration n gain noise offset) s fun t =>
        (t.lch n).calOk = false ∧ t.bit Reg.loupeStatusOf (16 + n) = true ∧
        t.fault.strobes = s.fault.strobes ++ [(16, n.val, false)] ∧
        (s.loupeMode n = 2 → s.gateState n = 2 → t.gateState n = 4 ∧ t.fld (Reg.loupeStatus n) Fld.loupeStatus_END = 2)) ∧
    (∀ gain noise offset : BitVec 32, s.calDue n = false → Completes (.loupeCalibration n gain noise offset) s (· = s.showPins))) ∧
  (∀ (s : State),
    (∀ (target : Fin 16) (err : BitVec 32) (code : BitVec 16) (gain noise offset : BitVec 32) (busy : Bool) (c : Nat),
      s.guestDue target = true → target.val < 12 → s.guestChannel = some c → calPasses gain.toNat (s.calRes c offset.toInt) = true →
      s.on (Reg.loupeCfg c) Fld.loupeCfg_FIFO = false → Completes (.loupeGuest target err code gain noise offset busy) s fun t =>
        t.rd (Reg.loupeOutErr target) = err ∧ t.loupe.measured = s.loupe.measured ||| 2 ^ target.val ∧
        SameRegs s t [Reg.loupeOutErr target, Reg.loupeCalGain c, Reg.loupeCalRes c, Reg.loupeNoise c, Reg.loupeMeas c, Reg.loupeStatusOf]) ∧
    (∀ (target : Fin 16) (err : BitVec 32) (code : BitVec 16) (gain noise offset : BitVec 32) (busy : Bool) (c : Nat),
      s.guestDue target = true → 12 ≤ target.val → s.guestChannel = some c → calPasses gain.toNat (s.calRes c offset.toInt) = true →
      Completes (.loupeGuest target err code gain noise offset busy) s fun t =>
        t.loupe.measured = s.loupe.measured ||| 2 ^ target.val ∧ ∃ x, t.loupe.marks = s.loupe.marks.set 0 (target - 12) x) ∧
    (∀ (target : Fin 16) (err : BitVec 32) (code : BitVec 16) (gain noise offset : BitVec 32) (busy : Bool),
      s.guestDue target = true → s.guestChannel = none → Completes (.loupeGuest target err code gain noise offset busy) s fun t =>
        t.rdn Reg.loupeGuestMiss = min (s.rdn Reg.loupeGuestMiss + 1) 0xFFFFFFFF ∧ OnlyRegs s t ∧ SameRegs s t [Reg.loupeGuestMiss]) ∧
    (∀ (target : Fin 16) (err : BitVec 32) (code : BitVec 16) (gain noise offset : BitVec 32) (busy : Bool),
      s.guestDue target = false → Completes (.loupeGuest target err code gain noise offset busy) s (· = s.showPins)) ∧
    (∀ (w0 w1 w2 w3 : Word) (es : List (List Word)), s.loupe.fifo.entries = [w0, w1, w2, w3] :: es →
      Completes .loupeFifoRead s fun t =>
        t.loupe.fifo.entries = es ∧ t.rd (Reg.loupeFifo 0) = w0 ∧ t.rd (Reg.loupeFifo 1) = w1 ∧ t.rd (Reg.loupeFifo 2) = w2 ∧
        t.rd (Reg.loupeFifo 3) = w3 ∧ t.loupe.fifo.lost = s.loupe.fifo.lost ∧
        SameRegs s t [Reg.loupeFifo 0, Reg.loupeFifo 1, Reg.loupeFifo 2, Reg.loupeFifo 3, Reg.loupeStatusOf]) ∧
    (s.loupe.fifo.entries = [] → Completes .loupeFifoRead s fun t => t.loupe.fifo.entries = [] ∧ t.loupe.fifo.lost = s.loupe.fifo.lost))

/-- The dead time of a channel (R182): an event less than 2.5 ns after the edge last stamped is not stamped and counts in MISSED, an edge is
stamped only outside the dead time, and an edge on one channel leaves every other channel as it was. -/
def Obligations.DeadTimeFollowsR182 : Prop :=
  ∀ (s : State) (n : Fin 12) (src : Fin 22) (falling : Bool) (code : BitVec 16) (busy : Bool),
    (∀ l, (s.lch n).lastAt = some l → s.edgeAt n code - l < 2500 → s.loupeSees n src falling = true → s.loupeDiv n ≤ (s.lch n).pre + 1 →
      s.loupeCaptures n = true → (s.lch n).calOk = true →
      Completes (.loupeStamp n src falling code busy) s fun t =>
        (t.lch n).taken = (s.lch n).taken ∧ (t.lch n).last = (s.lch n).last ∧ (t.lch n).lastAt = (s.lch n).lastAt ∧
        t.fld (Reg.loupeCounters n) ⟨0, 16⟩ = min (s.fld (Reg.loupeCounters n) ⟨0, 16⟩ + 1) 65535 ∧
        SameRegs s t [Reg.loupeCounters n]) ∧
    (Completes (.loupeStamp n src falling code busy) s fun t =>
      (t.lch n).taken ≠ (s.lch n).taken → ∀ l, (s.lch n).lastAt = some l → 2500 ≤ s.edgeAt n code - l) ∧
    (Completes (.loupeStamp n src falling code busy) s fun t => ∀ m, m ≠ n.val → t.lch m = s.lch m)

/-! ### GNSS baseband (R229–R258) -/

/-- The sample clock and the inputs (R231–R234): in listen mode the received edges start the clock, their mean phase is shown, and LISTEN_LOCK is set where
they were stable; a stop clears the run bit, sets CLOCK_LOST, stops every channel and the capture and posts a KIND 2 record; a millisecond
of samples of an input is judged: MAG_FRAC, STUCK and LEVEL_BAD are shown, and fault 30 strobes when STUCK is new.

The record FIFOs (R241, R242, R244, R245): a navigation entry whose symbols are complete joins GNSS_NAV when it has room, and before that nothing
happens; a read by the host takes the oldest record of each and latches its words, and reads zero while the GNSS_LOOP lane is the reader.

Antenna supervision (R234, R252): a short sets SHORT, and with AUTO_OFF trips the supply and strobes fault 30; RETRY seconds later a retry switches it
on again with POWER, or trips it again while the short lasts; an open circuit sets OPEN, and strobes fault 30 after a second with OPEN_FAULT; the
end of each clears its bit. -/
def Obligations.GnssInputsRecordsAndAntenna : Prop :=
  (∀ (s : State),
    (∀ phases : List (BitVec 16), s.gnssOn = true → s.sclkMode = 2 → phases ≠ [] → Completes (.gnssListenLock phases) s fun t =>
      let sum := (phases.map (·.toInt)).foldl (· + ·) 0
      t.rd Reg.gnssSclkPhase = BitVec.ofInt 32 (sum * 50 / phases.length) ∧ t.sclkRuns = true ∧
      ((∀ p ∈ phases, (p.toInt * phases.length - sum).natAbs ≤ 20 * phases.length) → t.bit Reg.gnssStatus 2 = true) ∧
      OnlyRegs s t ∧ SameRegs s t [Reg.gnssSclkPhase, Reg.gnssStatus]) ∧
    (∀ phases : List (BitVec 16), (s.gnssOn = false ∨ s.sclkMode ≠ 2 ∨ phases = []) → Completes (.gnssListenLock phases) s (· = s.showPins)) ∧
    (∀ time : BitVec 64, s.sclkMode = 2 → s.sclkRuns = true → s.acqState ∉ [1, 2] → (∀ c, c < 96 → s.chState c = 0) →
      s.gnss.dump.entries.length < 2048 → Completes (.gnssSclkStop time) s fun t =>
        t.sclkRuns = false ∧ t.bit Reg.gnssStatus 1 = true ∧ t.gnss.dump.entries.length = s.gnss.dump.entries.length + 1 ∧
        SameRegs s t [Reg.gnssStatus, Reg.gnssDumpStatus, Reg.gnssNavStatus]) ∧
    (∀ time : BitVec 64, (s.sclkMode ≠ 1 ∨ s.synLocked 0 = false) → s.sclkRuns = true → Completes (.gnssSclkStop time) s fun t =>
        t.sclkRuns = false ∧ t.bit Reg.gnssStatus 1 = true ∧ (∀ c, c < 96 → t.chState c = 0) ∧ t.acqState ∉ [1, 2]) ∧
    (∀ time : BitVec 64, ((s.sclkMode = 1 ∧ s.synLocked 0 = true) ∨ s.sclkRuns = false) → Completes (.gnssSclkStop time) s (· = s.showPins)) ∧
    (∀ (n : Fin 4) (balls : List (BitVec 16)), s.ifOn n = true → balls ≠ [] → Completes (.gnssFeMonitor n balls) s fun t =>
        let mag := s.magFrac n balls
        t.fld (Reg.gnssIfStatus n) Fld.gnssIfStatus_MAG_FRAC = mag ∧
        t.fld (Reg.gnssIfStatus n) Fld.gnssIfStatus_STUCK = (s.ifStuck n balls).toNat ∧
        t.fld (Reg.gnssIfStatus n) Fld.gnssIfStatus_LEVEL_BAD =
          (decide (mag < s.fld (Reg.gnssIfCfg n) Fld.gnssIfCfg_LEVEL_MIN) ||
            decide (s.fld (Reg.gnssIfCfg n) Fld.gnssIfCfg_LEVEL_MAX < mag)).toNat ∧
        (s.ifStuck n balls = true → s.fld (Reg.gnssIfStatus n) Fld.gnssIfStatus_STUCK = 0 →
          t.fault.strobes = s.fault.strobes ++ [(30, n.val, false)]) ∧
        SameRegs s t [Reg.gnssIfStatus n]) ∧
    (∀ (n : Fin 4) (balls : List (BitVec 16)), s.ifOn n = false → Completes (.gnssFeMonitor n balls) s (· = s.showPins))) ∧
  (∀ (s : State),
    (∀ (c : Fin 96) (f : Nat), s.chFormat c = some f → s.fld (Reg.chStatus c) Fld.chStatus_NAV_STATE = 2 →
      (navSize f).1 + (navSize f).2.2 ≤ (s.gch c).navSyms.length → s.gnss.nav.entries.length < 256 → Completes (.gnssNavEntry c) s fun t =>
        t.gnss.nav.entries.length = s.gnss.nav.entries.length + 1 ∧ t.gnss.nav.lost = s.gnss.nav.lost ∧
        t.gnss.nav.entries.take s.gnss.nav.entries.length = s.gnss.nav.entries ∧ t.gnss.dump = s.gnss.dump ∧
        (t.gch c).navSyms = (s.gch c).navSyms.drop (navSize f).1) ∧
    (∀ (c : Fin 96) (f : Nat), s.chFormat c = some f → (s.gch c).navSyms.length < (navSize f).1 + (navSize f).2.2 →
      Completes (.gnssNavEntry c) s (· = s.showPins)) ∧
    (∀ (w : Word) (ws : List Word) (es : List (List Word)), s.laneReads = false → s.gnss.dump.entries = (w :: ws) :: es →
      ws.length = 9 → Completes .gnssDumpRead s fun t =>
        t.gnss.dump.entries = es ∧ t.rd (Reg.gnssDump 0) = w ∧ (∀ i, i < 9 → t.rd (Reg.gnssDump (i + 1)) = ws.getD i 0) ∧
        t.gnss.nav = s.gnss.nav) ∧
    (s.laneReads = true → Completes .gnssDumpRead s fun t => t.gnss = s.gnss ∧ ∀ i, i < 10 → t.rd (Reg.gnssDump i) = 0) ∧
    (s.laneReads = true → Completes .gnssNavRead s fun t => t.gnss = s.gnss ∧ ∀ i, i < 16 → t.rd (Reg.gnssNav i) = 0) ∧
    (∀ (w : Word) (ws : List Word) (es : List (List Word)), s.laneReads = false → s.gnss.nav.entries = (w :: ws) :: es →
      ws.length = 15 → Completes .gnssNavRead s fun t =>
        t.gnss.nav.entries = es ∧ t.rd (Reg.gnssNav 0) = w ∧ (∀ i, i < 15 → t.rd (Reg.gnssNav (i + 1)) = ws.getD i 0) ∧
        t.gnss.dump = s.gnss.dump)) ∧
  (∀ (s : State),
    let inputs := (List.range 4).map fun n => Reg.gnssIfStatus n
    (s.bit Reg.gnssAntCtrl 1 = true → Completes .gnssAntShort s fun t =>
      t.bit Reg.gnssAntStatus 1 = true ∧ t.bit Reg.gnssAntStatus 2 = true ∧ t.bit Reg.gnssAntStatus 3 = false ∧ t.pins.antEn = false ∧
      t.fault.strobes = s.fault.strobes ++ [(30, 0x8000, false)] ∧ SameRegs s t (Reg.gnssAntStatus :: inputs)) ∧
    (s.bit Reg.gnssAntCtrl 1 = false → Completes .gnssAntShort s fun t =>
      t.bit Reg.gnssAntStatus 1 = true ∧ t.fault = s.fault ∧ SameRegs s t [Reg.gnssAntStatus]) ∧
    (s.bit Reg.gnssAntStatus 2 = true → s.antRetryDue = true → s.bit Reg.gnssAntStatus 1 = false → Completes .gnssAntRetry s fun t =>
      t.bit Reg.gnssAntStatus 2 = false ∧ t.bit Reg.gnssAntStatus 3 = s.bit Reg.gnssAntCtrl 0 ∧ SameRegs s t [Reg.gnssAntStatus]) ∧
    (s.bit Reg.gnssAntStatus 2 = true → s.antRetryDue = true → s.bit Reg.gnssAntStatus 1 = true → Completes .gnssAntRetry s fun t =>
      t.bit Reg.gnssAntStatus 2 = true ∧ t.bit Reg.gnssAntStatus 3 = false ∧ t.fault.strobes = s.fault.strobes ++ [(30, 0x8000, false)]) ∧
    ((s.bit Reg.gnssAntStatus 2 = false ∨ s.antRetryDue = false) → Completes .gnssAntRetry s (· = s.showPins)) ∧
    (∀ second, Completes (.gnssAntOpen second) s fun t => t.bit Reg.gnssAntStatus 0 = true ∧
      t.fault.strobes = s.fault.strobes ++ (if second = true ∧ s.bit Reg.gnssAntCtrl 2 = true then [(30, 0x8000, false)] else []) ∧
      SameRegs s t (Reg.gnssAntStatus :: inputs)) ∧
    (∀ short, Completes (.gnssAntFaultClear short) s fun t => t.bit Reg.gnssAntStatus (if short then 1 else 0) = false ∧
      t.fault = s.fault ∧ SameRegs s t [Reg.gnssAntStatus]))

/-- Tracking channels (R236–R241, R244): START from IDLE with a valid signal and the clock running loads the staged registers and waits;
the first sample at or after CH_START runs it with its initial phases; UPDATE sets UPD_PEND; the samples are taken in turn, each stepping
both oscillators; one that completes no code period leaves EPOCHS, one that does counts it; STOP returns the channel to IDLE with its
integration discarded. -/
def Obligations.GnssChannelsRunAndStop : Prop :=
  ∀ (s : State) (c : Fin 96),
    (s.chState c = 0 → s.gnssOn = true → s.sclkRuns = true → (s.chSig? c).isSome = true → Completes (.gnssChStart c) s fun t =>
      t.chState c = 1 ∧ t.rd (Reg.chEpochs c) = 0 ∧ (t.gch c).carrInc = s.rd (Reg.chCarrInc c) ∧
      (t.gch c).codeInc = s.rd (Reg.chCodeInc c) ∧ (t.gch c).acc = [] ∧ SameRegs s t [Reg.chEpochs c, Reg.chStatus c]) ∧
    ((s.chState c ≠ 0 ∨ s.gnssOn = false ∨ s.sclkRuns = false ∨ (s.chSig? c).isSome = false) →
      Completes (.gnssChStart c) s (· = s.showPins)) ∧
    (∀ (balls : BitVec 16) (edge : BitVec 64) (g : GnssSig), gnssSig (s.chSigNo c) = some g → s.chState c = 1 → s.ifOn (s.chIf c) = true →
      0 ≤ tickDiff (s.sampleTime (s.chIf c) edge.toNat) (s.rd64 (Reg.chStartLo c)) → Completes (.gnssChRunBegin c balls edge) s fun t =>
        t.chState c = 2 ∧ (t.gch c).carr = 0 ∧ (t.gch c).code = s.rdn (Reg.chCodeInit c) % 2 ^ 22 * 2 ^ 24 % (g.chips * 2 ^ 32) ∧
        (t.gch c).last = edge.toNat ∧ (t.gch c).acc.length = 12 ∧ t.fld (Reg.chStatus c) Fld.chStatus_CLOCK_LOST = 0 ∧
        SameRegs s t [Reg.chStatus c]) ∧
    (s.chState c ≠ 0 → Completes (.gnssChUpdate c) s fun t =>
      t.fld (Reg.chStatus c) Fld.chStatus_UPD_PEND = 1 ∧ OnlyRegs s t ∧ SameRegs s t [Reg.chStatus c]) ∧
    (∀ (samples : List (BitVec 16 × BitVec 64)) (e : BitVec 16 × BitVec 64) (g : GnssSig), gnssSig (s.chSigNo c) = some g → s.chState c = 2 →
      s.ifOn (s.chIf c) = true → Completes (.gnssEpochDump c (samples ++ [e])) s fun t =>
        t.chState c = 2 ∧ (t.gch c).last = e.2.toNat) ∧
    (∀ (balls : BitVec 16) (edge : BitVec 64) (g : GnssSig), gnssSig (s.chSigNo c) = some g → s.chState c = 2 → s.ifOn (s.chIf c) = true →
      (s.gch c).code + (s.gch c).codeInc.toNat < g.chips * 2 ^ 32 → Completes (.gnssEpochDump c [(balls, edge)]) s fun t =>
        (t.gch c).code = (s.gch c).code + (s.gch c).codeInc.toNat ∧
        (t.gch c).carr = uns 64 (((s.gch c).carr : Int) + (s.gch c).carrInc.toInt * 65536) ∧ t.gnss.dump = s.gnss.dump ∧ t.regs = s.regs) ∧
    (∀ (balls : BitVec 16) (edge : BitVec 64) (g : GnssSig), gnssSig (s.chSigNo c) = some g → s.chState c = 2 → s.ifOn (s.chIf c) = true →
      g.chips * 2 ^ 32 ≤ (s.gch c).code + (s.gch c).codeInc.toNat → Completes (.gnssEpochDump c [(balls, edge)]) s fun t =>
        t.rdn (Reg.chEpochs c) = (s.rdn (Reg.chEpochs c) + 1) % 2 ^ 32 ∧
        (t.gch c).code = ((s.gch c).code + (s.gch c).codeInc.toNat) % (g.chips * 2 ^ 32) ∧
        t.fld (Reg.chStatus c) Fld.chStatus_UPD_PEND = 0 ∧
        ((s.rdn (Reg.chEpochs c) + 1) % 2 ^ 32 % max 1 (min 20 ((s.gch c).dump.toNat % 32)) ≠ (s.gch c).dump.toNat / 256 % 32 →
          t.gnss.dump = s.gnss.dump) ∧
        ((s.rdn (Reg.chEpochs c) + 1) % 2 ^ 32 % max 1 (min 20 ((s.gch c).dump.toNat % 32)) = (s.gch c).dump.toNat / 256 % 32 →
          s.gnss.dump.entries.length < 2048 → t.gnss.dump.entries.length = s.gnss.dump.entries.length + 1)) ∧
    (s.chState c ≠ 0 → Completes (.gnssChStop c) s fun t =>
      t.chState c = 0 ∧ (t.gch c).acc = [] ∧ SameRegs s t [Reg.chStatus c] ∧ t.gnss.dump = s.gnss.dump)

/-- Acquisition (R247, R248, R258): START arms a capture while no job waits or runs; its first sample records T0 and captures; the samples that follow
are counted, and the one that fills the memory makes it READY; ABORT ends a capture and fails the jobs; a job that may run is PENDING, one that
may not fails with its error, and an abort fails it with ERROR 3. -/
def Obligations.GnssAcquisitionSequence : Prop :=
  ∀ (s : State),
    (s.gnssOn = true → (∀ j, j < 16 → s.jobState j ∉ [1, 2]) → Completes .gnssAcqStart s fun t =>
      t.acqState = 1 ∧ OnlyRegs s t ∧ SameRegs s t [Reg.gnssAcqStatus]) ∧
    ((s.gnssOn = false ∨ ∃ j, j < 16 ∧ s.jobState j ∈ [1, 2]) → Completes .gnssAcqStart s (· = s.showPins)) ∧
    (∀ (balls : BitVec 16) (edge : BitVec 64), s.acqState = 1 → s.ifOn (s.fld Reg.gnssAcqCtrl Fld.gnssAcqCtrl_IF) = true →
      0 ≤ tickDiff (s.sampleTime (s.fld Reg.gnssAcqCtrl Fld.gnssAcqCtrl_IF) edge.toNat) (s.rd64 Reg.gnssAcqStartLo) →
      Completes (.gnssCaptureBegin balls edge) s fun t =>
        t.acqState = 2 ∧ t.rd64 Reg.gnssAcqT0Lo = s.sampleTime (s.fld Reg.gnssAcqCtrl Fld.gnssAcqCtrl_IF) edge.toNat ∧
        t.gnss.capN * 2 ^ s.acqDecim + t.gnss.capCount = 1 ∧ SameRegs s t [Reg.gnssAcqStatus, Reg.gnssAcqT0Lo, Reg.gnssAcqT0Lo + 4]) ∧
    (∀ balls : List (BitVec 16), s.acqState = 2 → s.ifOn (s.fld Reg.gnssAcqCtrl Fld.gnssAcqCtrl_IF) = true →
      s.gnss.capCount < 2 ^ s.acqDecim → s.gnss.capN < captureSamples s.acqDecim → Completes (.gnssCaptureFull balls) s fun t =>
        let taken := s.gnss.capN * 2 ^ s.acqDecim + s.gnss.capCount + balls.length
        let full := captureSamples s.acqDecim * 2 ^ s.acqDecim
        (taken < full → t.acqState = 2 ∧ t.gnss.capN * 2 ^ s.acqDecim + t.gnss.capCount = taken) ∧
        (full ≤ taken → t.acqState = 3 ∧ t.gnss.capN = captureSamples s.acqDecim) ∧ SameRegs s t [Reg.gnssAcqStatus]) ∧
    (s.acqState ∈ [1, 2] → (∀ j, j < 16 → s.jobState j ∉ [1, 2]) → Completes .gnssAcqAbort s fun t =>
      t.acqState = 4 ∧ t.fld Reg.gnssAcqStatus Fld.gnssAcqStatus_END = 1 ∧ SameRegs s t [Reg.gnssAcqStatus]) ∧
    (Completes .gnssAcqAbort s fun t => t.acqState = (if s.acqState ∈ [1, 2] then 4 else s.acqState) ∧
      ∀ j, j < 16 → t.jobState j = if s.jobState j ∈ [1, 2] then 4 else s.jobState j) ∧
    (∀ j : Fin 16, s.jobState j ∉ [1, 2] → s.jobError j = 0 → s.acqState ≠ 4 → Completes (.gnssJobGo j) s fun t =>
      t.jobState j = 1 ∧ t.fld (Reg.jobStatus j) ⟨24, 8⟩ = 255 ∧ OnlyRegs s t ∧ SameRegs s t [Reg.jobStatus j]) ∧
    (∀ j : Fin 16, s.jobState j ∉ [1, 2] → (s.jobError j ≠ 0 ∨ s.acqState = 4) → Completes (.gnssJobGo j) s fun t =>
      t.jobState j = 4 ∧ t.fld (Reg.jobStatus j) ⟨8, 4⟩ = (if s.jobError j ≠ 0 then s.jobError j else 4) ∧ OnlyRegs s t ∧
      SameRegs s t [Reg.jobStatus j]) ∧
    (∀ j : Fin 16, s.jobState j ∈ [1, 2] → Completes (.gnssJobGo j) s (· = s.showPins)) ∧
    (∀ j : Fin 16, Completes (.gnssJobAbort j) s fun t =>
      t.jobState j = 4 ∧ t.fld (Reg.jobStatus j) ⟨8, 4⟩ = 3 ∧ OnlyRegs s t ∧ SameRegs s t [Reg.jobStatus j])

/-! ### The line ports and their queues (R259–R290) -/

/-- The link of a line port moves as R261 says: ENABLE = 0 is OFF; ENABLE = 1 with a personality, power and SYN_G goes on to DOWN;
synchronisation starts TRAINING; TRAINING ends after 1 ms of lock in UP, without auto-negotiation or when it is complete with a partner that fits
(R262), or in MODE_BAD when the partner is not full duplex; synchronisation lost goes
back to DOWN, and from UP it sets EVER_DOWN and strobes fault 22.  A change of state raises interrupt 28 + n.  The counters clear as
R287 and R288 say. -/
def Obligations.LineLinksFollowR261 : Prop :=
  ∀ (s : State) (n : Fin 4),
    (Completes (.lineEnableWrite n false) s fun t =>
      t.linkState n = 0 ∧ t.on (Reg.lineCtrl n) Fld.lineCtrl_ENABLE = false ∧ t.refs = s.refs ∧ t.time = s.time) ∧
    (s.personality n ≠ 0 → s.portBusy n = false → s.pgUp (16 + n) = true → s.synLocked 0 = true → s.linkState n ≤ 1 →
      Completes (.lineEnableWrite n true) s fun t =>
        t.linkState n = 2 ∧ t.on (Reg.lineCtrl n) Fld.lineCtrl_ENABLE = true ∧ 28 + n.val ∈ t.intc.raised) ∧
    (s.linkState n = 2 → Completes (.lineSyncAcquired n) s fun t =>
      t.linkState n = 3 ∧ t.on (Reg.lineStatus n) Fld.lineStatus_LOCK = true ∧ (t.lineAt n).anRun = s.negotiates n ∧
      28 + n.val ∈ t.intc.raised) ∧
    (∀ fd pause speed, s.linkState n = 3 → (s.lineAt n).lockAt + 625000 ≤ s.edges → s.negotiates n = false →
      Completes (.lineLinkUp n fd pause speed) s fun t =>
        t.linkState n = 4 ∧ t.on (Reg.lineStatus n) Fld.lineStatus_MODE_BAD = false ∧ 28 + n.val ∈ t.intc.raised) ∧
    (∀ (pause speed : Fin 4), s.linkState n = 3 → (s.lineAt n).lockAt + 625000 ≤ s.edges → s.negotiates n = true → (s.lineAt n).anRun = true →
      (s.personality n = 2 → speed.val = 2) → Completes (.lineLinkUp n true pause speed) s fun t =>
        t.linkState n = 4 ∧ t.on (Reg.lineStatus n) Fld.lineStatus_AN_DONE = true ∧ t.on (Reg.lineAn n) Fld.lineAn_LP_FD = true ∧
        (s.personality n = 1 → t.fld (Reg.lineAn n) Fld.lineAn_LP_PAUSE = pause.val)) ∧
    (∀ pause speed, s.linkState n = 3 → (s.lineAt n).lockAt + 625000 ≤ s.edges → s.negotiates n = true → (s.lineAt n).anRun = true →
      Completes (.lineLinkUp n false pause speed) s fun t =>
        t.linkState n = 3 ∧ t.on (Reg.lineStatus n) Fld.lineStatus_MODE_BAD = true ∧ (t.lineAt n).badAt = s.edges ∧
        SameRegs s t [Reg.lineStatus n, Reg.lineAn n]) ∧
    (∀ fd pause speed, s.edges < (s.lineAt n).lockAt + 625000 → Completes (.lineLinkUp n fd pause speed) s (· = s.showPins)) ∧
    (∀ hiBer, s.linkState n = 4 → Completes (.lineSyncLost n hiBer) s fun t =>
      t.linkState n = 2 ∧ t.on (Reg.lineStatus n) Fld.lineStatus_EVER_DOWN = true ∧ (22, n.val, false) ∈ t.fault.strobes ∧
      t.fld (Reg.lineStatus n) Fld.lineStatus_HI_BER = hiBer.toNat) ∧
    (s.linkState n = 3 → s.on (Reg.lineStatus n) Fld.lineStatus_MODE_BAD = true → (s.lineAt n).badAt + 625000000 ≤ s.edges →
      Completes (.lineAnRestart n) s fun t => (t.lineAt n).anRun = s.negotiates n ∧ t.regs = s.regs) ∧
    (Completes (.lineBlkRst n) s fun t =>
      (∀ k < 19, t.rdn (0x80100 + 0x4000 * n + 4 * k) = 0) ∧
      t.linkState n = if s.linkState n = 0 then 0 else if s.synLocked 0 then 2 else 1) ∧
    (Completes (.lineCntClr n) s fun t =>
      (∀ k < 19, t.rdn (0x80100 + 0x4000 * n + 4 * k) = 0) ∧ OnlyRegs s t ∧
      SameRegsBut s t [(0x80100 + 0x4000 * n, 0x80100 + 0x4000 * n + 76)]) ∧
    (s.on (Reg.lineStatus n) Fld.lineStatus_PAUSED = true → (s.lineAt n).pauseEnd ≤ s.edges * 160 → Completes (.linePauseExpire n) s fun t =>
      t.on (Reg.lineStatus n) Fld.lineStatus_PAUSED = false ∧ t.linkState n = s.linkState n ∧ SameRegs s t [Reg.lineStatus n])

/-- Frames at a line port (R268, R269, R273–R275, R282, R285, R288): a frame is counted once, by the first thing wrong with it or as OK, and one
that overruns strobes fault 23; FEC codewords are counted at a port of personality 5; a pause frame holds the transmitter for its quanta; a
frame for host software waits for the end of its GRID period; a free port that is UP sends the waiting frame that goes first, padded and
with its FCS, and with none waiting a ready host frame goes on the wire; a port that is not UP neither takes nor sends. -/
def Obligations.FramesAtTheLinePorts : Prop :=
  ∀ (s : State) (n : Fin 4) (back : BitVec 32) (frame : List Byte) (refused : Bool) (corr uncorr : BitVec 16),
    let rx (a y o : Bool) : Instr := .lineFrameRx n frame back a y o refused corr uncorr
    let fec := [Reg.lineFecCorr n, Reg.lineFecUncorr n]
    let body := frame.take (frame.length - 4)
    let e := parseEth body
    let clean := 64 ≤ frame.length ∧ frame.length ≤ s.maxFrame n ∧ leAt frame (frame.length - 4) 4 = crc32 body
    (∀ a y o, s.lineUp n = false → Completes (rx a y o) s (· = s.showPins)) ∧
    (s.lineUp n = false → Completes (.lineFrameTx n back frame) s (· = s.showPins)) ∧
    (∀ a y o, s.lineUp n = true → s.personality n = 5 → Completes (rx a y o) s fun t =>
      t.rdn (Reg.lineFecCorr n) = min (s.rdn (Reg.lineFecCorr n) + corr.toNat) 0xFFFFFFFF ∧
      t.rdn (Reg.lineFecUncorr n) = min (s.rdn (Reg.lineFecUncorr n) + uncorr.toNat) 0xFFFFFFFF) ∧
    (∀ a y, s.lineUp n = true → Completes (rx a y true) s fun t =>
      t.rdn (Reg.lineRxFifo n) = min (s.rdn (Reg.lineRxFifo n) + 1) 0xFFFFFFFF ∧ t.fault.strobes = s.fault.strobes ++ [(23, n.val, false)] ∧
      SameRegs s t (Reg.lineRxFifo n :: fec) ∧ t.queue = s.queue) ∧
    (∀ a, s.lineUp n = true → Completes (rx a true false) s fun t =>
      t.rdn (Reg.lineRxSymbol n) = min (s.rdn (Reg.lineRxSymbol n) + 1) 0xFFFFFFFF ∧ SameRegs s t (Reg.lineRxSymbol n :: fec) ∧ OnlyRegs s t) ∧
    (s.lineUp n = true → Completes (rx true false false) s fun t =>
      t.rdn (Reg.lineRxAlign n) = min (s.rdn (Reg.lineRxAlign n) + 1) 0xFFFFFFFF ∧ SameRegs s t (Reg.lineRxAlign n :: fec) ∧ OnlyRegs s t) ∧
    (s.lineUp n = true → frame.length < 64 → Completes (rx false false false) s fun t =>
      t.rdn (Reg.lineRxRunt n) = min (s.rdn (Reg.lineRxRunt n) + 1) 0xFFFFFFFF ∧ SameRegs s t (Reg.lineRxRunt n :: fec) ∧ OnlyRegs s t) ∧
    (s.lineUp n = true → 64 ≤ frame.length → frame.length ≤ s.maxFrame n → leAt frame (frame.length - 4) 4 ≠ crc32 body →
      Completes (rx false false false) s fun t =>
        t.rdn (Reg.lineRxFcs n) = min (s.rdn (Reg.lineRxFcs n) + 1) 0xFFFFFFFF ∧ SameRegs s t (Reg.lineRxFcs n :: fec) ∧ OnlyRegs s t) ∧
    (s.lineUp n = true → clean → e.type ≠ 0x8808 → s.macAccepts n e.dst = true → Completes (rx false false false) s fun t =>
        t.rdn (Reg.lineRxOk n) = min (s.rdn (Reg.lineRxOk n) + 1) 0xFFFFFFFF ∧
        t.rd64 (Reg.lineRxOctetsLo n) = (s.rd64 (Reg.lineRxOctetsLo n) + frame.length) % 2 ^ 64 ∧
        (s.ptpTakes e = false → parseUdp e = none → s.streamMatches n e = false →
          t.queue.due = dueInsert { q := s.fld (Reg.lineCtrl n) Fld.lineCtrl_DEFAULT_Q, port := n, data := body,
                                    stamp := uns 64 (s.rxStamp n (s.lineTb n) back.toNat), refused := refused } s.queue.due)) ∧
    (s.lineUp n = true → clean → e.type ≠ 0x8808 → s.macAccepts n e.dst = false → Completes (rx false false false) s fun t =>
        t.rdn (Reg.lineRxFiltered n) = min (s.rdn (Reg.lineRxFiltered n) + 1) 0xFFFFFFFF ∧ SameRegs s t (Reg.lineRxFiltered n :: fec)) ∧
    (s.lineUp n = true → clean → e.type = 0x8808 → e.tag = none → beAt e.body 0 2 = 1 → e.dst = 0x0180C2000001 → beAt e.body 2 2 ≠ 0 →
      s.on (Reg.linePause n) Fld.linePause_OBEY = true → (∀ q < 4, s.onWire n q = false) → Completes (rx false false false) s fun t =>
        t.on (Reg.lineStatus n) Fld.lineStatus_PAUSED = true ∧ t.pauseRemain n = beAt e.body 2 2 ∧
        t.rdn (Reg.lineRxPause n) = min (s.rdn (Reg.lineRxPause n) + 1) 0xFFFFFFFF) ∧
    (∀ f : TxFrame, s.lineUp n = true → (∀ q < 4, s.onWire n q = false) → s.nextEngine n = some f →
      Completes (.lineFrameTx n back frame) s fun t =>
        t.sent = s.sent ++ [.lineFrame n (wireFrame f.octets)] ∧ (t.lineAt n).wait = (s.lineAt n).wait.erase f ∧
        t.rdn (Reg.lineTxOk n) = min (s.rdn (Reg.lineTxOk n) + 1) 0xFFFFFFFF ∧
        SameRegs s t [Reg.lineTxOk n, Reg.lineTxOctetsLo n, Reg.lineTxOctetsHi n]) ∧
    (∀ q k, s.lineUp n = true → (∀ r < 4, s.onWire n r = false) → s.nextEngine n = none → s.on (Reg.lineStatus n) Fld.lineStatus_PAUSED = false →
      s.dmaOk = true → (List.range 4).find? (fun r => (s.txReady r n).isSome) = some q → s.txReady q n = some k →
      frame.length = txTotal ((s.txq q).descs.take k) → Completes (.lineFrameTx n back frame) s fun t =>
        (t.txq q).wire = some (n.val, uns 64 (s.txStamp n (s.lineTb n) back.toNat), frame) ∧ t.regs = s.regs ∧ t.sent = s.sent)

/-- The host queues (R278, R279, R282, R284, R286): buffers posted through TAIL become the pool's; HEAD releases entries; the coalescing
timer raises interrupt 32 + q once for what no interrupt has announced; descriptors wait while their queue does not run; a frame
whose DMA failed completes as DMA_ERROR and leaves the wire, and its write-back waits while DMA waits; a block reset disables every queue and empties the cache. -/
def Obligations.HostQueuesMoveBuffersAndDescriptors : Prop :=
  ∀ (s : State) (q : Fin 4) (v : BitVec 16),
    (∀ addrs : List (BitVec 64),
      addrs.length = (v.toNat % s.ringSize Reg.poolSize + s.ringSize Reg.poolSize - s.rdn Reg.poolTail % s.ringSize Reg.poolSize) %
        s.ringSize Reg.poolSize →
      Completes (.poolTailWrite v addrs) s fun t =>
        t.queue.cache ++ t.queue.posted = s.queue.cache ++ s.queue.posted ++ addrs.map (fun a => a.toNat / 64 * 64) ∧
        t.fld Reg.poolTail ⟨0, 16⟩ = v.toNat ∧ t.rdn Reg.poolAvail = (t.queue.cache.length + t.queue.posted.length) % 2 ^ 32 ∧
        SameRegs s t [Reg.poolTail, Reg.poolHead, Reg.poolAvail] ∧ t.free = s.free) ∧
    (s.bit Reg.queueStatus 0 = false → Completes (.rxqHeadWrite q v) s fun t =>
      t.fld (Reg.rxqHead q) ⟨0, 16⟩ = v.toNat ∧ SameRegs s t [Reg.rxqHead q] ∧ OnlyRegs s t) ∧
    (∀ x, (s.rxq q).unann = some x → s.fld (Reg.rxqCtrl q) ⟨8, 8⟩ ≠ 0 → x + 625 * s.fld (Reg.rxqCtrl q) ⟨8, 8⟩ ≤ s.edges →
      s.rxqUsed q ≤ s.fld (Reg.rxqCtrl q) ⟨16, 16⟩ → Completes (.rxqCoalTimer q) s fun t =>
        t.intc.raised = s.intc.raised ++ [32 + q.val] ∧ (t.rxq q).unann = none ∧ t.regs = s.regs) ∧
    ((s.rxq q).unann = none → Completes (.rxqCoalTimer q) s (· = s.showPins)) ∧
    (∀ descs : List (BitVec 128), s.txqRuns 0 = false → s.txqRuns 1 = false → s.txqRuns 2 = false → s.txqRuns 3 = false →
      descs.length = (v.toNat % s.ringSize (Reg.txqSize q) + s.ringSize (Reg.txqSize q) - s.rdn (Reg.txqTail q) % s.ringSize (Reg.txqSize q)) %
        s.ringSize (Reg.txqSize q) →
      Completes (.txqTailWrite q v descs) s fun t =>
        (t.txq q).descs = (s.txq q).descs ++ descs.map (fun d => txDescOf d.toNat) ∧ t.fld (Reg.txqTail q) ⟨0, 16⟩ = v.toNat ∧
        SameRegs s t [Reg.txqTail q] ∧ t.free = s.free) ∧
    (∀ w k, (s.txq q).wire = some w → txHead (s.txq q).descs = .frame k → (s.txq q).descs.length = k → s.dmaOk = true →
      (s.lineAt w.1).pauseNext = none → (∀ r : Fin 4, r ≠ q → s.txqRuns r = false) →
      Completes (.txqFrameComplete q true) s fun t =>
        (t.txq q).wire = none ∧ (t.txq q).descs = [] ∧ t.bit Reg.queueStatus 1 = true ∧
        SameRegs s t [Reg.txqHead q, Reg.queueStatus]) ∧
    (∀ w k, (s.txq q).wire = some w → txHead (s.txq q).descs = .frame k → (s.txq q).descs.length = k → s.dmaOk = true →
      (∀ r : Fin 4, r ≠ q → s.txqRuns r = false) →
      Completes (.txqFrameComplete q false) s fun t =>
        (t.txq q).wire = none ∧ (t.txq q).descs = [] ∧ Output.lineFrame w.1 (wireFrame w.2.2) ∈ t.sent) ∧
    (∀ w failed, (s.txq q).wire = some w → s.dmaOk = false → Completes (.txqFrameComplete q failed) s fun t =>
        (t.txq q).wire = none ∧ (t.txq q).descs = (s.txq q).descs ∧
        (t.txq q).sent = some (if failed then 5 else 0, txTotal ((s.txq q).descs.take (s.headCount q)), if failed then 0 else w.2.1)) ∧
    (∀ failed, (s.txq q).wire = none → Completes (.txqFrameComplete q failed) s (· = s.showPins)) ∧
    (Completes .queueBlkRst s fun t =>
      t.bit Reg.queueCtrl 0 = false ∧ (∀ r : Fin 4, t.bit (Reg.rxqCtrl r) 0 = false ∧ t.bit (Reg.txqCtrl r) 0 = false) ∧ t.queue.cache = [] ∧
      (s.dmaOk = false → t.bit Reg.queueStatus 0 = true ∧ t.queue.returning = s.queue.returning ++ s.queue.cache))

/-! ### The key store and the NTS responder (R322–R348) -/

/-- The master-key ring (R326, R327): at ROT_LEFT 30 PENDING is drawn with the KEY_ID after CURRENT's; at 0 the ring moves on with
interrupt 25 and ROT_LEFT reads PERIOD, or DEFERRED is set with no PENDING; a deferred rotation follows once PENDING is held; a
command of 1 makes step 1 due.

Key blobs (R345, R346): an export is refused with RESULT 5 while busy or without the identity key, otherwise the blob built now fills
the window with RESULT 1; a restore that passes its checks is busy until its sections are replaced with RESULT 2; a window that
is no blob is RESULT 4. -/
def Obligations.MasterKeyRingAndBlobs : Prop :=
  (∀ (s : State),
    (∀ m, s.rdn Reg.ntsRotLeft = 30 → s.keys.pend = none → s.keys.cur = some m → s.drawsPending = true → s.canGenerate = true →
      Completes .ntsRotDraw s fun t =>
        t.keys.pend.map (·.id) = some ((m.id + 1) % 2 ^ 32) ∧ t.keys.cur = s.keys.cur ∧ t.keys.prev1 = s.keys.prev1 ∧
        t.keys.prev2 = s.keys.prev2 ∧ t.bit Reg.ntsRotStatus 1 = true) ∧
    (∀ m, s.rdn Reg.ntsRotLeft = 0 → s.keys.pend = some m → Completes .ntsRotSwap s fun t =>
      t.keys.cur = some m ∧ t.keys.prev1 = s.keys.cur ∧ t.keys.prev2 = s.keys.prev1 ∧ t.keys.pend = none ∧
      t.rdn Reg.ntsRotLeft = s.rotPeriod ∧ t.bit Reg.ntsRotStatus 4 = false ∧ t.intc.raised = s.intc.raised ++ [25] ∧
      SameRegs s t ([Reg.ntsRotLeft, Reg.ntsRotStatus, Reg.ntsStatus] ++ (List.range 4).map Reg.ntsKeyId)) ∧
    (s.rdn Reg.ntsRotLeft = 0 → s.keys.pend = none → Completes .ntsRotSwap s fun t =>
      t.bit Reg.ntsRotStatus 4 = true ∧ SameRegs s t [Reg.ntsRotStatus] ∧ OnlyRegs s t) ∧
    ((s.rdn Reg.ntsRotLeft ≠ 30 ∨ s.keys.pend ≠ none) → Completes .ntsRotDraw s (· = s.showPins)) ∧
    (s.rdn Reg.ntsRotLeft ≠ 0 → Completes .ntsRotSwap s (· = s.showPins)) ∧
    (s.bit Reg.ntsRotStatus 4 = false → Completes .ntsRotRetry s (· = s.showPins)) ∧
    (∀ m, s.bit Reg.ntsRotStatus 4 = true → s.keys.pend = some m → Completes .ntsRotRetry s fun t =>
      t.keys.cur = some m ∧ t.keys.pend = none ∧ t.bit Reg.ntsRotStatus 4 = false ∧ t.intc.raised = s.intc.raised ++ [25]) ∧
    (∀ v, Completes (.ntsRotCmd v) s fun t =>
      t.rdn Reg.ntsRotLeft = (if v = 1 then 30 else s.rdn Reg.ntsRotLeft) ∧ SameRegs s t [Reg.ntsRotLeft] ∧ OnlyRegs s t)) ∧
  (∀ (s : State),
    (s.blobBusy = true → Completes .keysBlobExport s fun t =>
      t.fld Reg.keysBlobStatus ⟨12, 4⟩ = 5 ∧ SameRegs s t [Reg.keysBlobStatus] ∧ OnlyRegs s t) ∧
    (s.blobBusy = false → s.on Reg.keysStatus Fld.keysStatus_ID_OK = true → Completes .keysBlobExport s fun t =>
      t.blobBusy = true ∧ t.keys = { s.keys with op := 1, opBytes := s.blob } ∧ SameRegs s t [Reg.keysBlobStatus]) ∧
    (s.on Reg.keysStatus Fld.keysStatus_ID_OK = false → Completes .keysBlobExport s fun t =>
      t.fld Reg.keysBlobStatus ⟨12, 4⟩ = 5 ∧ SameRegs s t [Reg.keysBlobStatus] ∧ OnlyRegs s t) ∧
    ((s.ntsAbsent = true ∨ s.keysLocked = true) → Completes .keysBlobRestore s (· = s.showPins)) ∧
    (s.blobBusy = true → s.keys.op = 1 → Completes .keysBlobExportDone s fun t =>
      t.keys.window = SMap.ofList 0 0 s.keys.opBytes ∧ t.blobBusy = false ∧ t.fld Reg.keysBlobStatus ⟨12, 4⟩ = 1 ∧
      SameRegs s t [Reg.keysBlobStatus]) ∧
    (∀ b, s.ntsAbsent = false → s.keysLocked = false → s.blobCheck = (0, b) → Completes .keysBlobRestore s fun t =>
        t.blobBusy = true ∧ t.keys = { s.keys with op := 2, opBytes := b } ∧ SameRegs s t [Reg.keysBlobStatus]) ∧
    (∀ b, s.ntsAbsent = false → s.keysLocked = false → s.blobCheck = (4, b) → Completes .keysBlobRestore s fun t =>
      t.fld Reg.keysBlobStatus ⟨12, 4⟩ = 4 ∧ t.keys = s.keys ∧ SameRegs s t [Reg.keysBlobStatus]) ∧
    (s.blobBusy = true → s.keys.op = 2 → Completes .keysBlobRestoreDone s fun t =>
      t.blobBusy = false ∧ t.fld Reg.keysBlobStatus ⟨12, 4⟩ = 2 ∧ t.keys.op = 0 ∧ t.keys.opBytes = [] ∧
      t.on Reg.keysStatus Fld.keysStatus_ZEROIZED = false))

/-- Keys are loaded, cleared and zeroized (R342–R344, R347): a load replaces the target's key and erases the load registers, and
while LOCKED is ignored with violation kind 9; a clear erases; only 0xC3 zeroizes, which leaves no key, no PENDING and ZEROIZED set;
a failed check raises fault 19. -/
def Obligations.KeysAreLoadedClearedAndZeroized : Prop :=
  ∀ (s : State) (p : Port),
    (∀ target : Fin 32, s.keysLocked = false → s.ntsAbsent = false → target.val < 16 → Completes (.keysLoad p target) s fun t =>
      t.ptpKey target = some s.loadKey ∧ t.keys.load = [] ∧ t.on (Reg.keysPtpCfg target) Fld.keysPtpCfg_LOADED = true ∧
      (∀ k, k ≠ target.val → t.ptpKey k = s.ptpKey k) ∧ t.keys.pair = s.keys.pair ∧
      SameRegs s t [Reg.keysPtpCfg target, Reg.keysStatus]) ∧
    (s.keysLocked = false → s.ntsAbsent = false → Completes (.keysLoad p 16) s fun t =>
      t.keys.pair = some s.loadKey ∧ t.keys.load = [] ∧ t.keys.ptp = s.keys.ptp ∧ SameRegs s t [Reg.keysStatus]) ∧
    (∀ target : Fin 32, s.keysLocked = true → Completes (.keysLoad p target) s fun t =>
      t.keys = s.keys ∧ t.regs = (s.violation 9 p true false Reg.keysLoadCtrl).regs) ∧
    (∀ target : Fin 32, target.val < 16 → Completes (.keysClear target) s fun t =>
      t.ptpKey target = none ∧ t.on (Reg.keysPtpCfg target) Fld.keysPtpCfg_LOADED = false ∧
      (∀ k, k ≠ target.val → t.ptpKey k = s.ptpKey k) ∧ SameRegs s t [Reg.keysPtpCfg target]) ∧
    (∀ target : Fin 32, s.keysLocked = false → (s.ntsAbsent = true ∨ 16 < target.val) → Completes (.keysLoad p target) s (· = s.showPins)) ∧
    (s.faultLatched 20 = true → Completes .drbgReseed s (· = s.showPins)) ∧
    (Completes (.keysClear 16) s fun t => t.keys = { s.keys with pair := none } ∧ SameRegs s t [Reg.keysStatus]) ∧
    (Completes (.keysZeroize 0xC3) s fun t =>
      t.keys.cur = none ∧ t.keys.pend = none ∧ t.keys.prev1 = none ∧ t.keys.prev2 = none ∧ t.keys.pair = none ∧ t.keys.ptp = [] ∧
      t.keys.load = [] ∧ t.nts.mintKey = [] ∧ t.nts.queue = [] ∧ t.on Reg.keysStatus Fld.keysStatus_ZEROIZED = true ∧
      t.blobBusy = false) ∧
    (∀ v, v ≠ 0xC3 → Completes (.keysZeroize v) s (· = s.showPins)) ∧
    (Completes (.keystoreCheck true) s fun t =>
      t.rdn Reg.keysChecks = (s.rdn Reg.keysChecks + 1) % 2 ^ 32 ∧ SameRegs s t [Reg.keysChecks] ∧ OnlyRegs s t) ∧
    (Completes (.keystoreCheck false) s fun t => t.fault.strobes = s.fault.strobes ++ [(19, 0, false)] ∧ t.regs = s.regs) ∧
    (s.faultLatched 20 = false → Completes .drbgReseed s fun t =>
      t.keys = { s.keys with reseeds := s.keys.reseeds + 1, seeded := true } ∧ t.regs = s.regs)

/-- The NTS responder (R322, R323, R329, R334, R336): a datagram that is its own is dropped and counted by the first check it fails; a
plain request that passes is answered; the oldest response of a port waits for T_tx (R331) and then is offered and counted, or counted LATE; a mint
is BUSY until
its cookies stand in the window with the mint keys erased. -/
def Obligations.NtsAnswersInOrder : Prop :=
  ∀ (s : State),
    (∀ (n : Fin 4) frame back u, parseUdp (parseEth frame) = some u → s.ntsTakes n (parseEth frame) u = true → s.mayTransmit = false →
      Completes (.ntsRequestRx n frame back) s fun t =>
        t.rdn Reg.ntsDropSilent = min (s.rdn Reg.ntsDropSilent + 1) 0xFFFFFFFF ∧ SameRegs s t [Reg.ntsDropSilent] ∧ OnlyRegs s t) ∧
    (∀ (n : Fin 4) frame back u, parseUdp (parseEth frame) = some u → s.ntsTakes n (parseEth frame) u = true → s.mayTransmit = true →
      u.payload.length = 48 → (beAt u.payload 0 1 = 0x23 ∨ beAt u.payload 0 1 = 0x1B) → s.on Reg.ntsCtrl Fld.ntsCtrl_PLAIN = true →
      s.fld Reg.ntsRateCfg ⟨0, 16⟩ = 0 → s.ntsFull = false →
      Completes (.ntsRequestRx n frame back) s fun t =>
        t.rdn Reg.ntsReqPlain = min (s.rdn Reg.ntsReqPlain + 1) 0xFFFFFFFF ∧
        t.nts.queue.length = s.nts.queue.length + 1 ∧ SameRegs s t [Reg.ntsReqPlain]) ∧
    (∀ (n : Fin 4) frame back, (parseUdp (parseEth frame) = none ∨
        ∃ u, parseUdp (parseEth frame) = some u ∧ s.ntsTakes n (parseEth frame) u = false) →
      Completes (.ntsRequestRx n frame back) s (· = s.showPins)) ∧
    (∀ (n : Fin 4) late r, s.nts.queue.find? (·.port == n.val) = some r → (s.fullTicks 0 : Int) < r.due →
      Completes (.ntsResponseTx n late) s (· = s.showPins)) ∧
    (∀ (n : Fin 4) late, s.nts.queue.find? (·.port == n.val) = none → Completes (.ntsResponseTx n late) s (· = s.showPins)) ∧
    (∀ (n : Fin 4) r, s.nts.queue.find? (·.port == n.val) = some r → r.due ≤ s.fullTicks 0 → Completes (.ntsResponseTx n true) s fun t =>
      t.rdn Reg.ntsLate = min (s.rdn Reg.ntsLate + 1) 0xFFFFFFFF ∧ t.nts.queue = s.nts.queue.eraseP (·.port == n.val) ∧
      SameRegs s t [Reg.ntsLate]) ∧
    (∀ (n : Fin 4) r, s.nts.queue.find? (·.port == n.val) = some r → r.due ≤ s.fullTicks 0 → s.lineUp n = true →
      s.on (Reg.lineStatus n) Fld.lineStatus_PAUSED = false → r.cnt = Reg.ntsRespPlain → Completes (.ntsResponseTx n false) s fun t =>
        (t.lineAt n).wait = (s.lineAt n).wait ++ [{ src := 2, octets := r.frame }] ∧
        t.rdn Reg.ntsRespPlain = min (s.rdn Reg.ntsRespPlain + 1) 0xFFFFFFFF ∧
        t.nts.queue = s.nts.queue.eraseP (·.port == n.val) ∧ SameRegs s t [Reg.ntsRespPlain]) ∧
    (∀ count : Fin 8, s.bit Reg.ntsMintStatus 3 = false → Completes (.ntsMint count) s fun t =>
      t.bit Reg.ntsMintStatus 3 = true ∧ t.fld Reg.ntsMintStatus ⟨4, 4⟩ = count + 1 ∧ SameRegs s t [Reg.ntsMintStatus] ∧
      (s.keys.cur = none → t.nts.minting = [])) ∧
    (s.bit Reg.ntsMintStatus 3 = true → Completes .ntsMintDone s fun t =>
      t.bit Reg.ntsMintStatus 3 = false ∧ t.nts.mintKey = [] ∧ t.nts.minting = [] ∧
      t.fld Reg.ntsMintStatus ⟨0, 3⟩ = (if s.faultLatched 21 then 3 else if s.nts.minting.isEmpty then 2 else 1) ∧
      SameRegs s t [Reg.ntsMintStatus])

/-! ### The PTP engine (R291–R320) -/

/-- What a received message does: one that the checks of R293, R302 and R308 turn away has no effect but its counter; one that passes is
counted in RX_MSG.  An Announce stands in the foreign-master table, which holds at most 8 of a domain (R297), and at a port of role MASTER
counts in DROP; a one-step Sync of the parent gives the forward time, a two-step one waits for its Follow_Up and a Follow_Up
completes it (R313); a Delay_Req or Pdelay_Req in the states of R298 makes a reply owed; a Delay_Resp or Pdelay response completes
the open exchange (R301, R313); a message that is not the parent's, of an open exchange or of the port's state changes no instance; a
Management message goes to HOST_Q (R293). -/
def Obligations.PtpReceivesAsR293ToR313 : Prop :=
  ∀ (s u : State) (m : PtpRx) (h : PtpHdr),
    let n := m.port
    let counted (t : State) : Prop := t.rdn (Reg.ptpRxMsg n) = min (s.rdn (Reg.ptpRxMsg n) + 1) 0xFFFFFFFF
    let unused (t : State) : Prop := counted t ∧ t.pport n = s.pport n ∧ SameRegs s t [Reg.ptpRxMsg n, Reg.ptpTsStatus]
    let twoStep := h.flags / 512 % 2 = 1
    (∀ p ∈ [(Instr.ptpAnnounceRx m, [11]), (.ptpSyncRx m, [0]), (.ptpFollowUpRx m, [8]), (.ptpDelayReqRx m, [1]), (.ptpDelayRespRx m, [9]),
        (.ptpPdelayReqRx m, [2]), (.ptpPdelayRespRx m, [3]), (.ptpPdelayRespFupRx m, [10]), (.ptpUcRequestRx m, [12]),
        (.ptpUcCancelRx m, [12]), (.ptpUcGrantRx m, [12]), (.ptpMgmtForward m, [12, 13])],
      s.ptpAccept m p.2 = (none, u) → Completes p.1 s (· = u.showPins)) ∧
    (s.ptpAccept m [11] = (some h, u) → (s.role n = 1 → h.dom = s.domM n → s.on (Reg.ptpMCfg n) Fld.ptpMCfg_ENABLE = false) →
      Completes (.ptpAnnounceRx m) s fun t =>
        counted t ∧ ((t.pport n).foreign.any (fun g => g.dom == h.dom && g.src == h.src) = true ∨
          8 ≤ ((s.pport n).foreign.filter (·.dom == h.dom)).length)) ∧
    (s.ptpAccept m [11] = (some h, u) → s.role n = 1 → h.dom = s.domM n → s.on (Reg.ptpMCfg n) Fld.ptpMCfg_ENABLE = true →
      Completes (.ptpAnnounceRx m) s fun t =>
        counted t ∧ t.rdn (Reg.ptpDrop n) = min (s.rdn (Reg.ptpDrop n) + 1) 0xFFFFFFFF ∧ t.ptp = s.ptp ∧
        SameRegs s t [Reg.ptpRxMsg n, Reg.ptpDrop n]) ∧
    (s.ptpAccept m [0] = (some h, u) → s.fromParent n h = true → twoStep → Completes (.ptpSyncRx m) s fun t =>
      counted t ∧ t.pport n = { s.pport n with sync := some (h.seq, s.rxS m, h.corr), syncOld := false } ∧
      SameRegs s t [Reg.ptpRxMsg n, Reg.ptpTsStatus]) ∧
    (s.ptpAccept m [0] = (some h, u) → s.fromParent n h = true → ¬ twoStep → Completes (.ptpSyncRx m) s fun t =>
      counted t ∧ (t.pport n).sync = none ∧ ((s.pport n).dwin = [] → (t.pport n).fwd = some (s.rxS m - ptpTime m.msg 34 - h.corr))) ∧
    (s.ptpAccept m [0] = (some h, u) → s.fromParent n h = false → Completes (.ptpSyncRx m) s unused) ∧
    (∀ t2 c, s.ptpAccept m [8] = (some h, u) → s.fromParent n h = true → (s.pport n).sync = some (h.seq, t2, c) →
      (s.pport n).syncOld = false → Completes (.ptpFollowUpRx m) s fun t =>
        counted t ∧ (t.pport n).sync = none ∧
        ((s.pport n).dwin = [] → (t.pport n).fwd = some (t2 - ptpTime m.msg 34 - (c + h.corr)) ∧ SameRegs s t [Reg.ptpRxMsg n])) ∧
    (∀ t2 c, s.ptpAccept m [8] = (some h, u) → s.fromParent n h = true → (s.pport n).sync = some (h.seq, t2, c) →
      (s.pport n).syncOld = true → Completes (.ptpFollowUpRx m) s fun t =>
        counted t ∧ t.pport n = { s.pport n with sync := none, syncOld := false } ∧
        t.rdn (Reg.ptpSStepped n) = min (s.rdn (Reg.ptpSStepped n) + 1) 0xFFFFFFFF ∧ SameRegs s t [Reg.ptpRxMsg n, Reg.ptpSStepped n]) ∧
    (s.ptpAccept m [8] = (some h, u) → ((s.pport n).sync = none ∨ s.fromParent n h = false) → Completes (.ptpFollowUpRx m) s unused) ∧
    (s.ptpAccept m [1] = (some h, u) → s.forM n h = true → s.mState n = 2 → s.p2p n = false → h.flags / 1024 % 2 = 0 →
      Completes (.ptpDelayReqRx m) s fun t =>
        counted t ∧ (∃ r : Reply, (t.pport n).replies = (s.pport n).replies ++ [r] ∧ r.kind = 9 ∧ r.src = h.src ∧ r.seq = h.seq ∧
          r.rx = s.rxM m ∧ r.dst = none) ∧ SameRegs s t [Reg.ptpRxMsg n, Reg.ptpTsStatus]) ∧
    (∀ i, s.ptpAccept m [1] = (some h, u) → s.forM n h = true → s.mState n = 2 → s.p2p n = false → h.flags / 1024 % 2 = 1 →
      s.ucFind n h.src m.kind m.addr.toNat = some i → (s.ucEntry i).dresp ≠ none → Completes (.ptpDelayReqRx m) s fun t =>
        counted t ∧ (∃ r : Reply, (t.pport n).replies = (s.pport n).replies ++ [r] ∧ r.kind = 9 ∧ r.src = h.src ∧ r.seq = h.seq ∧
          r.rx = s.rxM m ∧ r.dst = some (m.kind.val, m.addr.toNat, m.mac.toNat)) ∧ SameRegs s t [Reg.ptpRxMsg n, Reg.ptpTsStatus]) ∧
    (s.ptpAccept m [1] = (some h, u) → (s.mState n ≠ 2 ∨ s.p2p n = true ∨ s.forM n h = false) → Completes (.ptpDelayReqRx m) s unused) ∧
    (∀ t3 f, s.ptpAccept m [9] = (some h, u) → (s.pport n).dreq = some (h.seq, t3) → (s.pport n).fwd = some f → s.fromParent n h = true →
      beAt m.msg 44 10 = s.identity n true → s.p2p n = false → Completes (.ptpDelayRespRx m) s fun t =>
        counted t ∧ (t.pport n).dreq = none ∧ (t.pport n).dlog = some h.log ∧
        SameRegs s t [Reg.ptpRxMsg n, Reg.ptpSGated n, Reg.ptpSStatus n, Reg.ptpSDelay n]) ∧
    (s.ptpAccept m [9] = (some h, u) → ((s.pport n).dreq = none ∨ (s.pport n).fwd = none ∨ s.fromParent n h = false) →
      Completes (.ptpDelayRespRx m) s unused) ∧
    (s.ptpAccept m [2] = (some h, u) → s.p2p n = true → s.mState n ≠ 0 → s.mState n ≠ 5 → Completes (.ptpPdelayReqRx m) s fun t =>
      counted t ∧ (∃ r : Reply, (t.pport n).replies = (s.pport n).replies ++ [r] ∧ r.kind = 3 ∧ r.src = h.src ∧ r.seq = h.seq ∧
        r.rx = s.rxM m) ∧ SameRegs s t [Reg.ptpRxMsg n, Reg.ptpTsStatus]) ∧
    (s.ptpAccept m [2] = (some h, u) → (s.p2p n = false ∨ s.mState n = 0 ∨ s.mState n = 5) → Completes (.ptpPdelayReqRx m) s unused) ∧
    (∀ t1, s.ptpAccept m [3] = (some h, u) → (s.pport n).pdOpen = some (h.seq, t1) → beAt m.msg 44 10 = s.identity n false →
      twoStep → Completes (.ptpPdelayRespRx m) s fun t =>
        counted t ∧ t.pport n = { s.pport n with pdResp := some (ptpTime m.msg 34, s.rxM m, h.corr) } ∧
        SameRegs s t [Reg.ptpRxMsg n, Reg.ptpTsStatus]) ∧
    (∀ t1, s.ptpAccept m [3] = (some h, u) → (s.pport n).pdOpen = some (h.seq, t1) → beAt m.msg 44 10 = s.identity n false →
      ¬ twoStep → Completes (.ptpPdelayRespRx m) s fun t => counted t ∧ (t.pport n).pdOpen = none ∧ (t.pport n).pdResp = none) ∧
    (s.ptpAccept m [3] = (some h, u) → (s.pport n).pdOpen = none → Completes (.ptpPdelayRespRx m) s unused) ∧
    (∀ t1 r, s.ptpAccept m [10] = (some h, u) → (s.pport n).pdOpen = some (h.seq, t1) → (s.pport n).pdResp = some r →
      beAt m.msg 44 10 = s.identity n false → Completes (.ptpPdelayRespFupRx m) s fun t =>
        counted t ∧ (t.pport n).pdOpen = none ∧ (t.pport n).pdResp = none ∧
        SameRegs s t [Reg.ptpRxMsg n, Reg.ptpLinkDelay n, Reg.ptpMState n, Reg.ptpSGated n, Reg.ptpSStatus n, Reg.ptpSDelay n]) ∧
    (s.ptpAccept m [10] = (some h, u) → ((s.pport n).pdOpen = none ∨ (s.pport n).pdResp = none) →
      Completes (.ptpPdelayRespFupRx m) s unused) ∧
    (s.ptpAccept m [12, 13] = (some h, u) → (h.type = 12 → (tlvsOf m.msg).all (fun x => x.1 < 4 || 7 < x.1) = true) →
      Completes (.ptpMgmtForward m) s
        (· = (u.hostFrame { q := s.fld Reg.ptpCtrl ⟨16, 2⟩, port := n, data := m.frame,
                            stamp := uns 64 (s.rxStamp n (s.lineTb n) m.back.toNat) }).showPins))

/-- Unicast negotiation (R309, R310, R315): a request to a MASTER port is decided TLV by TLV; a cancellation ends the grant; a grant to
the follower starts its time, and a denial makes it wait 10 s with PTP_EVENTS.PARENT; a renewal asks again; no reply within 1 s waits 10 s,
after which the request is sent again; a grant whose time has run out goes.

Profiles, timeouts and reads of the engine (R291, R296, R297, R311, R317, R551): a profile write sets the profile's domain and
intervals, and its first transport where TRANSPORT is not one of its own; a foreign master whose receipt timeout has passed leaves the table,
and a LISTENING port whose timer has run out with none qualified becomes MASTER; UC_SEL latches
an entry; reading the timestamp FIFO removes the oldest record and latches its words, and an empty one repeats the last record. -/
def Obligations.PtpGrantsProfilesAndTimeouts : Prop :=
  (∀ (s u : State) (m : PtpRx) (h : PtpHdr),
    let n := m.port
    let second : Nat := 1000000 * usTicks
    (s.ptpAccept m [12] = (some h, u) → s.forM n h = true → s.mState n = 2 → s.on (Reg.ptpMCfg n) Fld.ptpMCfg_UC = true →
      Completes (.ptpUcRequestRx m) s fun t =>
        t.ptp.uc = (State.ucAnswer n h.src m.kind m.addr.toNat m.mac.toNat m.msg (tlvsOf m.msg) u).2.ptp.uc) ∧
    (s.ptpAccept m [12] = (some h, u) → (s.mState n ≠ 2 ∨ s.forM n h = false ∨ s.on (Reg.ptpMCfg n) Fld.ptpMCfg_UC = false) →
      Completes (.ptpUcRequestRx m) s (· = u.showPins)) ∧
    (∀ c k i, s.ptpAccept m [12] = (some h, u) → s.forM n h = true → (tlvsOf m.msg).filter (·.1 == 6) = [c] →
      State.kindOf (beAt m.msg (c.2.1 + 4) 1 / 16) = some k → s.ucFind n h.src m.kind m.addr.toNat = some i →
      Completes (.ptpUcCancelRx m) s fun t => State.grantOf (t.ucEntry i) k = none ∧ ∀ j, j ≠ i → t.ucEntry j = s.ucEntry j) ∧
    (s.ptpAccept m [12] = (some h, u) → ((tlvsOf m.msg).filter (·.1 == 6) = [] ∨ s.forM n h = false) →
      Completes (.ptpUcCancelRx m) s (· = u.showPins)) ∧
    (∀ g k, s.ptpAccept m [12] = (some h, u) → (tlvsOf m.msg).filter (·.1 == 5) = [g] → h.dom = s.domS n → s.followOn n = true →
      s.on (Reg.ptpSCfg n) Fld.ptpSCfg_UC = true → m.kind.val = 1 → m.addr.toNat = s.rdn (Reg.ptpSUcIp n) →
      State.kindOf (beAt m.msg (g.2.1 + 4) 1 / 16) = some k → Completes (.ptpUcGrantRx m) s fun t =>
        (t.pport n).ucAsked = none ∧
        (beAt m.msg (g.2.1 + 6) 4 ≠ 0 → (t.pport n).ucUpto.get 0 k = s.monitorNow + beAt m.msg (g.2.1 + 6) 4 * second ∧
          (t.pport n).ucRetry = none ∧ SameRegs s t [Reg.ptpRxMsg n]) ∧
        (beAt m.msg (g.2.1 + 6) 4 = 0 → (t.pport n).ucUpto = (s.pport n).ucUpto ∧
          (t.pport n).ucRetry = some (s.monitorNow + 10 * second) ∧ t.bit Reg.ptpEvents (16 + n) = true ∧
          SameRegs s t [Reg.ptpRxMsg n, Reg.ptpEvents])) ∧
    (s.ptpAccept m [12] = (some h, u) → ((tlvsOf m.msg).filter (·.1 == 5) = [] ∨ h.dom ≠ s.domS n ∨ s.followOn n = false ∨
        m.addr.toNat ≠ s.rdn (Reg.ptpSUcIp n)) → Completes (.ptpUcGrantRx m) s (· = u.showPins)) ∧
    (∀ (client : Fin 4096) (kind : Fin 3) g, State.grantOf (s.ucEntry client) kind = some g → g.upto ≤ s.monitorNow →
      Completes (.ptpGrantExpire client kind) s fun t =>
        State.grantOf (t.ucEntry client) kind = none ∧ (∀ j, j ≠ client.val → t.ucEntry j = s.ucEntry j) ∧
        SameRegs s t [Reg.ptpUcStatus, Reg.ptpUcRate, Reg.ptpEvents]) ∧
    (∀ (client : Fin 4096) (kind : Fin 3), (∀ g, State.grantOf (s.ucEntry client) kind = some g → s.monitorNow < g.upto) →
      Completes (.ptpGrantExpire client kind) s (· = s.showPins)) ∧
    (∀ p : Fin 4, s.negotiatesUc p = true → (s.pport p).ucAsked = none → (s.pport p).ucRetry = none →
      (∃ k < 3, (s.pport p).ucUpto.get 0 k ≤ s.monitorNow + (30 * second : Nat)) → Completes (.ptpUcRenew p) s fun t =>
        (t.pport p).ucAsked = some s.monitorNow ∧ (t.pport p).ucRetry = none ∧ (t.pport p).ucUpto = (s.pport p).ucUpto) ∧
    (∀ p : Fin 4, ((s.pport p).ucAsked ≠ none ∨ (s.pport p).ucRetry ≠ none ∨
        ∀ k < 3, s.monitorNow + (30 * second : Nat) < (s.pport p).ucUpto.get 0 k) → Completes (.ptpUcRenew p) s (· = s.showPins)) ∧
    (∀ (p : Fin 4) t0, s.negotiatesUc p = true → (s.pport p).ucAsked = some t0 → t0 + second ≤ s.monitorNow →
      Completes (.ptpUcRetry p) s fun t =>
        (t.pport p).ucAsked = none ∧ (t.pport p).ucRetry = some (s.monitorNow + 10 * second) ∧ t.bit Reg.ptpEvents (16 + p) = true ∧
        SameRegs s t [Reg.ptpEvents]) ∧
    (∀ (p : Fin 4) t0, s.negotiatesUc p = true → (s.pport p).ucAsked = none → (s.pport p).ucRetry = some t0 → t0 ≤ s.monitorNow →
      Completes (.ptpUcRetry p) s fun t => (t.pport p).ucAsked = some s.monitorNow ∧ (t.pport p).ucRetry = none) ∧
    (∀ p : Fin 4, s.negotiatesUc p = false → Completes (.ptpUcRenew p) s (· = s.showPins) ∧ Completes (.ptpUcRetry p) s (· = s.showPins))) ∧
  (∀ (s : State) (n : Fin 4),
    let lapsed (log t : Int) : Prop := t + (max 2 (s.rdn (Reg.ptpMIntv n) % 16) * intervalTicks log : Nat) ≤ s.monitorNow
    (∀ profile : Fin 8, let d := profileDefaults profile
      Completes (.ptpProfileWrite n profile) s fun t =>
        t.fld (Reg.ptpMCfg n) Fld.ptpMCfg_PROFILE = profile.val ∧ t.domM n = d.1 ∧ t.domS n = d.1 ∧
        t.rdn (Reg.ptpMIntv n) = uns 8 d.2.1 * 2 ^ 24 + uns 8 d.2.2.1 * 65536 + uns 8 d.2.2.2.1 * 256 + 3 ∧
        (profile.val ∉ [2, 3, 4] → t.rdn (Reg.ptpMIntv n) = 0x01000003) ∧
        t.transport n = (if d.2.2.2.2.contains (s.transport n) then s.transport n else d.2.2.2.2.headD 0)) ∧
    (∀ (dom : BitVec 8) (f : BitVec 80), Completes (.ptpAnnounceTimeout n dom (some f)) s fun t =>
      (t.pport n).foreign = (s.pport n).foreign.filter fun g =>
        !(g.dom == dom.toNat && g.src == f.toNat && s.receiptOver n g.logIntv g.last)) ∧
    (∀ log t, s.receiptOver n log t = true ↔ lapsed log t) ∧
    (∀ dom : BitVec 8, s.mState n = 1 → s.bestIn n (s.domM n) = none → lapsed (s.annLog n) (s.pport n).listenFrom →
      Completes (.ptpAnnounceTimeout n dom none) s fun t =>
        t.mState n = 2 ∧ t.bit Reg.ptpEvents (8 + n) = true ∧ SameRegs s t [Reg.ptpMState n, Reg.ptpEvents]) ∧
    (∀ dom : BitVec 8, (s.mState n ≠ 1 ∨ s.bestIn n (s.domM n) ≠ none ∨ ¬ lapsed (s.annLog n) (s.pport n).listenFrom) →
      Completes (.ptpAnnounceTimeout n dom none) s (· = s.showPins)) ∧
    (∀ entry : Fin 4096, Completes (.ptpUcSelWrite entry) s fun t =>
      t.rdn Reg.ptpUcSel = entry.val ∧ t.rd (Reg.ptpUcData 0) = BitVec.ofNat 32 ((s.ucWords (s.ucEntry entry)).headD 0) ∧ OnlyRegs s t ∧
      SameRegs s t (Reg.ptpUcSel :: (List.range 10).map Reg.ptpUcData)) ∧
    (∀ (w0 w1 w2 w3 : Word) (es : List (List Word)), s.ptp.ts.entries = [w0, w1, w2, w3] :: es → Completes .ptpTsRead s fun t =>
      t.ptp.ts.entries = es ∧ t.rd (Reg.ptpTs 0) = w0 ∧ t.rd (Reg.ptpTs 1) = w1 ∧ t.rd (Reg.ptpTs 2) = w2 ∧ t.rd (Reg.ptpTs 3) = w3 ∧
      t.rdn Reg.ptpTsStatus = es.length % 2 ^ 32 ∧
      SameRegs s t [Reg.ptpTs 0, Reg.ptpTs 1, Reg.ptpTs 2, Reg.ptpTs 3, Reg.ptpTsStatus]) ∧
    (s.ptp.ts.entries = [] → Completes .ptpTsRead s fun t => t.ptp.ts.entries = [] ∧ t.bit (Reg.ptpTs 0) 3 = true))

/-- What the engine sends (R276, R277, R298–R301, R307, R310): an Announce or Sync whose instant has passed since the last one is offered to its port
and counted in TX_MSG, to the group or to a client whose grant runs; more than 1 ms late it only counts in LATE, and for a client of a
port that is not UP in TX_DOWN; a two-step Sync owes its Follow_Up; a Delay_Req or Pdelay_Req opens its
exchange; a reply is sent, counted in LATE 1 ms after its request, or discarded in a state that sends none, and is owed no more; without a key
a signed message is not sent and counts in NOKEY.  What is not due does nothing. -/
def Obligations.PtpSendsAsR298ToR301 : Prop :=
  ∀ (s : State) (n : Fin 4) (back : BitVec 32) (client : Fin 4096),
    let slot := s.fld (Reg.ptpAuth n) ⟨16, 4⟩
    let signs := s.bit (Reg.ptpAuth n) 1 = false ∨ (s.keyTx slot = true ∧ s.ptpKey slot ≠ none)
    let free := s.lineUp n = true ∧ s.on (Reg.lineStatus n) Fld.lineStatus_PAUSED = false ∧ signs
    let stamp := s.txStamp n 0 back.toNat
    let offered (t : State) : Prop :=
      (∃ f, (t.lineAt n).wait = (s.lineAt n).wait ++ [f] ∧ f.src = 1) ∧ t.rdn (Reg.ptpTxMsg n) = min (s.rdn (Reg.ptpTxMsg n) + 1) 0xFFFFFFFF
    let late (t : State) : Prop := t.rdn (Reg.ptpLate n) = min (s.rdn (Reg.ptpLate n) + 1) 0xFFFFFFFF ∧ t.line = s.line
    let group := s.mSends n = true ∧ s.on (Reg.ptpMCfg n) Fld.ptpMCfg_MCAST = true
    let ann := s.lastInstant (s.annLog n) (50000 * 2 ^ 48)
    let syn := s.lastInstant (s.syncLog n) 0
    let own (g : Grant) := s.lastInstant g.log (State.clientOffset g.log client)
    let fup (t : State) : Prop := s.oneStep n = false → ∃ r : Reply, (t.pport n).replies = (s.pport n).replies ++ [r] ∧ r.kind = 8 ∧ r.tx = stamp
    (group → free → (s.pport n).annSent ≠ some ann.1 → ann.2.2 = false → Completes (.ptpAnnounceTx n none) s fun t =>
      offered t ∧ (t.pport n).pubWait = false ∧ (t.pport n).annSent = some ann.1 ∧ SameRegs s t [Reg.ptpTxMsg n]) ∧
    (group → s.lineUp n = true → (s.pport n).annSent ≠ some ann.1 → ann.2.2 = true → Completes (.ptpAnnounceTx n none) s fun t =>
      late t ∧ (t.pport n).annSent = some ann.1 ∧ SameRegs s t [Reg.ptpLate n]) ∧
    (group → s.lineUp n = true → s.bit (Reg.ptpAuth n) 1 = true → s.keyTx slot = false → (s.pport n).annSent ≠ some ann.1 → ann.2.2 = false →
      Completes (.ptpAnnounceTx n none) s fun t =>
        t.rdn (Reg.ptpAuthNokey n) = min (s.rdn (Reg.ptpAuthNokey n) + 1) 0xFFFFFFFF ∧ t.line = s.line ∧ SameRegs s t [Reg.ptpAuthNokey n]) ∧
    (group → free → (s.pport n).syncSent ≠ some syn.1 → syn.2.2 = false → Completes (.ptpSyncTx n none back) s fun t =>
      offered t ∧ (t.pport n).syncSent = some syn.1 ∧ fup t ∧ SameRegs s t [Reg.ptpTxMsg n, Reg.ptpTsStatus]) ∧
    (group → s.lineUp n = true → (s.pport n).syncSent ≠ some syn.1 → syn.2.2 = true → Completes (.ptpSyncTx n none back) s fun t =>
      late t ∧ (t.pport n).syncSent = some syn.1 ∧ SameRegs s t [Reg.ptpLate n]) ∧
    (¬ group → Completes (.ptpAnnounceTx n none) s (· = s.showPins) ∧ Completes (.ptpSyncTx n none back) s (· = s.showPins)) ∧
    ((s.pport n).annSent = some ann.1 → Completes (.ptpAnnounceTx n none) s (· = s.showPins)) ∧
    ((s.pport n).syncSent = some syn.1 → Completes (.ptpSyncTx n none back) s (· = s.showPins)) ∧
    (∀ g, s.mSends n = true → free → s.grantRuns n client 0 = some g → g.sent ≠ some (own g).1 → (own g).2.2 = false →
      Completes (.ptpAnnounceTx n (some client)) s fun t =>
        offered t ∧ (t.ucEntry client).ann = some { g with seq := (g.seq + 1) % 65536, sent := some (own g).1 } ∧
        SameRegs s t [Reg.ptpTxMsg n, Reg.ptpUcStatus, Reg.ptpUcRate]) ∧
    (∀ g, s.mSends n = true → free → s.grantRuns n client 1 = some g → g.sent ≠ some (own g).1 → (own g).2.2 = false →
      Completes (.ptpSyncTx n (some client) back) s fun t =>
        offered t ∧ (t.ucEntry client).sync = some { g with seq := (g.seq + 1) % 65536, sent := some (own g).1 } ∧ fup t ∧
        SameRegs s t [Reg.ptpTxMsg n, Reg.ptpTsStatus, Reg.ptpUcStatus, Reg.ptpUcRate]) ∧
    (∀ g k, ∀ p ∈ [(Instr.ptpAnnounceTx n (some client), 0), (.ptpSyncTx n (some client) back, 1)], p.2 = k →
      s.grantRuns n client k = some g → g.sent ≠ some (own g).1 →
      (s.mSends n = true → s.lineUp n = true → (own g).2.2 = true → Completes p.1 s fun t => late t) ∧
      (s.ptpOn = true → s.on (Reg.ptpMCfg n) Fld.ptpMCfg_ENABLE = true → s.role n ≠ 0 → s.lineUp n = false → Completes p.1 s fun t =>
        t.rdn (Reg.lineTxDown n) = min (s.rdn (Reg.lineTxDown n) + 1) 0xFFFFFFFF ∧ t.line = s.line)) ∧
    (∀ p ∈ [(Instr.ptpAnnounceTx n (some client), 0), (.ptpSyncTx n (some client) back, 1)], s.grantRuns n client p.2 = none →
      Completes p.1 s (· = s.showPins)) ∧
    (∀ r, ∀ p ∈ [(Instr.ptpFollowUpTx n, 8), (.ptpDelayRespTx n, 9), (.ptpPdelayRespFupTx n, 10), (.ptpPdelayRespTx n back, 3)],
      let owes := (s.pport n).replies.find? (·.kind == p.2)
      let rest := (s.pport n).replies.eraseP (·.kind == p.2)
      let sends := State.repliesIn p.2 (s.mState n) = true ∧ s.mayTransmit = true
      (owes = none → Completes p.1 s (· = s.showPins)) ∧
      (owes = some r → ¬ sends → Completes p.1 s fun t => (t.pport n).replies = rest ∧ t.line = s.line ∧ t.regs = s.regs) ∧
      (owes = some r → sends → s.replyLate r = true → Completes p.1 s fun t =>
        late t ∧ (t.pport n).replies = rest ∧ SameRegs s t [Reg.ptpLate n]) ∧
      (owes = some r → sends → s.replyLate r = false → free → Completes p.1 s fun t =>
        offered t ∧ SameRegs s t [Reg.ptpTxMsg n, Reg.ptpTsStatus] ∧
        (t.pport n).replies = rest ++ if p.2 = 3 ∧ s.oneStep n = false then [{ r with kind := 10, tx := stamp, got := s.monitorNow }] else [])) ∧
    (∀ f q, let k := s.monitorNow / intervalTicks ((s.pport n).dlog.getD (s.delayLog n))
      free → s.mayFollow n = true → s.p2p n = false → (s.pport n).dreqSlot ≠ some k → (s.pport n).parent = some q → s.parentOf n = some f →
      Completes (.ptpDelayReqTx n back) s fun t =>
        offered t ∧ (t.pport n).dreq = some ((s.pport n).seqs.get 0 1, s.txStamp n (s.tbS n) back.toNat) ∧ (t.pport n).dreqSlot = some k ∧
        SameRegs s t [Reg.ptpTxMsg n, Reg.ptpTsStatus]) ∧
    ((s.mayFollow n = false ∨ s.p2p n = true ∨ (s.pport n).parent = none) → Completes (.ptpDelayReqTx n back) s (· = s.showPins)) ∧
    (free → s.p2p n = true → s.mOn n = true → s.mState n ≠ 0 → s.mState n ≠ 5 → s.mayTransmit = true →
      (∀ t0, (s.pport n).pdAt = some t0 → t0 + intervalTicks (s.delayLog n) ≤ s.monitorNow) → Completes (.ptpPdelayReqTx n back) s fun t =>
        offered t ∧ (t.pport n).pdOpen = some ((s.pport n).seqs.get 0 2, stamp) ∧ (t.pport n).pdResp = none ∧
        (t.pport n).pdAt = some s.monitorNow ∧ SameRegs s t [Reg.ptpTxMsg n, Reg.ptpTsStatus, Reg.ptpMState n]) ∧
    ((s.p2p n = false ∨ s.mOn n = false ∨ s.mState n = 5 ∨ s.mayTransmit = false) → Completes (.ptpPdelayReqTx n back) s (· = s.showPins))

/-! ### Serial audio, streams and converters (R354–R387) -/

/-- Serial audio (R27, R360, R364–R366, R378): a frame of a locked input enters the elastic buffer of two frames or counts a slip, and one of
domain X leaves its C and U bits; lock
starts a searching input, with its rate; lock lost ends it, and an input of domain X is LOST at once; at the launch instant each
master bank of the domain sends its TDM frame and each other running output of the domain one frame. -/
def Obligations.SerialPinsLockBufferAndLaunch : Prop :=
  ∀ (s : State) (n : Fin 48),
    let taken := (s.saAt n).enabled = true ∧ (s.saAt n).locked = true ∧ s.saIn n = true
    let event := [Reg.serialEvtLo, Reg.serialEvtHi]
    let asrc := (List.range 128).map Reg.asrcStatus ++ (List.range 4).map Reg.streamAsrcEvt
    let parity (chans : List ChanIn) (t : State) : Prop :=
      t.rdn (Reg.saParity n) = min (s.rdn (Reg.saParity n) + (chans.filter (· == ChanIn.badParity)).length) 0xFFFFFFFF
    (∀ (chans : List ChanIn) (z : Bool), taken → s.saDom n ≠ 2 → Completes (.serialFrameRx n chans z) s fun t =>
        parity chans t ∧
        (t.saAt n).buffer = (s.saAt n).buffer ++ (if 2 ≤ (s.saAt n).buffer.length then [] else
          [⟨(s.domAt (s.saDom n)).n + (if s.wordLate (s.saDom n) then 2 else 1), chans, z⟩]) ∧
        t.rdn (Reg.saSlips n) = (if 2 ≤ (s.saAt n).buffer.length then min (s.rdn (Reg.saSlips n) + 1) 0xFFFFFFFF else s.rdn (Reg.saSlips n)) ∧
        SameRegs s t ([Reg.saParity n, Reg.saSlips n, Reg.saCsBad n] ++ (List.range 6).map (Reg.saCs n))) ∧
    (∀ (chans : List ChanIn) (z : Bool), taken → s.saDom n = 2 → Completes (.serialFrameRx n chans z) s fun t =>
      parity chans t ∧ (t.saAt n).buffer = (s.saAt n).buffer ∧ (t.saAt n).cu = chans.map (State.cuOf z) ∧
      SameRegs s t ([Reg.saParity n, Reg.saCsBad n] ++ (List.range 6).map (Reg.saCs n))) ∧
    (∀ (chans : List ChanIn) (z : Bool), ¬ taken → Completes (.serialFrameRx n chans z) s (· = s.showPins)) ∧
    (∀ rate : BitVec 24, (s.saAt n).enabled = true → s.saIn n = true → Completes (.serialLock n rate) s fun t =>
      t.saState n = (if s.saState n = 1 ∨ s.saDom n = 2 then 2 else s.saState n) ∧ (t.saAt n).locked = true ∧
      t.fld (Reg.saStatus n) ⟨8, 24⟩ = rate.toNat ∧ (s.saState n = 1 → t.intc.raised = s.intc.raised ++ [43]) ∧
      SameRegs s t (Reg.saStatus n :: event)) ∧
    (∀ rate : BitVec 24, ((s.saAt n).enabled = false ∨ s.saIn n = false) → Completes (.serialLock n rate) s (· = s.showPins)) ∧
    ((s.saAt n).locked = true → s.saIn n = true → Completes (.serialLockLost n) s fun t =>
      (t.saAt n).locked = false ∧ (t.saAt n).csAcc = [] ∧ t.saState n = (if s.saDom n = 2 then 3 else s.saState n) ∧
      SameRegs s t (Reg.saStatus n :: event ++ asrc)) ∧
    (((s.saAt n).locked = false ∨ s.saIn n = false) → Completes (.serialLockLost n) s (· = s.showPins)) ∧
    (∀ (dom : Fin 2) (late : List Nat), s.domUsed dom = true → Completes (.serialLaunch dom late) s fun t =>
      t.sent.length = s.sent.length +
        ((List.range 6).filter fun b => s.bankMaster b && s.bankDom b == some dom.val && !s.bankBad b).length +
        ((List.range 48).filter fun k => (s.saAt k).enabled && s.saOut k && s.saDom k == dom.val && s.saPers k != 6).length ∧
      (∀ k < 48, (s.saAt k).enabled = true → s.saOut k = true → s.saDom k = dom.val → late.contains k = true →
        t.rdn (Reg.saLate k) = min (s.rdn (Reg.saLate k) + 1) 0xFFFFFFFF) ∧
      SameRegs s t ((List.range 48).map Reg.saLate)) ∧
    (∀ (dom : Fin 2) (late : List Nat), s.domUsed dom = false → Completes (.serialLaunch dom late) s (· = s.showPins))

/-- Network streams and converters (R357, R358, R367, R370–R372): a packet reaches the entry it matches, and a packet whose RTP header is bad is
discarded there with reason 1; a source unheard for 64 SP goes; ENABLE starts and stops receive and transmit entries, or shows why one does
not start; the ASRC channels of a source that delivers samples lock together within 30 kHz to 200 kHz, follow its rate, and unlock together,
with fault 9 when the rate strayed. -/
def Obligations.StreamsAndConvertersFollowTheirEntries : Prop :=
  ∀ (s : State) (i : Fin 256),
    let asrc := (List.range 128).map Reg.asrcStatus ++ (List.range 4).map Reg.streamAsrcEvt
    let on := s.putBit (Reg.rxCtrl i) 0 true
    let pages := (8 * 2 ^ (s.rdn (Reg.rxPlayout i) % 16) * s.fmtCh (Reg.rxCtrl i) + 4095) / 4096
    let txOn := s.putBit (Reg.txCtrl i) 0 true
    let txRegs := [Reg.txCtrl i, Reg.txStatus i, Reg.streamTxEvt (i / 32)]
    (∀ (n : Fin 4) (frame : List Byte), (s.streamEn = false ∨ ∀ j < 256, s.rxMatch j n (parseEth frame) = none) →
      Completes (.streamPacketRx n frame) s (· = s.showPins)) ∧
    (∀ (n : Fin 4) (frame : List Byte) (p : Nat), s.streamEn = true → s.rxMatch i n (parseEth frame) = some p →
      (∀ j < 256, j ≠ i.val → s.rxMatch j n (parseEth frame) = none) → Completes (.streamPacketRx n frame) s fun t =>
        t.rxE i = (s.rxFrame i p (parseEth frame)).rxE i ∧ t.rxState i = (s.rxFrame i p (parseEth frame)).rxState i ∧
        ∀ u, s.fmtProf (Reg.rxCtrl i) ≠ 2 → parseUdp (parseEth frame) = some u → parseRtp s.claimId u.payload = none →
          t.rdn (Reg.rxDiscard i) = min (s.rdn (Reg.rxDiscard i) + 1) 0xFFFFFFFF ∧ t.fld (Reg.rxStatus i) ⟨4, 4⟩ = 1) ∧
    (∀ (path : Fin 2) (addr : BitVec 128) (r : RxSource), r ∈ (s.rxE i).sources → r.path = path.val → r.addr = addr.toNat →
      64 ≤ (s.rxNow i).1 - r.heard → Completes (.streamSourceTimeout i path addr) s fun t =>
        (∀ q ∈ (t.rxE i).sources, ¬ (q.path = path.val ∧ q.addr = addr.toNat)) ∧ t.regs = s.regs) ∧
    (∀ (path : Fin 2) (addr : BitVec 128), (∀ r ∈ (s.rxE i).sources ++ (s.rxE i).refused, r.path = path.val → r.addr = addr.toNat →
        (s.rxNow i).1 - r.heard < 64) → Completes (.streamSourceTimeout i path addr) s (· = s.showPins)) ∧
    (Completes (.streamRxEnable i false) s fun t =>
      t.rxState i = 0 ∧ t.bit (Reg.rxCtrl i) 0 = false ∧ t.rd (Reg.rxClaimStatus i) = 0 ∧ (s.rxState i ≠ 0 → t.rxE i = {})) ∧
    (s.rxState i = 0 → on.rxCfgOk i = true → pages ≤ s.poolFree → Completes (.streamRxEnable i true) s fun t =>
        t.rxState i = 1 ∧ t.bit (Reg.rxCtrl i) 0 = true ∧ t.poolFree = s.poolFree - pages ∧
        SameRegs s t ([Reg.rxCtrl i, Reg.rxStatus i, Reg.storePool, Reg.pagerStatus, Reg.streamRxEvt (i / 32)] ++ asrc)) ∧
    (s.rxState i = 0 → on.rxCfgOk i = false → Completes (.streamRxEnable i true) s fun t =>
      t.rxState i = 0 ∧ t.bit (Reg.rxStatus i) 15 = true ∧ t.rxE i = s.rxE i ∧ SameRegs s t [Reg.rxCtrl i, Reg.rxStatus i]) ∧
    (s.rxState i = 0 → on.rxCfgOk i = true → s.poolFree < pages → Completes (.streamRxEnable i true) s fun t =>
      t.rxState i = 0 ∧ t.bit (Reg.rxStatus i) 14 = true ∧ t.rxE i = s.rxE i ∧ SameRegs s t [Reg.rxCtrl i, Reg.rxStatus i]) ∧
    (s.rxState i ≠ 0 → Completes (.streamRxEnable i true) s (· = on.showPins)) ∧
    (Completes (.streamTxEnable i false) s fun t =>
      t.txState i = 0 ∧ t.bit (Reg.txCtrl i) 0 = false ∧ t.txE i = {} ∧ SameRegs s t txRegs) ∧
    (s.txState i ≠ 1 → s.txState i ≠ 2 → txOn.txCfgOk i = true → Completes (.streamTxEnable i true) s fun t =>
      t.txState i = (if txOn.txMay i then 1 else 2) ∧ t.txE i = {} ∧ t.intc.raised = s.intc.raised ++ [44] ∧ SameRegs s t txRegs) ∧
    (s.txState i = 0 → txOn.txCfgOk i = false → Completes (.streamTxEnable i true) s fun t =>
      t.txState i = 3 ∧ t.intc.raised = s.intc.raised ++ [44] ∧ SameRegs s t txRegs) ∧
    ((s.txState i = 1 ∨ s.txState i = 2) → Completes (.streamTxEnable i true) s (· = txOn.showPins)) ∧
    (∀ (stream : Bool) (rate : BitVec 24), let src := stream.toNat * 256 + i.val
      (s.asrcGroup src ≠ [] → s.asrcFed stream i = true → s.audio.groups.get 0 src = 0 →
        1920000 ≤ rate.toNat → rate.toNat ≤ 12800000 → Completes (.asrcLock stream i rate) s fun t =>
          t.audio.groups.get 0 src = rate.toNat ∧ t.intc.raised = s.intc.raised ++ [47] ∧
          ∀ c ∈ s.asrcGroup src, t.bit (Reg.asrcStatus c) 1 = true ∧ t.fld (Reg.asrcStatus c) ⟨8, 24⟩ = rate.toNat) ∧
      ((s.asrcGroup src = [] ∨ s.asrcFed stream i = false ∨ s.audio.groups.get 0 src ≠ 0 ∨ rate.toNat < 1920000 ∨ 12800000 < rate.toNat) →
        Completes (.asrcLock stream i rate) s (· = s.showPins)) ∧
      (s.audio.groups.get 0 src = 0 → Completes (.asrcUnlock stream i rate) s (· = s.showPins)) ∧
      (s.audio.groups.get 0 src ≠ 0 → (rate = 0 ∨ s.asrcStrays src rate.toNat = true) → Completes (.asrcUnlock stream i rate) s fun t =>
        t.audio.groups.get 0 src = 0 ∧ t.intc.raised = s.intc.raised ++ [47] ∧
        (rate ≠ 0 → t.fault.strobes.length = s.fault.strobes.length + 1) ∧
        ∀ c ∈ s.asrcGroup src, t.bit (Reg.asrcStatus c) 1 = false) ∧
      (s.audio.groups.get 0 src ≠ 0 → rate ≠ 0 → s.asrcStrays src rate.toNat = false → Completes (.asrcUnlock stream i rate) s fun t =>
        t.audio.groups.get 0 src = rate.toNat ∧ (∀ c ∈ s.asrcGroup src, t.fld (Reg.asrcStatus c) ⟨8, 24⟩ = rate.toNat) ∧
        SameRegs s t ((List.range 128).map Reg.asrcStatus)))

/-! ### The sample store, boundaries and the second (R20, R137, R385–R401) -/

/-- The table window (R53, R395, R397, R399, R401): a command on a table whose region is being applied is a violation; a command is none while BUSY;
an index beyond its table sets RANGE; READ latches the entry in force; WRITE waits for its boundary, after a commit that waits if it came later, and
is refused beyond the mix load; STAGE adds to the group of at most 1,024; the table of meters takes neither; RELEASE latches and frees a meter's
HOLD and CLIPS; the end of a command clears BUSY. -/
def Obligations.TableWindowFollowsR401 : Prop :=
  ∀ (s : State),
    let tb := (tblSelected s).1
    let ix := (tblSelected s).2
    let free := s.tableBusy tb = false ∧ s.bit Reg.tblStatus 0 = false
    let started := free ∧ ix < s.tableSize tb
    let w := tblWriteOf s tb ix
    let refused := ((s.wr Reg.tblStatus 1).applyWrite w).2
    (∀ c ∈ [Instr.tblRead, .tblWrite, .tblStage, .tblRelease], s.tableBusy tb = true → Completes c s fun t =>
      Violated s t 5 .pcie true false Reg.tblCmd ∧ OnlyRegs s t) ∧
    (∀ c ∈ [Instr.tblRead, .tblWrite, .tblStage, .tblRelease], s.tableBusy tb = false → s.bit Reg.tblStatus 0 = true →
      Completes c s (· = s.showPins)) ∧
    (∀ c ∈ [Instr.tblRead, .tblWrite, .tblStage, .tblRelease], free → s.tableSize tb ≤ ix → Completes c s fun t =>
      t.rdn Reg.tblStatus = 9 ∧ SameRegs s t [Reg.tblStatus] ∧ OnlyRegs s t) ∧
    (∀ c ∈ [Instr.tblWrite, .tblStage], started → tb = 4 → Completes c s fun t =>
      t.rdn Reg.tblStatus = 1 ∧ SameRegs s t [Reg.tblStatus] ∧ OnlyRegs s t) ∧
    (started → Completes .tblRead s fun t =>
      t.rdn Reg.tblStatus = 1 ∧ (∀ k < 4, t.rd (Reg.tblData k) = BitVec.ofNat 32 ((s.tblEntry tb ix).getD k 0)) ∧
      SameRegs s t (Reg.tblStatus :: (List.range 4).map Reg.tblData) ∧ (tb ≠ 2 → OnlyRegs s t)) ∧
    (started → tb ≠ 4 → refused = false → Completes .tblWrite s fun t =>
        t.store = (if s.store.commitDom.isSome then { s.store with waitingLate := s.store.waitingLate ++ [w] }
          else { s.store with waiting := s.store.waiting ++ [w] }) ∧ t.rdn Reg.tblStatus = 1 ∧
        SameRegs s t [Reg.tblStatus]) ∧
    (started → tb ≠ 4 → refused = true → Completes .tblWrite s fun t =>
      t.rdn Reg.tblStatus = 5 ∧ SameRegs s t [Reg.tblStatus] ∧ OnlyRegs s t) ∧
    (started → tb ≠ 4 → s.store.staged.length < 1024 → Completes .tblStage s fun t =>
      t.store = { s.store with staged := s.store.staged ++ [w] } ∧
      t.fld Reg.routeStatus ⟨21, 11⟩ = s.store.staged.length + 1 ∧ SameRegs s t [Reg.tblStatus, Reg.routeStatus]) ∧
    (started → tb ≠ 4 → 1024 ≤ s.store.staged.length → Completes .tblStage s fun t =>
      t.rdn Reg.tblStatus = 3 ∧ SameRegs s t [Reg.tblStatus] ∧ OnlyRegs s t) ∧
    (started → Completes .tblRelease s fun t =>
      (tb = 4 → (t.meter ix).hold = 0 ∧ (t.meter ix).clips = 0) ∧ (∀ j, tb ≠ 4 ∨ j ≠ ix → t.meter j = s.meter j) ∧
      (∀ k < 4, t.rd (Reg.tblData k) = BitVec.ofNat 32 ((s.tblEntry tb ix).getD k 0)) ∧
      SameRegs s t (Reg.tblStatus :: (List.range 4).map Reg.tblData)) ∧
    (Completes .tblCmdDone s fun t => t.bit Reg.tblStatus 0 = false ∧ SameRegs s t [Reg.tblStatus] ∧ OnlyRegs s t)

/-- Commits, meters, pages and the split of the store (R53, R385, R391, R392, R395, R399): a staged group waits for its common boundary and a
second COMMIT meanwhile is refused, as is a group of both domains in no exact ratio; DISCARD drops the staged; while a region is being applied both are
violations; a period's end starts each meter of the domain afresh; HOLD is released at its time; a page fetched for a paged line logs its wait, and one
unanswered raises fault 42; the split moves only
past slots that nothing names; a block reset empties every delay line and returns enabled receive entries to WAIT.

A sample boundary and a second boundary (R20, R137, R217, R354): a domain the structure does not use has none; a boundary of a used one
sets it running, and counts one where it ran and its pull stands; a second ends with interrupt 11 and the watchdog starts the next second afresh. -/
def Obligations.StoreCommitsAndBoundaries : Prop :=
  (∀ (s : State),
    let doms := (s.store.staged.map s.writeDom).filter s.domUsed
    let split := 0 ∈ doms ∧ 1 ∈ doms ∧ s.exactRatio = false
    let secs := min 60 (s.rdn Reg.meterCfg / 2 ^ 24)
    let due (slot : Nat) := 0 < secs ∧ (secs * secondTicks : Nat) ≤ s.monitorNow - (s.meter slot).rose
    (∀ c ∈ [Instr.routeCommit, .routeDiscard], s.commitBusy = true → Completes c s fun t =>
      Violated s t 5 .pcie true false Reg.routeCommit ∧ OnlyRegs s t) ∧
    (s.commitBusy = false → s.store.commitDom.isSome = true → Completes .routeCommit s fun t =>
      t.bit Reg.routeStatus 1 = true ∧ SameRegs s t [Reg.routeStatus] ∧ OnlyRegs s t) ∧
    (s.commitBusy = false → s.store.commitDom = none → split → Completes .routeCommit s fun t =>
      t.bit Reg.routeStatus 2 = true ∧ SameRegs s t [Reg.routeStatus] ∧ OnlyRegs s t) ∧
    (s.commitBusy = false → s.store.commitDom = none → ¬ split → Completes .routeCommit s fun t =>
      t.store.commit = s.store.staged ∧ t.store.staged = [] ∧ t.store.commitDom.isSome = true ∧ t.bit Reg.routeStatus 0 = true ∧
      SameRegs s t [Reg.routeStatus]) ∧
    (s.commitBusy = false → Completes .routeDiscard s fun t =>
      t.store = { s.store with staged := [] } ∧ t.fld Reg.routeStatus ⟨21, 11⟩ = 0 ∧ SameRegs s t [Reg.routeStatus]) ∧
    (∀ dom : Fin 2, (s.domUsed dom = false ∨ (s.domAt dom).meterN < s.meterPeriod dom) →
      Completes (.meterPeriodEnd dom) s (· = s.showPins)) ∧
    (∀ dom : Fin 2, s.domUsed dom = true → s.meterPeriod dom ≤ (s.domAt dom).meterN → Completes (.meterPeriodEnd dom) s fun t =>
      (t.domAt dom).meterN = 0 ∧
      (∀ i ∈ s.meteredSlots dom, (t.meter i).peak = 0 ∧ (t.meter i).sq = 0 ∧ (t.meter i).clipped = 0 ∧
        (t.meter i).ln = (s.domAt dom).meterN ∧ (t.meter i).hold = max (s.meter i).hold (s.meter i).peak) ∧
      (∀ i, i ∉ s.meteredSlots dom → t.meter i = s.meter i) ∧ SameRegs s t [Reg.meterClip]) ∧
    (∀ slot : Fin 8192, ¬ due slot → Completes (.meterHoldRelease slot) s (· = s.showPins)) ∧
    (∀ slot : Fin 8192, due slot → Completes (.meterHoldRelease slot) s fun t =>
      t.meter slot = { s.meter slot with hold := 0 } ∧ (∀ i, i ≠ slot.val → t.meter i = s.meter i) ∧ t.regs = s.regs) ∧
    (∀ (line : Fin 2048) (ns : Word), (s.lineE line).st = 2 → Completes (.pagerPageFetch line ns []) s fun t =>
      t.dram.wait = max s.dram.wait ns.toNat ∧ t.dram.inject = 0 ∧ t.store = s.store ∧ t.regs = s.regs) ∧
    (∀ (line : Fin 2048) (ns : Word) errs, (s.lineE line).st = 2 → Completes (.pagerPageFetch line ns errs) s fun t =>
      t.dram.wait = max s.dram.wait ns.toNat ∧ t.dram.inject = 0 ∧ (∀ j, j ≠ line.val → t.lineE j = s.lineE j) ∧
      SameRegs s t [Reg.dramEccAddrLo, Reg.dramEccAddrLo + 4, Reg.dramEccSyndrome, Reg.dramEccStatus, Reg.dramEccUeCount, Reg.dramEccCeCount]) ∧
    (∀ (line : Fin 2048) (ns : Word) errs, (s.lineE line).st ≠ 2 → Completes (.pagerPageFetch line ns errs) s (· = s.showPins)) ∧
    (s.store.lines.any (fun e => e.2.st == 2) = true → Completes .pagerTimeout s fun t =>
      t.fault.strobes = s.fault.strobes ++ [(42, 0, false)] ∧ t.regs = s.regs) ∧
    (s.store.lines.any (fun e => e.2.st == 2) = false → Completes .pagerTimeout s (· = s.showPins)) ∧
    (∀ value : BitVec 14, (∀ i ∈ s.slotsNamed, ¬ (min s.split (min 8192 value.toNat) ≤ i ∧ i < max s.split (min 8192 value.toNat))) →
      Completes (.storeSplitWrite value) s fun t =>
        t.split = min 8192 value.toNat ∧ SameRegs s t [Reg.storeSplit] ∧ OnlyRegs s t) ∧
    (∀ (value : BitVec 14) (i : Nat), i ∈ s.slotsNamed → min s.split (min 8192 value.toNat) ≤ i → i < max s.split (min 8192 value.toNat) →
      Completes (.storeSplitWrite value) s fun t =>
        t.split = s.split ∧ t.bit Reg.storeStatus 0 = true ∧ SameRegs s t [Reg.storeStatus] ∧ OnlyRegs s t) ∧
    (Completes .storeBlkRst s fun t =>
      (∀ e ∈ t.store.lines, e.2.hist = [] ∧ e.2.last = 0) ∧
      (∀ i < 256, s.rxState i ≠ 0 → t.rxState i = 1 ∧ (t.rxE i).sources = []))) ∧
  (∀ (s : State),
    (∀ (dom : Fin 2) absent upset, s.domUsed dom = false → Completes (.sampleBoundary dom absent upset) s (· = s.showPins)) ∧
    (∀ (dom : Fin 2) absent upset, s.domUsed dom = true → s.pair.writes = [] → Completes (.sampleBoundary dom absent upset) s fun t =>
        ((s.domAt dom).run = true → (s.synE (dom + 1)).pull = (s.domAt dom).pull → (t.domAt dom).count = (s.domAt dom).count + 1) ∧
        (t.domAt dom).n = (s.domAt dom).n + 1 ∧ (t.domAt dom).run = true) ∧
    (∀ (oscEdges : Word) (differ : Bool), Completes (.secondBoundary oscEdges differ) s fun t =>
      t.intc.raised.getLast? = some 11 ∧ t.time.watchSteps = 0 ∧ t.time.watchOsc = false))

/-! ### Facet lanes and their scheduler (R405–R438) -/

/-- The host's commands to a lane (R406, R407, R416, R420, R423, R426, R428, R431, R433, R437): OOS is kept; a block reset waits for the boundary, or
restarts a GNSS_LOOP lane at once; a MOVE that R424 allows starts a migration of reason 4, one it does not sets MOVE_REFUSED, and a selection without
a task ignores it; a SWAP is pending for a task with banks; the mailboxes keep order, show their fill, and
lose an entry with a flag and fault 40 when full; an empty one repeats its last entry with OUT_UNDERRUN; reads clear what R416, R436 and R437 say; lane
memory is written at once on a lane without period tasks, and waits on one with; program memory takes whole bundles outside every task's code,
and a write inside one is a violation. -/
def Obligations.LaneCommandsOfTheHost : Prop :=
  ∀ (s : State) (n : Fin 256),
    (Completes (.facetOosWrite n false) s fun t =>
      t.laneOos n = false ∧ t.facet = s.facet ∧ SameRegs s t [Reg.facetCtrl n, Reg.facetStatus n, Reg.facetCapacity n]) ∧
    (Completes (.facetOosWrite n true) s fun t => t.laneOos n = true ∧ t.facet.tasks = s.facet.tasks ∧ t.facet.prog = s.facet.prog ∧
      t.facet.x = s.facet.x ∧ t.facet.y = s.facet.y) ∧
    (∀ x, (s.laneF n).role = 2 → s.task? (16 * n) = some x → Completes (.facetBlkRst n) s fun t =>
      (t.laneF n).loopRun = true ∧ (t.laneF n).stalled = false ∧ (t.laneF n).ctx.pc = x.entry + 2 ∧ t.facet.blkRst = s.facet.blkRst ∧
      t.regs = s.regs) ∧
    ((s.laneF n).role = 2 → s.task? (16 * n) = none → Completes (.facetBlkRst n) s (· = s.showPins)) ∧
    ((s.laneF n).role ≠ 2 → Completes (.facetBlkRst n) s fun t =>
      t.facet = { s.facet with blkRst := s.facet.blkRst ++ [(n.val, (s.laneF n).order)] } ∧ t.regs = s.regs) ∧
    (∀ (task : Fin 16) (target : Fin 256) (x : TaskSt), task.val < 15 → s.task? (16 * n + task) = some x → x.pinned = false →
      s.eligible' x x.lane target = true → s.budgetSum target + x.budget ≤ s.taskBudget x.dom → s.facet.mig = none → s.facet.causes = [] →
      Completes (.facetMove n task target) s fun t =>
        t.facet.mig = some { tasks := [16 * n.val + task.val], src := x.lane, dst := target, reason := 4 } ∧ t.facet.causes = []) ∧
    (∀ (task : Fin 16) (target : Fin 256) (x : TaskSt), task.val < 15 → s.task? (16 * n + task) = some x →
      (x.pinned = true ∨ s.eligible' x x.lane target = false) → s.facet.mig = none → s.facet.causes = [] →
      Completes (.facetMove n task target) s fun t =>
        t.facet.mig = none ∧ t.facet.causes = [] ∧ t.bit Reg.schedStatus 3 = true ∧ SameRegs s t [Reg.facetTaskSel n, Reg.schedStatus]) ∧
    (∀ (task : Fin 16) (target : Fin 256), (task.val = 15 ∨ s.task? (16 * n + task) = none) → Completes (.facetMove n task target) s fun t =>
      t.fld (Reg.facetTaskSel n) ⟨0, 4⟩ = task.val ∧ t.fld (Reg.facetTaskSel n) ⟨8, 8⟩ = target.val ∧ SameRegs s t [Reg.facetTaskSel n] ∧
      OnlyRegs s t) ∧
    (∀ (task : Fin 16) (x : TaskSt), task.val < 15 → s.task? (16 * n + task) = some x → x.banks = true → Completes (.facetSwap n task) s fun t =>
      t.task? (16 * n + task) = some { x with swapPend := true } ∧ SameRegs s t [Reg.facetTaskSel n]) ∧
    (∀ (task : Fin 16), (∀ x, s.task? (16 * n + task) = some x → x.banks = false) → Completes (.facetSwap n task) s fun t =>
      (∀ k, t.task? k = s.task? k) ∧ t.fld (Reg.facetTaskSel n) ⟨0, 4⟩ = task.val ∧ SameRegs s t [Reg.facetTaskSel n]) ∧
    (∀ v, (s.laneF n).mailIn.length < 64 → Completes (.facetMailInWrite n v) s fun t =>
      (t.laneF n).mailIn = (s.laneF n).mailIn ++ [v] ∧ t.fld (Reg.facetMailStatus n) ⟨10, 7⟩ = (s.laneF n).mailIn.length + 1 ∧
      SameRegs s t [Reg.facetMailStatus n]) ∧
    (∀ v, 64 ≤ (s.laneF n).mailIn.length → Completes (.facetMailInWrite n v) s fun t =>
      t.facet = s.facet ∧ t.bit (Reg.facetMailStatus n) 1 = true ∧ t.fault.strobes = s.fault.strobes ++ [(40, n.val * 256 + 7, false)]) ∧
    (∀ v vs, (s.laneF n).mailOut = v :: vs → Completes (.facetMailOutRead n) s fun t =>
      (t.laneF n).mailOut = vs ∧ t.rd (Reg.facetMailOut n) = v ∧ SameRegs s t [Reg.facetMailOut n, Reg.facetMailStatus n]) ∧
    ((s.laneF n).mailOut = [] → Completes (.facetMailOutRead n) s fun t =>
      t.rd (Reg.facetMailOut n) = (s.laneF n).mailLast ∧ t.bit (Reg.facetMailStatus n) 3 = true ∧
      SameRegs s t [Reg.facetMailOut n, Reg.facetMailStatus n] ∧ OnlyRegs s t) ∧
    (Completes (.facetMailStatusRead n) s fun t =>
      t.fld (Reg.facetMailStatus n) ⟨1, 3⟩ = 0 ∧ SameRegs s t [Reg.facetMailStatus n] ∧ OnlyRegs s t) ∧
    (Completes (.facetMarginMinRead n) s fun t =>
      t.rdn (Reg.facetMarginMin n) = 0x7FFFFFFF ∧ SameRegs s t [Reg.facetMarginMin n] ∧ OnlyRegs s t) ∧
    (∀ x, s.task? (16 * n + s.rdn (Reg.facetTaskSel n) % 16) = some x → Completes (.facetTaskDataRead n) s fun t =>
      t.task? (16 * n + s.rdn (Reg.facetTaskSel n) % 16) = some { x with usedMax := 0 } ∧ t.regs = s.regs) ∧
    (s.task? (16 * n + s.rdn (Reg.facetTaskSel n) % 16) = none → Completes (.facetTaskDataRead n) s fun t =>
      (∀ k, t.task? k = s.task? k) ∧ t.regs = s.regs) ∧
    (∀ (y : Bool) (k : Fin 8192) (v : Word) g, g = s.windowLane n (fun x => State.inRegion x y k) →
      let off : BitVec 17 := BitVec.ofNat 17 ((if y then 0x10000 else 0x8000) + 4 * k)
      ((s.laneF g).order = [] ∨ (s.laneF g).role = 2 → Completes (.facetMemWrite n off v) s fun t => t.memRd g y k = v ∧ t.regs = s.regs) ∧
      ((s.laneF g).order ≠ [] → (s.laneF g).role ≠ 2 → Completes (.facetMemWrite n off v) s fun t =>
        t.facet.pokes.get [] (n / 16) = s.facet.pokes.get [] (n / 16) ++ [⟨n, y, k, v⟩] ∧ t.facet.x = s.facet.x ∧ t.facet.y = s.facet.y ∧
        t.regs = s.regs)) ∧
    (∀ (p : Fin 2048) (v : Word) g, g = s.windowLane n (fun x => State.inCode x p) →
      ((s.laneTasks g).any (fun x => State.inCode x p) = false →
        (Completes (.facetMemWrite n (BitVec.ofNat 17 (8 * p)) v) s fun t =>
          t.facet = { s.facet with progLow := s.facet.progLow.set 0 n v } ∧ t.regs = s.regs) ∧
        Completes (.facetMemWrite n (BitVec.ofNat 17 (8 * p + 4)) v) s fun t =>
          t.progAt g p = v ++ s.facet.progLow.get 0 n ∧ t.regs = s.regs) ∧
      ((s.laneTasks g).any (fun x => State.inCode x p) = true → ∀ hi : Fin 2,
        Completes (.facetMemWrite n (BitVec.ofNat 17 (8 * p + 4 * hi)) v) s fun t =>
          Violated s t 8 .pcie true true (0x2000000 + 0x20000 * n + (8 * p + 4 * hi)) ∧ t.facet = s.facet)) ∧
    (∀ (off : BitVec 17) (v : Word), (0x4000 ≤ off.toNat ∧ off.toNat < 0x8000 ∨ 0x18000 ≤ off.toNat) →
      Completes (.facetMemWrite n off v) s (· = s.showPins))

/-- Tasks, deadlines, migration and rotation (R411, R413, R416–R419, R423–R425, R429, R432): the next task starts at its code when its
predecessor has ended; a deadline closes the window with the part of it that was left, or with fault 5 and a miss where a task has not ended; a copy
done waits for the boundary, or with no task takes over at once; rotation, each SELFTEST_S seconds, frees the next lane it may take; a self-test makes
the lane the spare or fails it with fault 7; a job goes to a lane that may be lent.  Each is without effect where there is nothing to start, close, copy,
rotate, test or lend. -/
def Obligations.TasksDeadlinesAndMigration : Prop :=
  ∀ (s : State) (n : Fin 256),
    (∀ k ks x, (s.laneF n).todo = k :: ks → (s.laneF n).window = true → (s.laneF n).cur = none → s.task? k = some x →
      Completes (.facetTaskStart n) s fun t =>
        (t.laneF n).cur = some k ∧ (t.laneF n).todo = ks ∧ (t.laneF n).ctx.pc = x.entry + 2 ∧ (t.laneF n).ctx.loops = [] ∧
        (t.laneF n).ctx.xfer = [] ∧ (t.laneF n).ctx.macs = [] ∧ t.regs = s.regs) ∧
    (((s.laneF n).todo = [] ∨ (s.laneF n).window = false ∨ (s.laneF n).cur ≠ none) → Completes (.facetTaskStart n) s (· = s.showPins)) ∧
    (∀ slack issue, (s.laneF n).window = false → Completes (.facetDeadline n slack issue) s (· = s.showPins)) ∧
    (∀ slack issue, (s.laneF n).window = true → (s.laneF n).cur = none → (s.laneF n).todo = [] →
      (s.bit Reg.schedCfg 5 = false ∨ s.facet.mig.isSome = true) → Completes (.facetDeadline n slack issue) s fun t =>
        (t.laneF n).window = false ∧ t.fld (Reg.facetStatus n) ⟨16, 8⟩ = min 255 (s.windowPct (s.laneDom n) slack) ∧
        SameRegs s t [Reg.facetMargin n, Reg.facetMarginMin n, Reg.facetStatus n, Reg.schedMarginEvt (n / 32)]) ∧
    (∀ slack issue, (s.laneF n).window = true → ((s.laneF n).cur ≠ none ∨ (s.laneF n).todo ≠ []) →
      (s.bit Reg.schedCfg 5 = false ∨ s.facet.mig.isSome = true) → Completes (.facetDeadline n slack issue) s fun t =>
        (t.laneF n).window = false ∧ (t.laneF n).cur = none ∧ (t.laneF n).todo = [] ∧ (5, n.val, false) ∈ t.fault.strobes ∧
        t.fld (Reg.facetMisses n) ⟨0, 16⟩ = min (s.fld (Reg.facetMisses n) ⟨0, 16⟩ + 1) 65535 ∧ t.fld (Reg.facetStatus n) ⟨16, 8⟩ = 0 ∧
        49 ∈ t.intc.raised) ∧
    (∀ m k x, s.facet.mig = some m → m.copied = false → m.tasks = [k] → s.task? k = some x → Completes .migrationCopyDone s fun t =>
      t.facet.mig = some { m with copied := true } ∧ (∀ i, i < x.codeLen + 2 → t.progAt m.dst (x.entry + i) = s.progAt m.src (x.entry + i)) ∧
      t.facet.lanes = s.facet.lanes ∧ t.regs = s.regs) ∧
    (∀ m, s.facet.mig = some m → m.copied = false → m.tasks ≠ [] → Completes .migrationCopyDone s fun t =>
      t.facet.mig = some { m with copied := true } ∧ t.facet.lanes = s.facet.lanes ∧ t.facet.tasks = s.facet.tasks ∧ t.regs = s.regs) ∧
    (∀ m, s.facet.mig = some m → m.copied = false → m.tasks = [] → s.facet.causes = [] → Completes .migrationCopyDone s fun t =>
      t.facet.mig = none ∧ t.intc.raised = s.intc.raised ++ [50] ∧
      t.rdn Reg.schedMigLast = (m.src * 2 ^ 24 + m.dst * 65536 + m.reason) % 2 ^ 32 ∧
      t.facet.testing = (if m.reason = 3 then some m.src else s.facet.testing)) ∧
    ((s.facet.mig = none ∨ ∃ m, s.facet.mig = some m ∧ m.copied = true) → Completes .migrationCopyDone s (· = s.showPins)) ∧
    (∀ l, let secs := s.rdn Reg.schedCfg / 65536
      secs ≠ 0 → secs ≤ s.facet.rotWait → s.bit Reg.schedStatus 2 = false → s.facet.testing = none → s.facet.mig = none → s.facet.causes = [] →
      s.rotNext s.spareLane = some l → Completes .facetRotation s fun t =>
        t.facet.mig = some { tasks := (s.laneF l).order, src := l, dst := s.spareLane, reason := 3 } ∧ t.facet.rotLast = l ∧
        t.facet.rotWait = 0) ∧
    ((s.rdn Reg.schedCfg / 65536 = 0 ∨ s.facet.rotWait < s.rdn Reg.schedCfg / 65536 ∨ s.bit Reg.schedStatus 2 = true ∨ s.facet.testing ≠ none) →
      Completes .facetRotation s (· = s.showPins)) ∧
    (∀ pass, s.facet.testing = none → Completes (.facetSelftestDone pass) s (· = s.showPins)) ∧
    ((s.nextJob = none ∨ s.lendable n = false) → Completes (.gnssJobDispatch n) s (· = s.showPins)) ∧
    (s.facet.testing = some n.val → Completes (.facetSelftestDone true) s fun t =>
      t.facet.testing = none ∧ (t.laneF n).role = 1 ∧ t.spareLane = n ∧ (∀ p < 2048, t.progAt n p = 0) ∧
      (∀ a < 8192, t.memRd n false a = 0 ∧ t.memRd n true a = 0)) ∧
    (s.facet.testing = some n.val → Completes (.facetSelftestDone false) s fun t =>
      t.facet.testing = none ∧ (t.laneF n).failed = true ∧ t.bit Reg.schedStatus 2 = true ∧ (7, n.val, false) ∈ t.fault.strobes) ∧
    (∀ j, s.nextJob = some j → s.lendable n = true → Completes (.gnssJobDispatch n) s fun t =>
      (t.laneF n).lent = some j ∧ (t.laneF n).bg.pc = s.rdn Reg.gnssAcqEntry % 2048 ∧ (t.laneF n).results = [] ∧ t.jobState j = 2 ∧
      SameRegs s t [Reg.jobStatus j, Reg.facetStatus n, Reg.facetCapacity n, Reg.schedStatus])

/-! ### The Facet instruction set (R439–R464) -/

/-- MAC operations (R441, R442, R446, R456): a bundle's MAC slot puts its operation in flight with what it reads in stage A; the operation of
the bundle two before commits when a bundle issues, in every format and in the delay slots of a transfer as elsewhere
(beside LSAVE, LREST and PIN the pipeline may drain); what an operation commits is its row of R446,
for each of its operations.  A lane on which nothing runs, or that is stalled, issues nothing. -/
def Obligations.MacOperationsFollowR446 : Prop :=
  ∀ (s : State) (n : Fin 256) (w : Who) (bn : Nat),
    let c := s.ctxOf n w
    let other := bundleFormat bn = 1 → ctlSlot bn / 2 ^ 33 ∉ [0x0C, 0x0D, 0x0E]
    (∀ (d : Fin 4) (a b : Fin 8) (aux : BitVec 10),
      let flip (r : Fin 8) : Nat := if r.val % 2 = 0 then r.val + 1 else r.val - 1
      ∀ p ∈ [(Instr.mpy n d a b aux, 1), (.mac n d a b aux, 2), (.msu n d a b aux, 3), (.mpy2 n d a b aux, 4), (.mac2 n d a b aux, 5),
          (.msu2 n d a b aux, 6), (.cmpy n d a b aux, 8), (.cmac n d a b aux, 9), (.cmsu n d a b aux, 10)],
        s.Issues n w bn 0 → other → c.Keeps → macSlot bn = macWord p.2 d a b aux.toNat → Completes p.1 s fun t =>
          (t.ctxOf n w).macs.getLast? = some (some ⟨p.2, d, a.val % 4, aux.toNat, (c.xr a).toInt, (c.xr (flip a)).toInt, (c.xr b).toInt,
            (c.xr (flip b)).toInt, c.rm⟩)) ∧
    (∀ (d src : Fin 4) (aux : BitVec 10), ∀ p ∈ [(Instr.clr n d, 16, 0, 0), (.mova n d src, 17, src.val, 0), (.adda n d src, 18, src.val, 0),
        (.suba n d src, 19, src.val, 0), (.nega n d src, 20, src.val, 0), (.absa n d src, 21, src.val, 0), (.asha n d src aux, 22, src.val, aux.toNat),
        (.sata n d src, 24, src.val, 0), (.rnda n d src, 25, src.val, 0)],
        s.Issues n w bn 0 → other → c.Keeps → macSlot bn = accWord p.2.1 d p.2.2.1 p.2.2.2 → Completes p.1 s fun t =>
          ∃ q, (t.ctxOf n w).macs.getLast? = some (some q) ∧ q.op = p.2.1 ∧ q.d = d.val ∧ q.sel = p.2.2.1 ∧ q.aux = p.2.2.2 ∧ q.rm = c.rm) ∧
    (∀ (d : Fin 4) (a : Fin 8), s.Issues n w bn 0 → other → c.Keeps → macSlot bn = macWord 0x17 d a 0 0 →
      Completes (.lda n d a) s fun t =>
        ∃ q, (t.ctxOf n w).macs.getLast? = some (some q) ∧ q.op = 0x17 ∧ q.d = d.val ∧ q.xa = (c.xr a).toInt ∧
          q.xa1 = (c.xr (if a.val % 2 = 0 then a.val + 1 else a.val - 1)).toInt) ∧
    (s.Issues n w bn 0 → noOperation bn = true → c.Keeps → Completes (.facetNop n) s fun t =>
      (∀ p q, c.macs = [some p, q] → (t.ctxOf n w).acc = (c.macCommit p).acc) ∧ (t.ctxOf n w).cyc = c.cyc + 1 ∧ t.regs = s.regs) ∧
    (∀ (d e : Fin 4) (a b : Fin 8) (aux : BitVec 10),
      ∀ c ∈ [Instr.mpy n d a b aux, .mac n d a b aux, .msu n d a b aux, .mpy2 n d a b aux, .mac2 n d a b aux, .msu2 n d a b aux,
          .cmpy n d a b aux, .cmac n d a b aux, .cmsu n d a b aux, .clr n d, .mova n d e, .adda n d e, .suba n d e, .nega n d e,
          .absa n d e, .asha n d e aux, .sata n d e, .rnda n d e, .lda n d a, .facetNop n],
        (s.whoRuns n = none ∨ (s.laneF n).stalled = true) → Completes c s (· = s.showPins)) ∧
    (∀ (k : Ctx) (p : MacOp) (d : Fin 4), k.acc.length = 4 → p.d = d.val →
      let d1 := if d.val % 2 = 0 then d.val + 1 else d.val - 1
      let acc (op : Nat) : Int := ((k.macCommit { p with op := op }).ac d).toInt
      let acc1 (op : Nat) : Int := ((k.macCommit { p with op := op }).ac d1).toInt
      let wrap (v : Int) : Int := (BitVec.ofInt 56 v).toInt
      let mul (x y : Int) : Int := if p.aux.testBit 1 then x * y else 2 * (x * y)
      let own := (k.ac d).toInt
      let own1 := (k.ac d1).toInt
      let src := (k.ac p.sel).toInt
      let q := if p.aux.testBit 0 then -p.xb1 else p.xb1
      let re := mul p.xa p.xb - mul p.xa1 q
      let im := mul p.xa q + mul p.xa1 p.xb
      acc 1 = wrap (mul p.xa p.xb) ∧ acc 2 = wrap (own + mul p.xa p.xb) ∧ acc 3 = wrap (own - mul p.xa p.xb) ∧
      (acc 4 = wrap (mul p.xa p.xb) ∧ acc1 4 = wrap (mul p.xa1 p.xb1)) ∧
      (acc 5 = wrap (own + mul p.xa p.xb) ∧ acc1 5 = wrap (own1 + mul p.xa1 p.xb1)) ∧
      (acc 6 = wrap (own - mul p.xa p.xb) ∧ acc1 6 = wrap (own1 - mul p.xa1 p.xb1)) ∧
      (acc 8 = wrap re ∧ acc1 8 = wrap im) ∧ (acc 9 = wrap (own + re) ∧ acc1 9 = wrap (own1 + im)) ∧
      (acc 0x0A = wrap (own - re) ∧ acc1 0x0A = wrap (own1 - im)) ∧
      acc 0x10 = 0 ∧ acc 0x11 = src ∧ acc 0x12 = wrap (own + src) ∧ acc 0x13 = wrap (own - src) ∧ acc 0x14 = wrap (-src) ∧
      acc 0x15 = wrap (max src (-src)) ∧
      (∀ m : Fin 32, p.aux % 64 = m.val → acc 0x16 = wrap (src * 2 ^ m.val)) ∧
      (∀ m : Fin 32, p.aux % 64 = 63 - m.val → acc 0x16 = src / 2 ^ (m.val + 1)) ∧
      acc 0x17 = wrap (p.xa * 2 ^ 24 + p.xa1 % 2 ^ 24) ∧
      acc 0x18 = max (-2 ^ 47) (min (2 ^ 47 - 1) src) ∧
      acc 0x19 = wrap (roundAt24 p.rm src * 2 ^ 24))

/-- Moves (R443, R447, R448, R456, R458): a load puts the word at A_r in flight and a later bundle finds it in X; a store writes memory and nothing
else there; MOV and MVA write X at once; the address register steps.  A word read with an uncorrectable error traps with cause 13 and raises
fault 1.  A lane on which nothing runs, or that is stalled, issues nothing. -/
def Obligations.MovesFollowR447 : Prop :=
  ∀ (s : State) (n : Fin 256) (w : Who) (bn : Nat) (y fm : Bool) (ar upd : Fin 4) (r : Fin 8),
    let c := s.ctxOf n w
    let a := c.ar ar
    let step (unit : Nat) : List (BitVec 13) :=
      if upd.val = 0 then c.a else c.a.set ar (BitVec.ofNat 13 (stepAddr a (c.lr ar) (updStep upd unit (c.mr ar))))
    let alone := bundleFormat bn = 0 ∧ moveSlot (!y) bn = 0 ∧ c.Keeps
    let stored (t : State) (v : Word) : Prop :=
      t.memRd n y a = v ∧ (∀ y' k, k < 8192 → (y', k) ≠ (y, a) → t.memRd n y' k = s.memRd n y' k) ∧ t.regs = s.regs
    (∀ err : Fin 3, err.val ≠ 2 → s.Issues n w bn err → alone → moveSlot y bn = moveWord 1 ar upd r fm 0 → Completes (.ld n y ar upd r fm err) s fun t =>
      (t.ctxOf n w).loads = [(r.val, loadWord fm (s.memRd n y a))] ∧ (t.ctxOf n w).a = step 1 ∧ (t.ctxOf n w).x = c.loadLand.x ∧
      t.facet.x = s.facet.x ∧ t.facet.y = s.facet.y) ∧
    (∀ err : Fin 3, err.val ≠ 2 → s.Issues n w bn err → alone → moveSlot y bn = moveWord 2 ar upd r fm 0 → Completes (.ldp n y ar upd r fm err) s fun t =>
      (t.ctxOf n w).loads = [(r.val, loadWord fm (s.memRd n y a)), (r.val + 1, loadWord fm (s.memRd n y (stepAddr a (c.lr ar) 1)))] ∧
      (t.ctxOf n w).a = step 2 ∧ (t.ctxOf n w).x = c.loadLand.x) ∧
    (s.Issues n w bn 0 → alone → moveSlot y bn = moveWord 3 ar upd r fm 0 → Completes (.st n y ar upd r fm) s fun t =>
      stored t (storeWord fm (c.xr r)) ∧ (t.ctxOf n w).a = step 1) ∧
    (s.Issues n w bn 0 → alone → moveSlot y bn = moveWord 4 ar upd r fm 0 → Completes (.sta n y ar upd r fm) s fun t =>
      stored t (storeWord fm (accTo24 fm c.rm c.sm (c.ac (r.val % 4))).1) ∧ (t.ctxOf n w).a = step 1 ∧
      (t.ctxOf n w).sv = (c.sv || (accTo24 fm c.rm c.sm (c.ac (r.val % 4))).2)) ∧
    (∀ src : Fin 8, s.Issues n w bn 0 → alone → moveSlot y bn = moveWord 5 0 0 r false src → Completes (.mov n y r src) s fun t =>
      (t.ctxOf n w).x = c.loadLand.x.set r (c.xr src) ∧ (t.ctxOf n w).a = c.a ∧ t.regs = s.regs) ∧
    (∀ src : Fin 8, s.Issues n w bn 0 → alone → moveSlot y bn = moveWord 6 0 0 r fm src → Completes (.mva n y r src fm) s fun t =>
      (t.ctxOf n w).x = c.loadLand.x.set r (accTo24 fm c.rm c.sm (c.ac (src.val % 4))).1 ∧ (t.ctxOf n w).a = c.a ∧
      (t.ctxOf n w).sv = (c.sv || (accTo24 fm c.rm c.sm (c.ac (src.val % 4))).2) ∧ t.regs = s.regs) ∧
    (∀ p ∈ [(Instr.ld n y ar upd r fm 2, moveWord 1 ar upd r fm 0), (.ldp n y ar upd r fm 2, moveWord 2 ar upd r fm 0)], ∀ k q,
      w = .task k q → s.whoRuns n = some w → (s.laneF n).stalled = false → s.badFetch w c.pc = false → (s.progAt n c.pc).toNat = bn →
      moveSlot y bn = p.2 → State.lowest (s.bundleCauses n w c bn 2) = 13 → Completes p.1 s fun t =>
        (t.laneF n).tcause = 13 ∧ (t.laneF n).taddr = c.pc % 2048 ∧ (t.laneF n).cur = none ∧ (1, 0x1000 + n.val, false) ∈ t.fault.strobes) ∧
    (∀ (err : Fin 3) (src : Fin 8), ∀ c ∈ [Instr.ld n y ar upd r fm err, .ldp n y ar upd r fm err, .st n y ar upd r fm, .sta n y ar upd r fm,
        .mov n y r src, .mva n y r src fm],
      (s.whoRuns n = none ∨ (s.laneF n).stalled = true) → Completes c s (· = s.showPins))

/-- Integer operations (R439, R450): the destination register takes the value of the operation's row of R450, at the register's width,
whether it is an X, A, M or L register, RA, or a register of the lane; a read-only one ignores it.  A lane on which nothing runs, or that is stalled,
issues nothing. -/
def Obligations.IntegerOperationsFollowR450 : Prop :=
  ∀ (s : State) (n : Fin 256) (w : Who) (bn : Nat) (dst src : Fin 32) (imm : BitVec 24),
    let c := s.ctxOf n w
    let d := s.regRead n c dst
    let x := s.regRead n c src
    (∀ c ∈ [Instr.ldi n dst imm, .mvr n dst src, .addi n dst src imm, .add n dst src, .sub n dst src, .andi n dst src imm, .ori n dst src imm,
        .xori n dst src imm, .shli n dst src imm, .shri n dst src imm, .asri n dst src imm, .minOp n dst src, .maxOp n dst src],
      (s.whoRuns n = none ∨ (s.laneF n).stalled = true) → Completes c s (· = s.showPins)) ∧
    ∀ p ∈ [(Instr.ldi n dst imm, intWord 1 dst 0 imm.toNat, imm), (.mvr n dst src, intWord 2 dst src 0, x),
        (.addi n dst src imm, intWord 3 dst src imm.toNat, x + imm), (.add n dst src, intWord 4 dst src 0, d + x),
        (.sub n dst src, intWord 5 dst src 0, d - x), (.andi n dst src imm, intWord 6 dst src imm.toNat, x &&& imm),
        (.ori n dst src imm, intWord 7 dst src imm.toNat, x ||| imm), (.xori n dst src imm, intWord 8 dst src imm.toNat, x ^^^ imm),
        (.shli n dst src imm, intWord 9 dst src imm.toNat, x <<< (imm.toNat % 32)),
        (.shri n dst src imm, intWord 10 dst src imm.toNat, x >>> (imm.toNat % 32)),
        (.asri n dst src imm, intWord 11 dst src imm.toNat, x.sshiftRight (imm.toNat % 32)),
        (.minOp n dst src, intWord 12 dst src 0, if x.toInt < d.toInt then x else d),
        (.maxOp n dst src, intWord 13 dst src 0, if d.toInt < x.toInt then x else d)],
      s.Issues n w bn 0 → bundleFormat bn = 2 → intSlot bn = p.2.1 → c.Keeps → Completes p.1 s fun t =>
        let e := t.ctxOf n w
        t.regs = s.regs ∧ e.cyc = c.cyc + 1 ∧
        (dst.val < 8 → e.x = c.loadLand.x.set dst p.2.2 ∧ e.a = c.a ∧ e.m = c.m ∧ e.l = c.l) ∧
        (8 ≤ dst.val → dst.val < 12 → e.a = c.a.set (dst - 8) (p.2.2.setWidth 13) ∧ e.x = c.loadLand.x) ∧
        (12 ≤ dst.val → dst.val < 16 → e.m = c.m.set (dst - 12) (p.2.2.setWidth 13) ∧ e.x = c.loadLand.x) ∧
        (16 ≤ dst.val → dst.val < 20 → e.l = c.l.set (dst - 16) (p.2.2.setWidth 13) ∧ e.x = c.loadLand.x) ∧
        (dst.val = 21 → e.ra = p.2.2.setWidth 11 ∧ e.x = c.loadLand.x) ∧
        (dst.val = 22 → (t.laneF n).ivec = p.2.2.setWidth 11) ∧ (dst.val = 23 → (t.laneF n).ien = p.2.2.setWidth 5) ∧
        (dst.val = 25 → e.isavePc = p.2.2.setWidth 11) ∧ (dst.val = 26 → e.isaveSr = p.2.2) ∧
        (dst.val ∈ [24, 27, 28, 31] → e.x = c.loadLand.x ∧ e.a = c.a ∧ e.m = c.m ∧ e.l = c.l ∧ e.ra = c.ra ∧ e.isavePc = c.isavePc ∧
          e.isaveSr = c.isaveSr)

/-- Control operations (R451–R453, R459, R462): a transfer taken waits out its two delay slots, then its target issues; CALL saves p + 3 in RA;
LOOP and LOOPR push a level, or pass it with count 0; LBRK pops one after its slots; EI, DI and SETI act at once; TEND ends the task after its slots.
A transfer already started goes on; a lane on which nothing runs, or that is stalled, issues nothing. -/
def Obligations.ControlFollowsR451 : Prop :=
  ∀ (s : State) (n : Fin 256) (w : Who) (bn : Nat),
    let c := s.ctxOf n w
    let held := c.xfer.map fun e => (e.1 - 1, e.2)
    let ready (k : Nat) := s.Issues n w bn 0 ∧ bundleFormat bn = 1 ∧ ctlSlot bn = k ∧ c.Quiet
    (∀ (cond : Fin 16) (acc : Bool) (creg : Fin 32) (target : BitVec 11),
      let v : Int := if acc then (c.ac (creg.val % 4)).toInt else (s.regRead n c creg).toInt
      let taken := condHolds cond v c.sv
      (ready (ctlWord 1 (brOps cond acc creg target.toNat)) → Completes (.br n cond acc creg target) s fun t =>
        (t.ctxOf n w).xfer = held ++ [(2, if taken then .jump target.toNat else .seq)] ∧ (t.ctxOf n w).ra = c.ra ∧ t.regs = s.regs) ∧
      (ready (ctlWord 2 (brOps cond acc creg target.toNat)) → Completes (.call n cond acc creg target) s fun t =>
        (t.ctxOf n w).xfer = held ++ [(2, if taken then .jump target.toNat else .seq)] ∧
        (t.ctxOf n w).ra = (if taken then BitVec.ofNat 11 (c.pc + 3) else c.ra) ∧ t.regs = s.regs) ∧
      (ready (ctlWord 3 (brOps cond acc creg 0)) → Completes (.ret n cond acc creg) s fun t =>
        (t.ctxOf n w).xfer = held ++ [(2, if taken then .jump c.ra.toNat else .seq)] ∧ t.regs = s.regs)) ∧
    (ready (ctlWord 4 0) → Completes (.rti n) s fun t =>
      (t.ctxOf n w).xfer = held ++ [(2, .rti c.isavePc.toNat c.isaveSr.toNat)] ∧ t.regs = s.regs) ∧
    (∀ (count : BitVec 16) (stop : BitVec 11), ready (ctlWord 5 (count.toNat * 2 ^ 17 + stop.toNat)) → Completes (.loop n count stop) s fun t =>
      (t.ctxOf n w).xfer = held ++ [(2, if count = 0 then .jump (stop.toNat + 1) else .seq)] ∧
      (count ≠ 0 → (t.ctxOf n w).loops = ⟨count.toNat, c.pc + 3, stop.toNat⟩ :: c.loops) ∧ t.regs = s.regs) ∧
    (∀ (creg : Fin 32) (stop : BitVec 11), ready (ctlWord 6 (creg * 2 ^ 23 + stop.toNat)) → Completes (.loopr n creg stop) s fun t =>
      let k := (s.regRead n c creg).toNat % 65536
      (t.ctxOf n w).xfer = held ++ [(2, if k = 0 then .jump (stop.toNat + 1) else .seq)] ∧
      (k ≠ 0 → (t.ctxOf n w).loops = ⟨k, c.pc + 3, stop.toNat⟩ :: c.loops) ∧ t.regs = s.regs) ∧
    (ready (ctlWord 7 0) → Completes (.lbrk n) s fun t =>
      (t.ctxOf n w).xfer = held ++ [(2, .pop)] ∧ t.regs = s.regs) ∧
    (ready (ctlWord 8 0) → Completes (.ei n) s fun t => (t.ctxOf n w).ie = true ∧ t.regs = s.regs) ∧
    (ready (ctlWord 9 0) → Completes (.di n) s fun t => (t.ctxOf n w).ie = false ∧ t.regs = s.regs) ∧
    (ready (ctlWord 10 0) → Completes (.seti n) s fun t => (t.laneF n).softPend = true ∧ t.regs = s.regs) ∧
    (ready (ctlWord 11 0) → Completes (.tend n) s fun t => (t.ctxOf n w).xfer = held ++ [(2, .tend)] ∧ t.regs = s.regs) ∧
    (∀ k, s.Issues n w bn 0 → noOperation bn = true → c.xfer = [(1, .jump k)] → Completes (.facetNop n) s fun t =>
      (t.ctxOf n w).pc = k ∧ (t.ctxOf n w).xfer = [] ∧ t.regs = s.regs) ∧
    (s.Issues n w bn 0 → noOperation bn = true → c.xfer = [(1, .pop)] → Completes (.facetNop n) s fun t =>
      (t.ctxOf n w).xfer = [] ∧ t.regs = s.regs ∧
      (t.ctxOf n w).loops = (if c.lsOff then c.loops else (Ctx.seqNext c.loops c.pc).1).drop 1 ∧
      (t.ctxOf n w).pc = (if c.lsOff then c.pc + 1 else (Ctx.seqNext c.loops c.pc).2)) ∧
    (∀ p sr, s.Issues n w bn 0 → noOperation bn = true → c.xfer = [(1, .rti p sr)] → Completes (.facetNop n) s fun t =>
      (t.ctxOf n w).pc = p ∧ (t.ctxOf n w).xfer = [] ∧ t.regs = s.regs) ∧
    (∀ (cond : Fin 16) (acc : Bool) (creg : Fin 32) (target stop : BitVec 11) (count : BitVec 16),
      ∀ c ∈ [Instr.br n cond acc creg target, .call n cond acc creg target, .ret n cond acc creg, .rti n, .loop n count stop, .loopr n creg stop,
          .lbrk n, .ei n, .di n, .seti n, .tend n],
        (s.whoRuns n = none ∨ (s.laneF n).stalled = true) → Completes c s (· = s.showPins))

/-- Ports, loop state, traps and interrupts of a lane (R454, R458, R460, R464): PIN moves a word from a port to memory, and a stalled one
completes when a word has come; POUT writes its word to the port; LSAVE and LREST move the loop state and A_r by 7 words; TRAP writes
TCAUSE and TADDR and stops what runs; an interrupt drains the pipeline, saves pc and SR, and goes to IVEC.  A lane on which nothing runs, or that is
stalled, issues nothing; a stall ends only a stalled PIN; an interrupt that is not pending and enabled is not accepted. -/
def Obligations.PortsTrapsAndInterruptsOfALane : Prop :=
  ∀ (s : State) (n : Fin 256) (w : Who) (bn : Nat) (ar upd : Fin 4) (y : Bool),
    let c := s.ctxOf n w
    let a := c.ar ar
    let step : List (BitVec 13) := if upd.val = 0 then c.a else c.a.set ar (BitVec.ofNat 13 (stepAddr a (c.lr ar) (updStep upd 1 (c.mr ar))))
    (∀ (port : BitVec 8) v u, s.Issues n w bn 0 → bundleFormat bn = 1 → ctlSlot bn = ctlWord 14 (portOps ar upd y port.toNat) → c.Quiet →
      s.portRead n w port.toNat = some (v, u) → Completes (.pin n ar upd y port) s fun t =>
        t.memRd n y a = v ∧ (t.ctxOf n w).a = step ∧ (∀ y' k, k < 8192 → (y', k) ≠ (y, a) → t.memRd n y' k = s.memRd n y' k)) ∧
    (∀ (port : BitVec 8) v u, (s.laneF n).stalled = true → (s.setLaneF n fun x => { x with stalled := false }).Issues n w bn 0 →
      bundleFormat bn = 1 → ctlSlot bn = ctlWord 14 (portOps ar upd y port.toNat) → c.Quiet →
      (s.setLaneF n fun x => { x with stalled := false }).portRead n w port.toNat = some (v, u) → Completes (.facetPortStallEnd n) s fun t =>
        (t.laneF n).stalled = false ∧ t.memRd n y a = v ∧ (t.ctxOf n w).a = step) ∧
    (∀ err : Fin 3, err.val ≠ 2 → s.Issues n w bn err → bundleFormat bn = 1 → ctlSlot bn = ctlWord 15 (portOps ar upd y 1) → c.Quiet →
      (s.laneF n).mailOut.length < 64 → Completes (.pout n ar upd y 1 err) s fun t =>
        (t.laneF n).mailOut = (s.laneF n).mailOut ++ [s.memRd n y a] ∧ (t.ctxOf n w).a = step ∧ t.facet.x = s.facet.x ∧ t.facet.y = s.facet.y) ∧
    (s.Issues n w bn 0 → bundleFormat bn = 1 → ctlSlot bn = ctlWord 12 (ar * 2 ^ 25) → c.Quiet → Completes (.lsave n ar) s fun t =>
      (∀ i < 7, t.memRd n true ((a + i) % 8192) = (loopRecord c).getD i 0) ∧ (t.ctxOf n w).loops = [] ∧ (t.ctxOf n w).lsOff = false ∧
      (t.ctxOf n w).a = c.a.set ar (BitVec.ofNat 13 ((a + 7) % 8192)) ∧ t.facet.x = s.facet.x ∧ t.regs = s.regs) ∧
    (∀ (err : Fin 3) ls, err.val ≠ 2 → s.Issues n w bn err → bundleFormat bn = 1 → ctlSlot bn = ctlWord 13 (ar * 2 ^ 25) → c.Quiet →
      readRecord ((List.range 7).map fun i => s.memRd n true ((a + i) % 8192)) = some ls → Completes (.lrest n ar err) s fun t =>
        (t.ctxOf n w).loops = ls ∧ (t.ctxOf n w).lsOff = true ∧ (t.ctxOf n w).a = c.a.set ar (BitVec.ofNat 13 ((a + 7) % 8192)) ∧
        t.facet.x = s.facet.x ∧ t.facet.y = s.facet.y ∧ t.regs = s.regs) ∧
    (∀ (port : BitVec 8), s.Issues n w bn 0 → bundleFormat bn = 1 → ctlSlot bn = ctlWord 14 (portOps ar upd y port.toNat) →
      s.portRead n w port.toNat = none → Completes (.pin n ar upd y port) s fun t =>
        (t.laneF n).stalled = true ∧ t.ctxOf n w = c.drain ∧ t.facet.x = s.facet.x ∧ t.facet.y = s.facet.y ∧ t.regs = s.regs) ∧
    (∀ (port : BitVec 8) (err : Fin 3), err.val ≠ 2 → port.toNat ≠ 0x6B → s.Issues n w bn err → bundleFormat bn = 1 →
      ctlSlot bn = ctlWord 15 (portOps ar upd y port.toNat) → c.Quiet → Completes (.pout n ar upd y port err) s fun t =>
        (t.ctxOf n w).a = step ∧ t.facet.x = s.facet.x ∧ t.facet.y = s.facet.y ∧
        (0x20 ≤ port.toNat → port.toNat < 0x40 → (s.chanOf n (port.toNat - 0x20)).length < 16 →
          t.chanOf n (port.toNat - 0x20) = s.chanOf n (port.toNat - 0x20) ++ [s.memRd n y a]) ∧
        (port.toNat = 0x50 → t.rd (Reg.refOfsLo 16) = s.memRd n y a) ∧ (port.toNat = 0x54 → t.rd (Reg.refOfsUnc 16) = s.memRd n y a) ∧
        (port.toNat = 0x69 → (t.laneF n).capAddr = (s.memRd n y a).toNat % 65536)) ∧
    (s.Issues n w bn 0 → bundleFormat bn = 1 → ctlSlot bn = ctlWord 15 (portOps ar upd y 0x6B) → c.Quiet →
      (s.laneF n).results.length < 2 → Completes (.pout n ar upd y 0x6B 0) s fun t =>
        (t.laneF n).results = (s.laneF n).results ++ [s.memRd n y a] ∧ (t.ctxOf n w).a = step ∧ t.regs = s.regs) ∧
    (∀ (code : BitVec 8), s.whoRuns n = some w → (s.laneF n).stalled = false → s.badFetch w c.pc = false →
      (s.progAt n c.pc).toNat = bn → hasCtl (ctlWord 16 code.toNat) bn = true → State.lowest (s.bundleCauses n w c bn 0) = 12 →
      Completes (.trap n code) s fun t =>
        (t.laneF n).tcause = 12 ∧ (t.laneF n).taddr = c.pc % 2048 ∧ (t.laneF n).stalled = false ∧
        (∀ k p, w = .task k p → (t.laneF n).cur = none ∧ (6, n.val, false) ∈ t.fault.strobes ∧
          t.fld (Reg.facetMisses n) ⟨16, 16⟩ = min (s.fld (Reg.facetMisses n) ⟨16, 16⟩ + 1) 65535) ∧
        (w = .loop → (t.laneF n).loopRun = false ∧ (6, n.val, false) ∈ t.fault.strobes) ∧
        (∀ j, w = .lent j → (t.laneF n).lent = none)) ∧
    (∀ (port code : BitVec 8) (err : Fin 3), ∀ c ∈ [Instr.pin n ar upd y port, .pout n ar upd y port err, .lsave n ar, .lrest n ar err, .trap n code],
      (s.whoRuns n = none ∨ (s.laneF n).stalled = true) → Completes c s (· = s.showPins)) ∧
    ((s.laneF n).stalled = false → Completes (.facetPortStallEnd n) s (· = s.showPins)) ∧
    ((s.whoRuns n = none ∨ (s.whoRuns n = some w ∧ (w.open_ = false ∨ c.ie = false ∨ s.ipend n &&& (s.laneF n).ien.toNat = 0 ∨ c.xfer ≠ [] ∨
        (s.laneF n).stalled = true))) → Completes (.facetInterruptEntry n) s (· = s.showPins)) ∧
    (s.whoRuns n = some w → w.open_ = true → c.ie = true → s.ipend n &&& (s.laneF n).ien.toNat ≠ 0 → c.xfer = [] → (s.laneF n).stalled = false →
      Completes (.facetInterruptEntry n) s fun t =>
        (t.ctxOf n w).pc = (s.laneF n).ivec.toNat ∧ (t.ctxOf n w).isavePc = BitVec.ofNat 11 c.pc ∧ (t.ctxOf n w).ie = false ∧
        (t.ctxOf n w).ih = true ∧ (t.ctxOf n w).lsOff = true ∧ (t.ctxOf n w).isaveSr = BitVec.ofNat 24 c.drain.sr ∧
        (t.ctxOf n w).macs = [] ∧ (t.ctxOf n w).loads = [] ∧ t.regs = s.regs)

/-! ### The redundant pair and the chain (R466–R517) -/

/-- The Ivern link trains and is lost (R479, R480, R483–R487, R496, R498): block lock and deskew in order; HELLO is sent every 1 ms until one is accepted,
and a partner with this unit's own UNITSEL is refused with SAME_UNIT; TIME messages go out, once the link is up 16 a second, and their exchanges are
counted: the 16th brings the link up, or refuses it beyond 900 ns; a lost link clears LINK_UP with interrupt 53,
counts and strobes fault 26, while a LEAVE leaves the unit ALONE; a bad message is counted.  What training does not wait for has no effect. -/
def Obligations.IvernLinkTrainsAndIsLost : Prop :=
  ∀ (s : State),
    let greets := s.mayTrain = true ∧ s.pair.hello = true
    let hears := s.mayTrain = true ∧ s.pair.deskew = true
    let helloDue := ∀ x, s.pair.helloAt = some x → (secondTicks : Int) ≤ (s.monitorNow - x) * 1000
    let slot := (s.tb 0).t * 16 / secondFine
    let stamp (back : BitVec 32) : Nat := (s.captured 0 back.toNat % 2 ^ 64).toNat
    (s.mayTrain = false → ∀ lane : Fin 2, Completes (.ivernBlockLock lane) s (· = s.showPins)) ∧
    ((s.mayTrain = false ∨ s.pair.lock0 = false ∨ s.pair.lock1 = false) → Completes .ivernDeskew s (· = s.showPins)) ∧
    ((¬ hears ∨ s.pair.hello = true ∨ ¬ helloDue) → Completes .ivernHelloTx s (· = s.showPins)) ∧
    (∀ (w0 : BitVec 64) (digest : BitVec 256), ¬ hears → Completes (.ivernHelloRx w0 digest) s (· = s.showPins)) ∧
    (∀ back, (¬ greets ∨ (s.ivernUp = true ∧ s.pair.timeAt = some slot)) → Completes (.ivernTimeTx back) s (· = s.showPins)) ∧
    (∀ (seq : BitVec 16) (w0 w1 w2 w3 : BitVec 64) back, ¬ greets → Completes (.ivernTimeRx seq w0 w1 w2 w3 back) s (· = s.showPins)) ∧
    (∀ lane : Fin 2, s.mayTrain = true → Completes (.ivernBlockLock lane) s fun t =>
      t.pair = { s.pair with lock0 := s.pair.lock0 || lane == 0, lock1 := s.pair.lock1 || lane == 1 } ∧ t.regs = s.regs) ∧
    (s.mayTrain = true → s.pair.lock0 = true → s.pair.lock1 = true → Completes .ivernDeskew s fun t =>
      t.pair = { s.pair with deskew := true } ∧ t.regs = s.regs) ∧
    (hears → s.pair.hello = false → helloDue → Completes .ivernHelloTx s fun t =>
      t.sent.length = s.sent.length + 1 ∧ t.pair.helloAt = some s.monitorNow ∧ t.pair.seq.get 0 8 = (s.pair.seq.get 0 8 + 1) % 65536 ∧ t.regs = s.regs) ∧
    (∀ (w0 : BitVec 64) (digest : BitVec 256), hears → Completes (.ivernHelloRx w0 digest) s fun t =>
      let same := decide (w0.toNat / 2 ^ 32 % 256 = s.unitSel)
      let kin := decide (w0.toNat / 2 ^ 48 = s.rdn Reg.globalId / 65536 ∧ w0.toNat / 2 ^ 40 % 256 = s.rdn Reg.globalId % 256)
      t.pair.hello = (!same && kin) ∧ t.on Reg.pairStatus Fld.pairStatus_SAME_UNIT = same ∧
      t.on Reg.pairStatus Fld.pairStatus_STEP_BAD = (!same && !kin) ∧ (∀ i < 8, t.rd (Reg.pairPartnerDigest i) = BitVec.ofNat 32 (digest.toNat / 2 ^ (32 * i))) ∧
      SameRegs s t (Reg.pairStatus :: (List.range 8).map Reg.pairPartnerDigest)) ∧
    (∀ back, greets → (s.ivernUp = true → s.pair.timeAt ≠ some slot) → Completes (.ivernTimeTx back) s fun t =>
      t.pair.timeSent = ((s.pair.seq.get 0 5, stamp back) :: s.pair.timeSent).take 32 ∧ t.pair.timeAt = some slot ∧
      t.sent.length = s.sent.length + 1 ∧ t.regs = s.regs) ∧
    (∀ (seq : BitVec 16) (w0 w1 w2 w3 : BitVec 64) back, greets → s.pair.timeSent.find? (fun x => x.1 == w2.toNat % 65536) = none →
      Completes (.ivernTimeRx seq w0 w1 w2 w3 back) s fun t =>
        t.pair = { s.pair with timeGot := (seq.toNat, stamp back) } ∧ t.regs = s.regs) ∧
    (∀ (seq : BitVec 16) (w0 w1 w2 w3 : BitVec 64) back e, greets → s.pair.timeSent.find? (fun x => x.1 == w2.toNat % 65536) = some e →
      let sum := State.tickDiff (stamp back) w0.toNat + State.tickDiff w1.toNat e.2
      Completes (.ivernTimeRx seq w0 w1 w2 w3 back) s fun t =>
        t.pair.timeGot = (seq.toNat, stamp back) ∧ t.pair.delays = (sum :: s.pair.delays).take 16 ∧
        (s.ivernUp = false → s.pair.times < 15 → t.pair.times = s.pair.times + 1 ∧ t.ivernUp = false ∧
          SameRegs s t [Reg.pairLatency, Reg.pairOffset]) ∧
        (s.ivernUp = false → 15 ≤ s.pair.times → sum / 2 ≤ 900 * 65536 → t.ivernUp = true ∧ 53 ∈ t.intc.raised) ∧
        (s.ivernUp = false → 15 ≤ s.pair.times → 900 * 65536 < sum / 2 → t.ivernUp = false ∧ t.pair.hello = false ∧
          t.bit Reg.pairStatus 13 = true)) ∧
    (s.ivernUp = true → Completes .ivernLinkLoss s fun t =>
      t.ivernUp = false ∧ 53 ∈ t.intc.raised ∧ (26, 0, false) ∈ t.fault.strobes ∧ t.pair.hello = false ∧
      t.rdn Reg.pairLinkLosses = min (s.rdn Reg.pairLinkLosses + 1) 0xFFFFFFFF) ∧
    (s.ivernUp = true → Completes .ivernLeaveRx s fun t =>
      t.ivernUp = false ∧ (s.pairState ≠ 3 → t.pairState = 2) ∧ 53 ∈ t.intc.raised ∧ t.rd Reg.pairLinkLosses = s.rd Reg.pairLinkLosses) ∧
    (s.ivernUp = false → ∀ c ∈ [Instr.ivernLinkLoss, .ivernLeaveRx], Completes c s fun t =>
      t.pair.hello = false ∧ t.pair.deskew = false ∧ t.pair.times = 0 ∧ t.regs = s.regs) ∧
    (∀ msg, messageGood msg = false → Completes (.ivernBadMessage msg) s fun t =>
      t.rdn Reg.pairCrcErr = min (s.rdn Reg.pairCrcErr + 1) 0xFFFFFFFF ∧ SameRegs s t [Reg.pairCrcErr] ∧ OnlyRegs s t) ∧
    (∀ msg, messageGood msg = true → Completes (.ivernBadMessage msg) s (· = s.showPins))

/-- Lockstep messages (R481, R482, R484, R491, R493, R495): ingress runs gather by boundary, and a malformed one counts; digests wait for their boundary,
one that meets its own of the boundary ends a run of misses or is a mismatch with fault 27, and one missing 32 SP later
counts; mirrored writes queue; a record that does not open counts; bulk state reaches the registers and slots of a joining unit; the source sends its
LOCK two SP ahead, and the joining unit takes the boundaries named.  Outside lockstep, a join or its conditions they have no effect. -/
def Obligations.LockstepMessagesAndJoins : Prop :=
  ∀ (s : State),
    (∀ (dom : Fin 2) last (b : BitVec 32) (base n : BitVec 16) words, (2046 < n.toNat ∨ (n = 0 ∧ last = false)) →
      Completes (.ivernMirrorRx dom last b base n words) s fun t =>
        t.rdn Reg.pairCrcErr = min (s.rdn Reg.pairCrcErr + 1) 0xFFFFFFFF ∧ SameRegs s t [Reg.pairCrcErr] ∧ OnlyRegs s t) ∧
    (∀ (dom : Fin 2) last (b : BitVec 32) (base n : BitVec 16) words, n.toNat ≤ 2046 → (0 < n.toNat ∨ last = true) → Completes (.ivernMirrorRx dom last b base n words) s fun t =>
      (∃ x rest, t.pair.mirror = x :: rest ∧ x.dom = dom.val ∧ x.b = b.toNat ∧ (last = true → x.last = true) ∧
        ∀ i < n.toNat, (base.toNat + i, words.getD i 0) ∈ x.words) ∧ t.regs = s.regs) ∧
    (∀ (dom : Fin 2) (b : BitVec 32) (digest : BitVec 64) x, s.inLockstep = true →
      s.pair.digests.find? (fun x => x.1 == dom.val && x.2.1 == b.toNat) = some x → s.spSince dom b.toNat ≤ 32 →
      Completes (.ivernDigestRx dom b digest) s fun t =>
        (x.2.2 = digest.toNat → t.pair.missRun = 0 ∧ t.pair.digests = s.pair.digests.filter (fun y => y.1 != dom.val || y.2.1 != b.toNat)) ∧
        (x.2.2 ≠ digest.toNat → t.pair.mismatch = true ∧ (27, dom.val, false) ∈ t.fault.strobes ∧ 54 ∈ t.intc.raised ∧
          t.rdn Reg.pairMismatches = min (s.rdn Reg.pairMismatches + 1) 0xFFFFFFFF)) ∧
    (∀ (dom : Fin 2) (b : BitVec 32) (digest : BitVec 64), (s.inLockstep = false ∨
        (s.pair.digests.find? (fun x => x.1 == dom.val && x.2.1 == b.toNat) = none ∧ 0 ≤ s.spSince dom b.toNat)) →
      Completes (.ivernDigestRx dom b digest) s (· = s.showPins)) ∧
    (∀ (dom : Fin 2) (b : BitVec 32) (digest : BitVec 64), s.inLockstep = true →
      s.pair.digests.find? (fun x => x.1 == dom.val && x.2.1 == b.toNat) = none → s.spSince dom b.toNat < 0 →
      Completes (.ivernDigestRx dom b digest) s fun t =>
        t.pair.digestsIn = (dom.val, b.toNat, digest.toNat) :: s.pair.digestsIn ∧ t.regs = s.regs) ∧
    (∀ (dom : Fin 2) (b : BitVec 32), (s.inLockstep = false ∨ s.spSince dom b.toNat < 32 ∨
        s.pair.digests.any (fun x => x.1 == dom.val && x.2.1 == b.toNat) = false) → Completes (.pairDigestTimeout dom b) s (· = s.showPins)) ∧
    (∀ (dom : Fin 2) (b : BitVec 32), s.inLockstep = true → 32 ≤ s.spSince dom b.toNat → s.pair.digests.any (fun x => x.1 == dom.val && x.2.1 == b.toNat) = true →
      s.pair.missRun < 7 → Completes (.pairDigestTimeout dom b) s fun t =>
        t.pair.missRun = s.pair.missRun + 1 ∧ t.rdn Reg.pairDigestMiss = min (s.rdn Reg.pairDigestMiss + 1) 0xFFFFFFFF ∧
        SameRegs s t [Reg.pairDigestMiss]) ∧
    (∀ (dom : Fin 2) (b : BitVec 32) (ws : List (Fin 2 × BitVec 30 × Word)), Completes (.ivernWriteRx dom b ws) s fun t =>
      t.pair.writes = s.pair.writes ++ ws.map (fun w => ⟨dom, b.toNat, w.1, w.2.1.toNat, w.2.2⟩) ∧ t.regs = s.regs) ∧
    (∀ (aux : Byte) start sealed_, s.keys.pair = none → Completes (.ivernKeyRx aux start sealed_) s fun t =>
      t.rdn Reg.keysPairFail = min (s.rdn Reg.keysPairFail + 1) 0xFFFFFFFF ∧ t.keys = s.keys ∧ SameRegs s t [Reg.keysPairFail]) ∧
    (∀ (aux : Byte) start sealed_ k r, s.keys.pair = some k → Config.sivOpen k [start] sealed_ = some r → aux.toNat < 4 →
      Completes (.ivernKeyRx aux start sealed_) s fun t => t.ring aux.toNat = readSlot r ∧ t.pair.keyed = true) ∧
    (∀ (aux : Byte) start sealed_, Completes (.ivernKeyRx aux start sealed_) s fun t => t.pair.keyed = true) ∧
    (∀ space off words, s.pairState ≠ 3 → Completes (.ivernStateRx space off words) s (· = s.showPins)) ∧
    (∀ space off words, s.pairState = 3 → Completes (.ivernStateRx space off words) s fun t =>
      t.pair.moved = s.pair.moved + 8 * words.length) ∧
    (∀ (off : BitVec 64) (w : BitVec 64), s.pairState = 3 → off.toNat < 2 ^ 24 → Completes (.ivernStateRx 0 off [w]) s fun t =>
      t.rd off.toNat = BitVec.ofNat 32 (w.toNat / 2 ^ 32) ∧ t.rd (off.toNat + 4) = BitVec.ofNat 32 w.toNat ∧
      SameRegs s t [Reg.pairXfer, off.toNat, off.toNat + 4]) ∧
    (∀ (i : Fin 4096) (w : BitVec 64), s.pairState = 3 → Completes (.ivernStateRx 1 (BitVec.ofNat 64 (8 * i)) [w]) s fun t =>
      t.slot (2 * i) = BitVec.ofNat 32 (w.toNat / 2 ^ 32) ∧ t.slot (2 * i + 1) = BitVec.ofNat 32 w.toNat ∧ t.pair.moved = s.pair.moved + 8 ∧
      SameRegs s t [Reg.pairXfer]) ∧
    (∀ (sec : BitVec 48) (digest : BitVec 256), (s.pairMode = false ∨ s.holdsBit = false ∨ digest ≠ s.loader.digest ∨
        (s.pairState ≠ 2 ∧ s.pairState ≠ 4)) → Completes (.ivernJoinReqRx sec digest) s (· = s.showPins)) ∧
    (∀ sec : BitVec 48, s.pairMode = true → s.holdsBit = true → (s.pairState = 2 ∨ s.pairState = 4) → Completes (.ivernJoinReqRx sec s.loader.digest) s fun t =>
      t.pair.source = true ∧ t.pair.moved = 0 ∧ [0, 5, 2, 1, 3, 4].map Output.bulkState <:+ t.sent ∧ t.regs = s.regs) ∧
    ((s.pair.source = false ∨ s.pair.lockAt ≠ []) → Completes .pairJoinDrained s (· = s.showPins)) ∧
    (∀ a b : BitVec 32, s.pairState ≠ 3 → Completes (.ivernLockRx a b) s (· = s.showPins)) ∧
    (s.pair.source = true → s.pair.lockAt = [] → Completes .pairJoinDrained s fun t =>
      t.pair.lockAt.get none 0 = some (((s.domAt 0).count + 2) % 2 ^ 32) ∧ t.pair.lockAt.get none 1 = some (((s.domAt 1).count + 2) % 2 ^ 32) ∧
      t.sent.length = s.sent.length + 1 ∧ t.regs = s.regs) ∧
    (∀ a b : BitVec 32, s.pairState = 3 → Completes (.ivernLockRx a b) s fun t =>
      t.pair.lockAt.get none 0 = some a.toNat ∧ t.pair.lockAt.get none 1 = some b.toNat ∧ t.regs = s.regs)

/-- Claims, handovers and departures (R466, R468, R471, R473, R475, R486, R493, R495, R498): a claim frame, one of each number, shows HEALTH and the
winner's number; a HEALTH
message shows the partner's claim and HEALTH; a handover is named two frames ahead with the next EPOCH, and its receiver takes ROLE 3 in
it; RESYNC from the partner leaves the holder ALONE; a join without a key for 1 s goes back; LEAVE enters DOWN with claim 0; RESYNC by the host
clears UNSTABLE.  Outside their states they have no effect. -/
def Obligations.ClaimsHandoversAndDepartures : Prop :=
  ∀ (s : State),
    let fresh := s.loader.built = true ∧ s.pair.frameAt ≠ some s.arbFrame
    let heard := s.ivernUp = false ∨ s.pair.silent < 7
    let waited := (secondTicks : Int) ≤ s.monitorNow - s.pair.began
    let mayReceive := s.pairMode = true ∧ s.ivernUp = true ∧ s.holdsBit = false ∧ s.claim ≠ 0 ∧ (s.pairState = 5 ∨ s.pairState = 7)
    let mayGive := s.pairMode = true ∧ s.holdsBit = true ∧ s.ivernUp = true ∧ s.pair.handover = none ∧
      (s.pair.partnerState = 5 ∨ s.pair.partnerState = 7) ∧ 128 ≤ s.partnerHealth
    (∀ low : BitVec 20, ¬ fresh → Completes (.claimFrame low) s (· = s.showPins)) ∧
    (∀ low : BitVec 20, fresh → Completes (.claimFrame low) s fun t => t.pair.frameAt = some s.arbFrame) ∧
    (∀ w0 w1 : BitVec 64, s.pairMode = false → Completes (.ivernHealthRx w0 w1) s (· = s.showPins)) ∧
    (∀ (frame : BitVec 32) (epoch : Byte), ¬ mayReceive → Completes (.ivernHandoverRx frame epoch) s (· = s.showPins)) ∧
    (¬ mayGive → Completes .pairHandover s (· = s.showPins)) ∧
    (s.pairState ≠ 4 → Completes .ivernResyncRx s (· = s.showPins)) ∧
    ((s.pairState ≠ 3 ∨ s.pair.asked = false ∨ s.pair.keyed = true ∨ ¬ waited) → Completes .pairJoinKeyTimeout s (· = s.showPins)) ∧
    ((s.pairMode = false ∨ s.holdsBit = true ∨ s.pairState = 1) → Completes .pairLeave s (· = s.showPins)) ∧
    (∀ low : BitVec 20, fresh → heard → s.pairMode = true → Completes (.claimFrame low) s fun t =>
      t.fld Reg.pairArb ⟨16, 16⟩ = (List.range 16).foldl (fun (a i : Nat) => a * 2 + (low.toNat.testBit (i + 1)).toNat) 0 ∧
      t.pair.health = s.healthNow) ∧
    (∀ low : BitVec 20, fresh → heard → s.pairMode = false → Completes (.claimFrame low) s fun t =>
      t.pair.health = s.healthNow ∧ t.claim = t.claimNow % 65536) ∧
    (∀ w0 w1 : BitVec 64, s.pairMode = true → Completes (.ivernHealthRx w0 w1) s fun t =>
      t.partnerClaim = w0.toNat / 2 ^ 48 ∧ t.partnerHealth = w0.toNat / 2 ^ 32 % 256 ∧ t.pair.partnerState = w0.toNat / 2 ^ 40 % 256 ∧
      t.pair.partnerDig = some w1.toNat ∧ t.pair.silent = 0) ∧
    (∀ (frame : BitVec 32) (epoch : Byte), mayReceive → Completes (.ivernHandoverRx frame epoch) s fun t =>
        t.pair = { s.pair with handover := some { frame := frame.toNat, epoch := epoch.toNat % 64, role := 3 } } ∧ t.regs = s.regs) ∧
    (mayGive → Completes .pairHandover s fun t =>
        t.pair.handover = some ⟨(s.frameNo + 2) % 2 ^ 32, (s.pair.epoch + 1) % 64, 2, false⟩ ∧ t.sent.length = s.sent.length + 1 ∧ t.regs = s.regs) ∧
    (s.pairState = 4 → Completes .ivernResyncRx s fun t => t.pairState = 2 ∧ t.pair.digests = [] ∧ t.pair.missRun = 0) ∧
    (s.pairState = 3 → s.pair.asked = true → s.pair.keyed = false → waited → Completes .pairJoinKeyTimeout s fun t =>
      t.pairState = s.pair.from_ % 8 ∧ t.pair.role = 2 ∧ t.pair.asked = false) ∧
    (s.pairMode = true → s.holdsBit = false → s.pairState ≠ 1 → Completes .pairLeave s fun t =>
      t.pairState = 1 ∧ t.claim = 0 ∧ t.pair.left = true ∧ t.pair.role = 0) ∧
    (Completes .pairResync s fun t =>
      t.on Reg.pairStatus Fld.pairStatus_UNSTABLE = false ∧ t.pair.resyncs = [] ∧ SameRegs s t [Reg.pairStatus])

/-- The chain and the partner table (R501–R517): each 48 kHz instant every sending side sends its FRAME48; 8 good ones in a row make a side UP, and
8 cycles without one lose it, which counts, with fault 29; messages update their side and go on to the other while they have hops left and there is room;
equal claims of two origins strobe fault 28; a TOD counts for 2 s; a bad frame is counted; a chain
partner that has been quiet for 3 s is LEFT; PARTNER_SEL latches an entry.  On a side that is not UP, or without a chain, messages have no effect. -/
def Obligations.ChainAndPartners : Prop :=
  ∀ (s : State) (side : Fin 2),
    let up := s.chainMode = true ∧ (s.cside side).up = true
    let room := (s.cside (1 - side)).queue.length < 32
    let now := (s.tb 0).t * 48000 / secondFine
    let forwards (t : State) : Prop :=
      (room → (t.cside (1 - side)).queue.length = (s.cside (1 - side)).queue.length + 1) ∧
      (¬ room → (t.cside (1 - side)).queue = (s.cside (1 - side)).queue ∧
        t.rdn Reg.chainDrops = min (s.rdn Reg.chainDrops + 1) 0xFFFFFFFF)
    let quiet := 8 * (secondTicks : Int) ≤ (s.monitorNow - (s.cside side).heard) * 48000
    let old := ∃ d, (s.cside side).tod = some d ∧ 2 * (secondTicks : Int) < s.monitorNow - d.got
    (∀ (flags hops hop addr : Byte) (bound : Word) (claim kind cycle k : BitVec 16) (ttx trx uid : BitVec 64) frame,
      (¬ up → ∀ c ∈ [Instr.chainTodRx side flags bound claim uid hop, .chainHopRx side ttx trx cycle uid, .chainEnumRx side hops hop uid,
          .chainPartnerRx side hops hop uid kind claim addr], Completes c s (· = s.showPins)) ∧
      (s.chainMode = false → ∀ c ∈ [Instr.chainFrame48Rx side k flags, .chainBadFrame frame], Completes c s (· = s.showPins)) ∧
      (chainFrameGood frame = true → Completes (.chainBadFrame frame) s (· = s.showPins))) ∧
    (¬ quiet → Completes (.chainSideLost side) s (· = s.showPins)) ∧
    (¬ old → Completes (.chainTodTimeout side) s (· = s.showPins)) ∧
    (∀ uid : BitVec 64, (∀ i p, s.partnerAt 0 uid.toNat 0 = some (i, p) → s.monitorNow - p.heard < 3 * (secondTicks : Int)) →
      Completes (.partnerLeaveTimeout uid) s (· = s.showPins)) ∧
    ((s.chainRefresh.chainSends = false ∨ s.chain.cycleAt = some now) → Completes .chainCycle s (· = s.chainRefresh.showPins)) ∧
    (s.chainRefresh.chainSends = true → s.chain.cycleAt ≠ some now → Completes .chainCycle s fun t =>
      s.sent.length + 2 ≤ t.sent.length ∧ t.chain.cycleAt = some now) ∧
    (∀ (k : BitVec 16) (crc : Byte), s.chainMode = true → crcM 8 0x07 0 (beBytes 2 k.toNat) = crc.toNat →
      Completes (.chainFrame48Rx side k crc) s fun t =>
        (t.cside side).up = ((s.cside side).up || decide (7 ≤ (s.cside side).run)) ∧ (t.cside side).run = min 8 ((s.cside side).run + 1) ∧
        (t.cside side).heard = s.monitorNow) ∧
    (∀ (k : BitVec 16) (crc : Byte), s.chainMode = true → crcM 8 0x07 0 (beBytes 2 k.toNat) ≠ crc.toNat →
      Completes (.chainFrame48Rx side k crc) s fun t => (t.cside side).run = 0 ∧ (t.cside side).up = (s.cside side).up) ∧
    (quiet → (s.cside side).up = false → Completes (.chainSideLost side) s fun t => (t.cside side).run = 0 ∧ t.regs = s.regs) ∧
    (quiet → (s.cside side).up = true → Completes (.chainSideLost side) s fun t =>
      (t.cside side).up = false ∧ (29, side.val, false) ∈ t.fault.strobes ∧
      t.fld Reg.chainLosses (if side.val = 0 then ⟨16, 16⟩ else ⟨0, 16⟩) = min (s.fld Reg.chainLosses (if side.val = 0 then ⟨16, 16⟩ else ⟨0, 16⟩) + 1) 65535) ∧
    (∀ (flags : Byte) (bound : Word) (claim : BitVec 16) (uid : BitVec 64) (hop : Byte), up → Completes (.chainTodRx side flags bound claim uid hop) s fun t =>
      (t.cside side).tod = some ⟨flags.toNat, bound.toNat, claim.toNat, uid.toNat, hop.toNat, s.monitorNow⟩ ∧
      (s.bit Reg.chainCtrl 4 = true → s.claim ≠ 0 → s.claim = claim.toNat → uid.toNat ≠ s.uid64 → (28, 0x8000, false) ∈ t.fault.strobes)) ∧
    (∀ (ttx trx uid : BitVec 64) (cycle : BitVec 16), up → Completes (.chainHopRx side ttx trx cycle uid) s fun t =>
      (t.cside side).uid = some uid.toNat) ∧
    (∀ (ttx trx uid : BitVec 64) (cycle : BitVec 16), up → s.chainShownSide ≠ some side.val → cycle.toNat ≠ s.chain.cycle →
      Completes (.chainHopRx side ttx trx cycle uid) s fun t => (t.cside side).uid = some uid.toNat ∧ t.regs = s.regs) ∧
    (∀ (ttx trx uid : BitVec 64), up → s.chainShownSide ≠ some side.val → s.chain.cycle < 65536 → (s.chainMarks side).1 ≠ 0 → (s.chainMarks side).2 ≠ 0 →
      (tickDiff (s.chainMarks side).2 ttx.toNat + tickDiff trx.toNat (s.chainMarks side).1) / 2 ≤ 5000 * 65536 →
      Completes (.chainHopRx side ttx trx (BitVec.ofNat 16 s.chain.cycle) uid) s fun t =>
        (t.cside side).sums = ((tickDiff (s.chainMarks side).2 ttx.toNat + tickDiff trx.toNat (s.chainMarks side).1) :: (s.cside side).sums).take 16 ∧
        SameRegs s t [if side.val = 0 then Reg.chainUpDelay else Reg.chainDnDelay]) ∧
    (∀ (hops hop : Byte) (uid : BitVec 64), up → Completes (.chainEnumRx side hops hop uid) s fun t =>
      (s.chainShownSide = some side.val → t.chain.partnerDue = true ∧ t.bit Reg.chainStatus 8 = decide (63 ≤ hop.toNat) ∧
        t.chainAddr = (if hop.toNat < 63 then side.val * 128 + (hop.toNat + 1) else 0x3F) ∧
        (63 ≤ hop.toNat → (29, 2, false) ∈ t.fault.strobes)) ∧
      (s.chainShownSide ≠ some side.val → SameRegs s t [Reg.chainDrops]) ∧
      (hops.toNat < 63 → forwards t) ∧ (63 ≤ hops.toNat → (t.cside (1 - side)).queue = (s.cside (1 - side)).queue)) ∧
    (∀ (hops sender addr : Byte) (uid : BitVec 64) (kind claim : BitVec 16), up →
      Completes (.chainPartnerRx side hops sender uid kind claim addr) s fun t =>
        (hops.toNat < 63 → forwards t) ∧ (63 ≤ hops.toNat → (t.cside (1 - side)).queue = (s.cside (1 - side)).queue)) ∧
    (∀ frame, s.chainMode = true → chainFrameGood frame = false → Completes (.chainBadFrame frame) s fun t =>
      t.rdn Reg.chainCrcErr = min (s.rdn Reg.chainCrcErr + 1) 0xFFFFFFFF ∧ SameRegs s t [Reg.chainCrcErr] ∧ OnlyRegs s t) ∧
    (old → Completes (.chainTodTimeout side) s fun t => (t.cside side).tod = none) ∧
    (∀ (uid : BitVec 64) i p, s.partnerKind 0 = true → s.partnerAt 0 uid.toNat 0 = some (i, p) → p.uses = [0] →
      3 * (secondTicks : Int) ≤ s.monitorNow - p.heard → Completes (.partnerLeaveTimeout uid) s fun t =>
      t.chain.partners.get none i = some { p with uses := [], left := s.chain.departures } ∧ t.chain.departures = s.chain.departures + 1 ∧
      57 ∈ t.intc.raised) ∧
    (∀ i : Fin 1024, Completes (.partnerSelWrite i) s fun t =>
      t.rdn Reg.partnerSel = i.val ∧ (∀ k < 6, t.rd (Reg.partnerData k) = (s.partnerWords i).getD k 0) ∧ OnlyRegs s t ∧
      SameRegs s t (Reg.partnerSel :: (List.range 6).map Reg.partnerData))

/-! ### The interrupt controller (R537–R558) -/

/-- Interrupts are sensed, posted, claimed and completed (R537, R538, R541–R548): an event sets the pending bit of an EDGE source and the most
urgent eligible source is posted; a claim puts the posted source in service and clears its pending bit, an idle target's claim takes what
arbitration picks then, and one with nothing to take returns 0; a completion ends the service, one
with nothing in service counts, and one out of order in NESTED mode empties the stack with fault 36; a pending bit of an EDGE source is
cleared by a 1; MSI-X takes its enable and masks. -/
def Obligations.InterruptsArePostedClaimedCompleted : Prop :=
  ∀ (s : State),
    (Completes .intcSourceEvent s fun t =>
      (∀ n ∈ s.intc.raised, s.irqLevel n = false → t.intc.pend.get false n = true) ∧ t.intc.raised = [] ∧ t.regs = s.regs) ∧
    (∀ k n : Nat, s.intc.raised = [] → k < s.intcTargets → (s.itgt k).posted = none → (s.itgt k).stack = [] → s.arbitrate k = some n →
      Completes .intcSourceEvent s fun t => (t.itgt k).posted = some n ∧ (t.itgt k).stack = []) ∧
    (∀ (enable funcMask : Bool) (masks : BitVec 8), Completes (.intcMsixUnmask enable funcMask masks) s fun t =>
      t.intc.msixEnable = enable ∧ t.intc.funcMask = funcMask ∧ (∀ v < 8, t.intc.vecMask.get true v = masks.toNat.testBit v) ∧ t.regs = s.regs) ∧
    (∀ (k : Fin 4) n, k.val < s.intcTargets → s.intcNested = false → (s.itgt k).posted = some n → Completes (.intcClaim k) s fun t =>
      t.rd (Reg.intcTgtClaim k) = s.claimWord n 1 (s.itgt k).masked ∧ (t.itgt k).posted = none ∧ (t.itgt k).stack = n :: (s.itgt k).stack ∧
      (s.irqLevel n = false → t.intc.pend.get false n = false) ∧ SameRegs s t [Reg.intcTgtClaim k]) ∧
    (∀ (k : Fin 4), s.intcTargets ≤ k.val ∨ (s.intcNested = false ∧ (s.itgt k).posted = none ∧ (s.itgt k).stack ≠ []) →
      Completes (.intcClaim k) s fun t => t.rd (Reg.intcTgtClaim k) = 0 ∧ t.intc = s.intc ∧ SameRegs s t [Reg.intcTgtClaim k]) ∧
    (∀ (k : Fin 4) n, k.val < s.intcTargets → s.intcNested = false → (s.itgt k).posted = none → (s.itgt k).stack = [] → s.arbitrate k = some n →
      Completes (.intcClaim k) s fun t => t.rd (Reg.intcTgtClaim k) = s.claimWord n 1 false ∧ (t.itgt k).stack = [n] ∧
        (s.irqLevel n = false → t.intc.pend.get false n = false) ∧ SameRegs s t [Reg.intcTgtClaim k]) ∧
    (∀ (k : Fin 4), k.val < s.intcTargets → s.intcNested = true ∨ ((s.itgt k).posted = none ∧ (s.itgt k).stack = []) → s.arbitrate k = none →
      Completes (.intcClaim k) s fun t => t.rd (Reg.intcTgtClaim k) = 0 ∧ (t.itgt k).stack = (s.itgt k).stack ∧ (t.itgt k).posted = none ∧
        SameRegs s t [Reg.intcTgtClaim k]) ∧
    (∀ (k : Fin 4) n, k.val < s.intcTargets → s.intcNested = true → s.arbitrate k = some n → Completes (.intcClaim k) s fun t =>
      t.rd (Reg.intcTgtClaim k) = s.claimWord n ((s.itgt k).stack.length + 1) false ∧ (t.itgt k).stack = n :: (s.itgt k).stack) ∧
    (∀ (k : Fin 4) (v : Word) rest, k.val < s.intcTargets → (s.itgt k).stack = v.toNat % 64 :: rest →
      Completes (.intcComplete k v) s fun t => (t.itgt k).stack = rest ∧ t.regs = s.regs) ∧
    (∀ (k : Fin 4) (v : Word), k.val < s.intcTargets →
      (s.itgt k).stack = [] ∨ (s.intcNested = false ∧ (s.itgt k).stack.head? ≠ some (v.toNat % 64)) →
      Completes (.intcComplete k v) s fun t => t.itgt k = { s.itgt k with bad := min 255 ((s.itgt k).bad + 1) } ∧ t.regs = s.regs) ∧
    (∀ (k : Fin 4) (v : Word) top rest, k.val < s.intcTargets → s.intcNested = true → (s.itgt k).stack = top :: rest → top ≠ v.toNat % 64 →
      Completes (.intcComplete k v) s fun t => (t.itgt k).stack = [] ∧ (36, k.val, false) ∈ t.fault.strobes ∧ t.regs = s.regs) ∧
    (∀ (k : Fin 4) (v : Word), s.intcTargets ≤ k.val → Completes (.intcComplete k v) s (· = s.showPins)) ∧
    (Completes .intcSwTest s fun t => t.intc.raised = s.intc.raised ++ [63] ∧ t.intc.pend = s.intc.pend ∧ t.regs = s.regs) ∧
    (∀ (hi : Bool) (v : Word), Completes (.intcPendClear hi v) s fun t =>
      (∀ n < 64, t.intc.pend.get false n =
        (s.intc.pend.get false n && !(decide (n / 32 = hi.toNat) && v.toNat.testBit (n % 32) && !s.irqLevel n))) ∧ t.regs = s.regs)

/-- Admission in NESTED mode (R546): while a target's stack holds sources, an eligible source is of a strictly lower GROUP than the source on
top; a source of the same or a less urgent group is not eligible; with 16 sources on the stack the target does not post, and a claim
returns VALID 0. -/
def Obligations.NestedAdmissionFollowsR546 : Prop :=
  ∀ (s : State) (k : Fin 4) top rest, s.intcNested = true → (s.itgt k).stack = top :: rest →
    (∀ n, s.irqEligible k n = true → s.irqGroup n < s.irqGroup top) ∧
    (∀ n, s.irqGroup top ≤ s.irqGroup n → s.irqEligible k n = false) ∧
    (rest.length = 15 → (s.intcPost k).itgt k = s.itgt k ∧
      Completes (.intcClaim k) s fun t => t.bit (Reg.intcTgtClaim k) 31 = false ∧ (t.itgt k).stack = (s.itgt k).stack)

/-- Arbitration picks the most urgent eligible source: lowest GROUP, then lowest SUB, then lowest number (R539, R540).

The EVT and PPS capture FIFOs are read oldest first: the read of the first word latches the others and takes the entry; on an empty FIFO it returns
the last entry again with UNDERRUN, bit 3, set (R551, R554, R556). -/
def Obligations.ArbitrationAndEventFifos : Prop :=
  (∀ (s : State) (t n : Nat), s.arbitrate t = some n →
    n < 64 ∧ s.irqEligible t n = true ∧
      ∀ m < 64, s.irqEligible t m = true → m ≠ n →
        s.irqGroup n < s.irqGroup m ∨ (s.irqGroup n = s.irqGroup m ∧ (s.irqSub n < s.irqSub m ∨ (s.irqSub n = s.irqSub m ∧ n < m)))) ∧
  (∀ (s : State),
    (∀ w0 w1 es, s.intc.evt.entries = [w0, w1] :: es → Completes .evtRead s fun t =>
      t.rd Reg.evt0 = w0 ∧ t.rd Reg.evt1 = w1 ∧ t.intc.evt.entries = es ∧ t.intc.evt.lost = s.intc.evt.lost ∧ SameRegs s t [Reg.evt0, Reg.evt1]) ∧
    (s.intc.evt.entries = [] → Completes .evtRead s fun t =>
      t.rd Reg.evt0 = (s.intc.evt.last.headD 0 ||| 8) ∧ t.intc = s.intc ∧ SameRegs s t [Reg.evt0, Reg.evt1]) ∧
    (∀ n : Fin 4, (s.intc.pps.get {} n).entries = [] → Completes (.ppsCapRead n) s fun t =>
      t.rd (Reg.ppsCap n) = ((s.intc.pps.get {} n).last.headD 0 ||| 8) ∧ (t.intc.pps.get {} n).entries = [] ∧ t.fld (Reg.ppsStatus n) ⟨0, 7⟩ = 0 ∧
      SameRegs s t [Reg.ppsCap n, Reg.ppsCap1 n, Reg.ppsCap2 n, Reg.ppsStatus n]) ∧
    (∀ (n : Fin 4) w0 w1 w2 es, (s.intc.pps.get {} n).entries = [w0, w1, w2] :: es → es.length < 128 → Completes (.ppsCapRead n) s fun t =>
      t.rd (Reg.ppsCap n) = w0 ∧ t.rd (Reg.ppsCap1 n) = w1 ∧ t.rd (Reg.ppsCap2 n) = w2 ∧ (t.intc.pps.get {} n).entries = es ∧
      t.fld (Reg.ppsStatus n) ⟨0, 7⟩ = es.length ∧ SameRegs s t [Reg.ppsCap n, Reg.ppsCap1 n, Reg.ppsCap2 n, Reg.ppsStatus n]))

/-! ### Power and ageing (R559–R576) -/

/-- Power groups follow their latency, policy, demands and wakes (R523, R560–R562, R564): a latency write takes its value, and the group goes to the
state chosen for it, a deeper one at once, a shallower one by a wake; a group with latency 0
or policy HELD_ACTIVE that is ACTIVE stays ACTIVE; a demand on a group in IDLE or RETAIN starts a wake, and one on an ACTIVE group keeps it ACTIVE
for 1 µs more; a wake that completes makes the
group ACTIVE, an exit from RETAIN or OFF counts in WAKES and presents interrupt 60, and the block resets owed to it are paid; an ACTIVE group whose
last demand is past returns to its chosen state; a group that is not ACTIVE, or still wanted, does not return to idle. -/
def Obligations.PowerGroupsFollowLatencyAndDemand : Prop :=
  ∀ (s : State) (n : Fin 25),
    (∀ us : BitVec 24, Completes (.pgLatencyWrite n us) s fun t => t.rdn (Reg.pgLatency n) = us.toNat) ∧
    (∀ us : BitVec 24, let u := (s.wrn (Reg.pgLatency n) us.toNat).pgShow n
      Completes (.pgLatencyWrite n us) s fun t =>
        (u.pgState n ≤ u.pgChoice n → t.pgState n = u.pgChoice n) ∧
        (u.pgChoice n < u.pgState n → t.pgState n = u.pgState n ∧ n.val ∈ t.age.waking)) ∧
    (∀ us : BitVec 24, s.pgState n = 0 → s.pgPolicy n = 1 ∨ (us = 0 ∧ s.pgPolicy n ≠ 2) → Completes (.pgLatencyWrite n us) s fun t =>
      t.pgState n = 0 ∧ SameRegs s t [Reg.pgLatency n, Reg.pgStatus n]) ∧
    (s.pgState n = 1 ∨ s.pgState n = 2 → Completes (.pgDemand n) s fun t => n.val ∈ t.age.waking ∧ t.regs = s.regs) ∧
    (s.pgState n = 3 ∨ s.pgDeepest n = 0 ∧ s.pgState n = 0 → Completes (.pgDemand n) s (· = s.showPins)) ∧
    (s.pgState n = 0 → s.pgDeepest n ≠ 0 → Completes (.pgDemand n) s fun t =>
      t.age.demand.get 0 n = s.edges + State.gridUs 1 ∧ t.age.waking = s.age.waking ∧ t.regs = s.regs) ∧
    (n.val ∈ s.age.waking → Completes (.pgWakeComplete n) s fun t =>
      t.fault.owed = s.fault.owed.filter fun o => !(State.resetGroup o.1 o.2 == some n.val)) ∧
    (n.val ∈ s.age.waking → s.fault.owed = [] → Completes (.pgWakeComplete n) s fun t =>
      t.pgState n = 0 ∧ n.val ∉ t.age.waking ∧
      (2 ≤ s.pgState n → t.rdn (Reg.pgWakes n) = min (s.rdn (Reg.pgWakes n) + 1) 0xFFFFFFFF ∧ 60 ∈ t.intc.raised) ∧
      (n.val < 16 → SameRegs s t [Reg.pgStatus n, Reg.pgWakes n, Reg.pgEvt])) ∧
    (n.val ∉ s.age.waking → Completes (.pgWakeComplete n) s (· = s.showPins)) ∧
    (s.pgState n ≠ 0 ∨ n.val ∈ s.age.waking → Completes (.pgIdleReturn n) s (· = s.showPins)) ∧
    (s.pgState n = 0 → n.val ∉ s.age.waking → Completes (.pgIdleReturn n) s fun t => t.pgState n = (s.pgShow n).pgChoice n) ∧
    (s.pgState n = 0 → n.val ∉ s.age.waking → s.pgPolicy n = 1 → Completes (.pgIdleReturn n) s fun t =>
      t.pgState n = 0 ∧ SameRegs s t [Reg.pgStatus n])

/-- The voltage code and its monitor (R565–R567): nothing moves before a structure is built, and the code is judged once a second; MANUAL takes
MANUAL_CODE held within FLOOR and 28;
automatic regulation raises the code by one when the lowest predicted rate is below the target, at 28 strobes fault 35 with detail
0xFF, and lowers it by one after 3,600 s above the hysteresis, but not below FLOOR; a sample, once a millisecond, shows in VMON, and fault 34 is live
exactly while it is outside its tolerances, the millisecond after a change of code left out.

Sentinels, fits and temperature (R568–R570, R572–R574): a measurement, once an hour, counts it and shows the slowdown of each ring in ppm rounded
down; a fit, after 24 measured hours,
counts a day and ends with interrupt 58; the hottest reading, once a millisecond, shows in AGE_TJ, and rising above WARN sets THERM_STATUS, presents
interrupt 59 and makes fault 32 live. -/
def Obligations.VoltageSentinelsAndTemperature : Prop :=
  (∀ (s : State),
    let due := s.loader.built = true ∧ s.age.vidAt ≠ some (s.edges / State.gridUs 1000000)
    let auto := due ∧ s.bit Reg.ageCtrl 0 = false
    let above (r : Word) := s.rateTarget * (1000 + s.rdn Reg.ageCtrl / 256 % 256) < r.toNat * 1000000 * 1000
    let sampled := s.age.vmonAt = some (s.edges / State.gridUs 1000)
    let settled := ∀ e, s.age.vidEdge = some e → e + State.gridUs 1000 ≤ s.edges
    (∀ corner, ¬ due → Completes (.vidAdjust corner) s (· = s.showPins)) ∧
    (∀ corner, s.loader.built = false → Completes (.vidAdjust corner) s (· = s.showPins)) ∧
    (∀ corner, due → Completes (.vidAdjust corner) s fun t =>
      t.age.vidAt = some (s.edges / State.gridUs 1000000) ∧ SameRegs s t [Reg.vidStatus] ∧ (t.vidCode ≠ s.vidCode → 58 ∈ t.intc.raised)) ∧
    (∀ corner, due → s.bit Reg.ageCtrl 0 = true → Completes (.vidAdjust corner) s fun t =>
      t.vidCode = max s.vidLow (min 28 (s.rdn Reg.vidCtrl % 64)) ∧ (s.running = true → t.pins.vid = t.vidCode) ∧ SameRegs s t [Reg.vidStatus]) ∧
    (∀ corner, auto → (∃ r ∈ corner, r.toNat * 1000000 < s.rateTarget) →
      Completes (.vidAdjust corner) s fun t =>
        t.vidCode = (if s.vidCode < 28 then s.vidCode + 1 else s.vidCode) ∧
        (s.vidCode < 28 → t.age.vidEdge = some s.edges ∧ 58 ∈ t.intc.raised) ∧
        (28 ≤ s.vidCode → (35, 0xFF, false) ∈ t.fault.strobes) ∧ SameRegs s t [Reg.vidStatus]) ∧
    (∀ corner, auto → corner ≠ [] → (∀ r ∈ corner, above r) → 3600 ≤ s.age.aboveSecs + 1 → s.vidLow < s.vidCode →
      Completes (.vidAdjust corner) s fun t => t.vidCode = s.vidCode - 1 ∧ t.age.aboveSecs = 0) ∧
    (∀ corner, auto → (∀ r ∈ corner, s.rateTarget ≤ r.toNat * 1000000) → s.age.aboveSecs + 1 < 3600 ∨ (∃ r ∈ corner, ¬ above r) →
      Completes (.vidAdjust corner) s fun t => t.vidCode = s.vidCode ∧ t.regs = s.regs) ∧
    (∀ mv : BitVec 16, sampled → Completes (.vmonSample mv) s (· = s.showPins)) ∧
    (∀ mv : BitVec 16, ¬ sampled → Completes (.vmonSample mv) s fun t =>
      let off : Int := 4 * (mv.toNat : Int) - (2800 + 25 * (s.vidCode : Int))
      t.rdn Reg.vmon = mv.toNat ∧
      (t.faultLive 34 = true ↔ ((off < -100 ∨ 100 < off) ∧ settled) ∨ mv.toNat < 680 ∨ 900 < mv.toNat) ∧
      SameRegs s t [Reg.vmon, Reg.faultLiveHi])) ∧
  (∀ (s : State),
    let measured := s.age.hourAt = some (s.edges / State.gridUs 3600000000)
    let read := s.age.tjAt = some (s.edges / State.gridUs 1000)
    (∀ rings corner tj, measured → Completes (.sentinelMeasure rings corner tj) s (· = s.showPins)) ∧
    (∀ rings corner tj, ¬ measured → Completes (.sentinelMeasure rings corner tj) s fun t =>
      t.rdn Reg.ageHours = min (s.rdn Reg.ageHours + 1) 0xFFFFFFFF ∧ t.age.sinceFit = s.age.sinceFit + 1 ∧
      (∀ k < 20, ∀ m, rings[k]? = some m → ∀ v, State.slowdown m.1.toNat m.2.toNat (s.otp.ringRatio.getD k 65536) = some v →
        t.rdn (Reg.ageSent k) = min v 0xFFFFFFFF) ∧
      SameRegs s t (Reg.ageHours :: (List.range 20).map Reg.ageSent)) ∧
    (∀ ref stress k : Nat, 0 < k * stress → k * stress ≤ ref * 65536 →
      ∃ v, State.slowdown ref stress k = some v ∧ v * (k * stress) ≤ (ref * 65536 - k * stress) * 1000000 ∧
        (ref * 65536 - k * stress) * 1000000 < (v + 1) * (k * stress)) ∧
    (∀ ratios, s.age.sinceFit < 24 → Completes (.ageingFit ratios) s (· = s.showPins)) ∧
    (∀ ratios, 24 ≤ s.age.sinceFit → Completes (.ageingFit ratios) s fun t =>
      (∀ k < 20, (t.sentinel k).days = min 65535 ((s.sentinel k).days + 1)) ∧ 58 ∈ t.intc.raised ∧ t.age.sinceFit = 0 ∧
      SameRegsBut s t [(0x100000, 0x140000), (0x170000, 0x180000)]) ∧
    (∀ (hot : Fin 20) (tj : BitVec 16), read → Completes (.tjSample hot tj) s (· = s.showPins)) ∧
    (∀ (hot : Fin 20) (tj : BitVec 16), ¬ read → s.bit Reg.thermStatus 0 = false → s.faultLive 32 = false →
      (s.rdn Reg.thermCfg % 256 : Nat) * 256 < tj.toInt → tj.toInt ≤ 120 * 256 → Completes (.tjSample hot tj) s fun t =>
        t.rdn Reg.ageTj = hot.val * 65536 + tj.toNat ∧ t.bit Reg.thermStatus 0 = true ∧ t.bit Reg.thermStatus 1 = true ∧
        59 ∈ t.intc.raised ∧ t.faultLive 32 = true ∧ SameRegs s t [Reg.ageTj, Reg.thermStatus, Reg.faultLiveHi]) ∧
    (∀ (hot : Fin 20) (tj : BitVec 16), ¬ read → Completes (.tjSample hot tj) s fun t =>
      t.rdn Reg.ageTj = hot.val * 65536 + tj.toNat ∧ t.age.hotMs = (if 120 * 256 < tj.toInt then min 2 (s.age.hotMs + 1) else 0) ∧
      (120 * 256 < tj.toInt → 1 ≤ s.age.hotMs → t.faultLive 33 = true) ∧
      SameRegs s t [Reg.ageTj, Reg.thermStatus, Reg.faultLiveHi]))

/-! ### External memory (R596–R606) -/

/-- The external-memory controller moves as R598 says: START in IDLE or FAILED with EN begins a run, as it does in SERVICE and SELF_REFRESH
unless the memory is in use, and takes the configuration as it stands (R597); ABORT ends a run in FAILED; a run that passes enters SERVICE with
TRAINED and the size, one that fails records its step and lane; EN written 0 loses the contents.  Outside their states they have no effect. -/
def Obligations.ExternalMemoryTrains : Prop :=
  ∀ (s : State),
    (s.dramState = 0 → Completes (.dramEnWrite false) s fun t => t.dramState = 0 ∧ t.dramEn = false ∧ SameRegs s t [Reg.dramCtrl]) ∧
    (∀ fail us lanes found, s.dramState ≠ 2 → Completes (.dramTrainDone fail us lanes found) s (· = s.showPins)) ∧
    (s.dramState ≠ 0 → Completes (.dramEnWrite false) s fun t =>
      t.dramState = 1 ∧ t.dramEn = false ∧ t.rd Reg.dramSize = 0 ∧ t.reserve = [] ∧ t.dramTrained = false ∧
      SameRegs s t [Reg.dramCtrl, Reg.dramStatus, Reg.dramSize, Reg.storeDramTotal, Reg.storeDramFree]) ∧
    (Completes (.dramEnWrite true) s fun t => t.dramEn = true ∧ t.dramState = s.dramState ∧ SameRegs s t [Reg.dramCtrl]) ∧
    (((s.dramState = 1 ∨ s.dramState = 5) ∧ s.dramEn = true) ∨ ((s.dramState = 3 ∨ s.dramState = 4) ∧ s.dramBusy = false) →
      Completes .dramTrainStart s fun t =>
        t.dramState = 2 ∧ t.dramTrained = false ∧ t.rdn Reg.dramTrainStatus = 256 ∧ t.reserve = [] ∧
        t.dram.cfg = s.rd Reg.dramCfg ∧ t.dram.timing = s.rd (Reg.dramTiming 4) ∧
        SameRegs s t [Reg.dramStatus, Reg.dramTrainStatus, Reg.dramSize, Reg.storeDramTotal, Reg.storeDramFree]) ∧
    (s.dramState = 0 ∨ s.dramState = 2 ∨ ((s.dramState = 1 ∨ s.dramState = 5) ∧ s.dramEn = false) ∨
        ((s.dramState = 3 ∨ s.dramState = 4) ∧ s.dramBusy = true) → Completes .dramTrainStart s (· = s.showPins)) ∧
    (s.dramState = 2 → Completes .dramTrainAbort s fun t =>
      t.dramState = 5 ∧ t.fld Reg.dramStatus Fld.dramStatus_FAIL_LANE = 7 ∧
      t.fld Reg.dramStatus Fld.dramStatus_FAIL_STEP = s.fld Reg.dramTrainStatus ⟨8, 4⟩ ∧
      t.fld Reg.dramTrainCount ⟨16, 16⟩ = min (s.fld Reg.dramTrainCount ⟨16, 16⟩ + 1) 65535 ∧
      SameRegs s t [Reg.dramStatus, Reg.dramTrainCount, Reg.dramTrainStatus]) ∧
    (s.dramState ≠ 2 → Completes .dramTrainAbort s (· = s.showPins)) ∧
    (∀ us lanes found, s.dramState = 2 → Completes (.dramTrainDone none us lanes found) s fun t =>
      t.dramState = 3 ∧ t.dramTrained = true ∧ t.rdn Reg.dramSize = s.dramMiB ∧ t.fld Reg.dramStatus Fld.dramStatus_FAIL_LANE = 7 ∧
      t.fld Reg.dramTrainCount ⟨0, 16⟩ = min (s.fld Reg.dramTrainCount ⟨0, 16⟩ + 1) 65535) ∧
    (∀ (f : Fin 11 × Fin 6) us lanes found, s.dramState = 2 → Completes (.dramTrainDone (some f) us lanes found) s fun t =>
      t.dramState = 5 ∧ t.fld Reg.dramStatus Fld.dramStatus_FAIL_STEP = f.1.val ∧ t.fld Reg.dramStatus Fld.dramStatus_FAIL_LANE = f.2.val ∧
      t.fld Reg.dramTrainCount ⟨16, 16⟩ = min (s.fld Reg.dramTrainCount ⟨16, 16⟩ + 1) 65535)

/-- Commands to the memory devices, scrub, injection, temperature and alerts (R597, R601–R605): in SERVICE a mode register is written, a refresh
when tREFI has passed or a calibration when its interval has is sent, the range read, once a second, shows with the refresh rate that follows from it,
an alert enabled in the configuration in force is counted and its commands issued again,
and a scrub pass counts when its period has passed.  At other times these have no effect. -/
def Obligations.ExternalMemoryIsServed : Prop :=
  ∀ (s : State),
    let scrubs := s.dramState = 3 ∧ s.bit Reg.dramScrubCtrl 0 = true ∧
      s.dram.scrubAt + max 1 (s.fld Reg.dramScrubCtrl ⟨16, 16⟩) * State.gridUs 1000000 ≤ s.edges
    let refreshes := s.dramState = 3 ∧ s.dram.timing.toNat % 65536 * 20000 ≤
      (s.edges - s.dram.refreshAt) * 16 * s.dramRate * (if s.dramFast = true then 2 else 1)
    let calibrates := s.dramState = 3 ∧ s.bit Reg.dramZqCtrl 0 = true ∧
      s.dram.zqAt + max 1 (s.fld Reg.dramZqCtrl ⟨16, 16⟩) * State.gridUs 1000 ≤ s.edges
    let reads := s.dramState = 3 ∧ s.dram.tempAt + State.gridUs 1000000 ≤ s.edges
    let alerts (crc : Bool) := s.dramState = 3 ∧ s.dram.cfg.getLsbD (if crc then 0 else 1) = true
    (∀ errs, ¬ scrubs → Completes (.dramScrubPass errs) s (· = s.showPins)) ∧
    (¬ refreshes → Completes .dramRefresh s (· = s.showPins)) ∧
    (¬ calibrates → Completes .dramZqCal s (· = s.showPins)) ∧
    (∀ range hot, ¬ reads → Completes (.dramTempRead range hot) s (· = s.showPins)) ∧
    (∀ crc again addr, ¬ alerts crc → Completes (.dramAlert crc again addr) s (· = s.showPins)) ∧
    (s.dramState = 3 → Completes (.dramMrsCmd 7) s (· = s.showPins)) ∧
    (∀ k : Fin 8, s.dramState = 3 → k.val < 7 → Completes (.dramMrsCmd k) s fun t =>
      t.sent = s.sent ++ [.dramMrs k (s.rdn (Reg.dramMr k) % 16384)] ∧ t.regs = s.regs) ∧
    (∀ k : Fin 8, s.dramState ≠ 3 → Completes (.dramMrsCmd k) s (· = s.showPins)) ∧
    (∀ p ∈ [(Instr.dramEccInjectSingle, 1), (.dramEccInjectDouble, 2)], Completes p.1 s fun t => t.dram.inject = p.2 ∧ t.regs = s.regs) ∧
    (∀ errs, scrubs → Completes (.dramScrubPass errs) s fun t =>
      t.fld Reg.dramScrubStatus ⟨16, 16⟩ = (s.fld Reg.dramScrubStatus ⟨16, 16⟩ + 1) % 65536 ∧
      SameRegs s t [Reg.dramScrubStatus, Reg.dramEccAddrLo, Reg.dramEccAddrHi, Reg.dramEccSyndrome, Reg.dramEccStatus, Reg.dramEccUeCount,
        Reg.dramEccCeCount]) ∧
    (refreshes → Completes .dramRefresh s fun t => t.sent = s.sent ++ [.dramCmd 0] ∧ t.dram.refreshAt = s.edges ∧ t.regs = s.regs) ∧
    (s.dramState ≠ 3 → Completes .dramRefresh s (· = s.showPins)) ∧
    (calibrates → Completes .dramZqCal s fun t => t.sent = s.sent ++ [.dramCmd 1] ∧ t.dram.zqAt = s.edges ∧ t.regs = s.regs) ∧
    (∀ (range : Fin 4) (hot : Bool), reads → Completes (.dramTempRead range hot) s fun t =>
      let mode := s.rdn Reg.dramRefresh / 65536 % 4
      t.rdn Reg.dramTemp = (if mode = 1 ∨ (2 ≤ mode ∧ hot = true) then 256 else 0) + range.val ∧ SameRegs s t [Reg.dramTemp]) ∧
    (∀ (crc : Bool) (addr : BitVec 33), alerts crc →
      Completes (.dramAlert crc false addr) s fun t =>
        let f : Bits := if crc then ⟨16, 16⟩ else ⟨0, 16⟩
        t.fld Reg.dramAlert f = min (s.fld Reg.dramAlert f + 1) 65535 ∧ t.sent = s.sent ++ [.dramCmd 4] ∧ SameRegs s t [Reg.dramAlert]) ∧
    (∀ (crc : Bool) (addr : BitVec 33), alerts crc →
      Completes (.dramAlert crc true addr) s fun t =>
        (3, addr.toNat / 131072 % 65536, false) ∈ t.fault.strobes ∧ t.rdn Reg.dramEccUeCount = min (s.rdn Reg.dramEccUeCount + 1) 0xFFFFFFFF)

/-! ### The host interface (R577–R595) -/

/-- Host accesses to registers (R29, R54, R579, R585–R589): a read/write register takes the value of an accepted write; an offset that is no
register, a locked register and a write through a locked SPI port are violations and change nothing else, as is every access that meets a kind of
R589; the read of a _LO half latches
its _HI, and the read of the _HI answers the latch; a _LO write is held and its _HI write commits both; any other accepted write takes effect at once, or
is queued for the boundary where it is mirrored; before t0, and before step 3 through the SPI port, nothing is written and reads answer 0. -/
def Obligations.HostRegisterAccesses : Prop :=
  (∀ (s : State) (p : Port) (a : Nat),
    let reach := s.running = true ∧ (p = .pcie ∨ s.ready = true)
    let inBar := p = .spi ∨ a < 0x1000000
    let u := s.touch a
    let queued := State.mirrored a = true ∧ u.mirrors = true
    let x := u.readTakes a
    (∀ v, ¬ reach → inBar → ∀ c ∈ [Instr.hostRegisterWrite p a v, .writeLoHold p a v, .writeHiCommit p a v], Completes c s (· = s.showPins)) ∧
    (¬ reach → Completes (.readLoLatch p a) s fun t => t.sent = s.sent ++ [.hostRead p a 0] ∧ t.regs = s.regs ∧ t.host = s.host) ∧
    (∀ v, State.pairOf a ≠ 1 → Completes (.writeLoHold p a v) s (· = s.showPins)) ∧
    (∀ v, State.pairOf a ≠ 2 → Completes (.writeHiCommit p a v) s (· = s.showPins)) ∧
    (∀ v k, reach → inBar → s.writeKind p a v = some k →
      Completes (.hostRegisterWrite p a v) s (fun t => Violated s t k p true false a) ∧
      (State.pairOf a = 1 → Completes (.writeLoHold p a v) s fun t => Violated s t k p true false a) ∧
      (State.pairOf a = 2 → Completes (.writeHiCommit p a v) s fun t => Violated s t k p true false a)) ∧
    (∀ v, reach → inBar → s.writeKind p a v = none → queued → Completes (.hostRegisterWrite p a v) s fun t =>
      t.pair.writes = u.pair.writes ++ [⟨u.mirrorDom a, ((u.domAt (u.mirrorDom a)).count + 3) % 2 ^ 32, 0, a, v⟩] ∧ t.regs = u.regs) ∧
    (∀ v, reach → inBar → s.writeKind p a v = none → ¬ queued → Completes (.hostRegisterWrite p a v) s fun t =>
      t = (if State.pairOf a = 0 then u.writeEffect p a v else u.writeLatched p a v).pgRefresh.showPins) ∧
    (∀ v, reach → s.writeKind p a v = none → ¬ queued → State.pairOf a = 1 → Completes (.writeLoHold p a v) s fun t =>
      t = (u.setPort p fun y => { y with writeLatch := some (a, v) }).pgRefresh.showPins ∧ (t.portAt p).writeLatch = some (a, v)) ∧
    (∀ v w, reach → s.writeKind p a v = none → ¬ queued → State.pairOf a = 2 → 4 ≤ a →
      (u.portAt p).writeLatch = some (a - 4, w) → Completes (.writeHiCommit p a v) s fun t =>
        t = (((u.setPort p fun y => { y with writeLatch := none }).storeReg (a - 4) w).writeEffect p a v).pgRefresh.showPins) ∧
    (∀ v, reach → s.writeKind p a v = none → ¬ queued → State.pairOf a = 2 →
      (∀ lo w, (u.portAt p).writeLatch = some (lo, w) → lo + 4 ≠ a) → Completes (.writeHiCommit p a v) s fun t =>
        t = ((u.setPort p fun y => { y with writeLatch := none }).writeEffect p a v).pgRefresh.showPins) ∧
    (∀ k, reach → s.readKind a = some k → Completes (.readLoLatch p a) s fun t =>
      t.sent = s.sent ++ [.hostRead p a 0] ∧ Violated s t k p false false a) ∧
    (reach → s.readKind a = none → State.pairOf a = 0 → Completes (.readLoLatch p a) s fun t =>
      t.sent = (x.readFrees a).sent ++ [.hostRead p a (x.shown a)] ∧ t.regs = (x.readFrees a).regs) ∧
    (reach → s.readKind a = none → State.pairOf a = 1 → Completes (.readLoLatch p a) s fun t =>
      t.sent = x.sent ++ [.hostRead p a (x.shown a)] ∧ (t.portAt p).readLatch = some (a, x.shown (a + 4)) ∧ t.regs = x.regs) ∧
    (∀ hi, reach → s.readKind a = none → State.pairOf a = 2 → 4 ≤ a → (x.portAt p).readLatch = some (a - 4, hi) →
      Completes (.readLoLatch p a) s fun t => t.sent = x.sent ++ [.hostRead p a hi] ∧ t.regs = x.regs) ∧
    (reach → s.readKind a = none → State.pairOf a = 2 → (∀ lo hi, (x.portAt p).readLatch = some (lo, hi) → lo + 4 ≠ a) →
      Completes (.readLoLatch p a) s fun t => t.sent = x.sent ++ [.hostRead p a (x.shown a)] ∧ t.regs = x.regs)) ∧
  ∀ (s : State), s.running = true →
    (∀ v, s.lockMask Reg.dbEn = 0 → Completes (.hostRegisterWrite .pcie Reg.dbEn v) s fun t => t.rd Reg.dbEn = v) ∧
    (∀ p a v, p = .pcie ∨ s.ready = true → p = .spi ∨ a < 0x1000000 → regDef (a / 4 * 4) = none →
      Completes (.hostRegisterWrite p a v) s fun t => Violated s t 1 p true false a) ∧
    (∀ a v r, a < 0x1000000 → regDef (a / 4 * 4) = some r → groupAt a = none → s.lockedWhole (a / 4 * 4) r = true →
      Completes (.hostRegisterWrite .pcie a v) s fun t => Violated s t 4 .pcie true false a) ∧
    (∀ v, s.ready = true → s.bit Reg.hostSpiCtrl 0 = true → s.lockMask Reg.dbEn = 0 → Completes (.hostRegisterWrite .spi Reg.dbEn v) s fun t =>
      Violated s t 10 .spi true false Reg.dbEn) ∧
    (∀ a v, 0x1000000 ≤ a → Completes (.hostRegisterWrite .pcie a v) s fun t => t.sent = s.sent ++ [.unsupported] ∧ t.regs = s.regs) ∧
    (∀ p a, p = .pcie ∨ s.ready = true → regDef (a / 4 * 4) = none → Completes (.readLoLatch p a) s fun t =>
      t.sent = s.sent ++ [.hostRead p a 0] ∧ Violated s t 1 p false false a) ∧
    (∀ a, State.pairOf a = 1 → s.readKind a = none → Completes (.readLoLatch .pcie a) s fun t =>
      let u := (s.touch a).readTakes a
      t.sent = u.sent ++ [.hostRead .pcie a (u.shown a)] ∧ t.host.pcie.readLatch = some (a, u.shown (a + 4)) ∧ t.regs = u.regs) ∧
    (∀ a hi, State.pairOf a = 2 → s.readKind a = none → s.host.pcie.readLatch = some (a - 4, hi) → 4 ≤ a → groupAt a = none → a / 0x10000 = 7 →
      Completes (.readLoLatch .pcie a) s fun t => t.sent = s.sent ++ [.hostRead .pcie a hi] ∧ t.host = s.host ∧ t.regs = s.regs) ∧
    (∀ (n : Fin 8) v, s.lockMask (Reg.leapLo n) = 0 → Completes (.writeLoHold .pcie (Reg.leapLo n) v) s fun t =>
      t.host.pcie.writeLatch = some (Reg.leapLo n, v) ∧ t.rd (Reg.leapLo n) = s.rd (Reg.leapLo n)) ∧
    (∀ (n : Fin 8) v lo, s.lockMask (Reg.leapLo n) = 0 → s.lockMask (Reg.leapHi n) = 0 → v &&& 0x3FFF0000 = 0 →
      s.host.pcie.writeLatch = some (Reg.leapLo n, lo) → Completes (.writeHiCommit .pcie (Reg.leapHi n) v) s fun t =>
        t.rd (Reg.leapLo n) = lo ∧ t.rd (Reg.leapHi n) &&& 0xC000FFFF = v ∧ t.host.pcie.writeLatch = none)

/-- BAR2 and the SPI port (R579, R581–R584): octets written into the staging window are there afterwards, octets whose byte enable is clear are
not written, a reserved offset is a violation, and a whole word of a lane's window takes effect; SPI writes carry words most significant octet first,
a partial word is discarded; SPI
reads clock out wait octets, the marker 0x5A and the word; an unknown command reads 0xFF throughout; the ports do nothing before they can be used. -/
def Obligations.WindowsAndTheSpiPort : Prop :=
  (∀ (s : State) (addr : Word) octets waits (code : Byte) n, s.running = false ∨ s.ready = false →
    ∀ c ∈ [Instr.spiWriteBar0 addr octets, .spiReadBar0 addr waits, .spiWriteBar2 addr octets, .spiReadBar2 addr waits, .spiUnknownCommand code n],
      Completes c s (· = s.showPins)) ∧
  (∀ (s : State) p off data, s.running = false → Completes (.bar2WindowWrite p off data) s (· = s.showPins)) ∧
  (∀ (s : State) (addr : Word) octets waits, s.running = true → s.ready = true →
    let a := addr.toNat / 4 * 4
    Completes (.spiWriteBar0 addr octets) s (· = (State.spiWrites0 s a (State.spiWords octets)).showPins) ∧
    Completes (.spiWriteBar2 addr octets) s (· = (State.spiWrites2 s a (State.spiWords octets)).showPins) ∧
    (∀ c ∈ [(Instr.spiReadBar0 addr waits, false), (.spiReadBar2 addr waits, true)], Completes c.1 s fun t =>
      let r := State.spiReads c.2 s a waits
      t.sent = r.2.sent ++ [.spiMiso r.1] ∧ t.regs = r.2.regs ∧
        r.1.length = (waits.map fun w => w + 5).sum)) ∧
  ∀ (s : State), s.running = true →
    (∀ (code : Byte) n, code ∈ ([0x02, 0x03, 0x0A, 0x0B] : List Byte) → Completes (.spiUnknownCommand code n) s (· = s.showPins)) ∧
    (∀ (off : BitVec 26) (a b c d : Byte), 0x2000000 ≤ off.toNat → off.toNat % 4 = 0 → s.groupDark ((off.toNat - 0x2000000) / 0x200000) = false →
      State.mirroredMem off.toNat = false ∨ (s.mirrors = false ∧ (s.groupTouch ((off.toNat - 0x2000000) / 0x200000)).mirrors = false) →
      s.inTaskCode ((off.toNat - 0x2000000) / 0x20000) ((off.toNat - 0x2000000) % 0x20000) = false →
      Completes (.bar2WindowWrite .pcie off [some a, some b, some c, some d]) s
        (· = ((s.groupTouch ((off.toNat - 0x2000000) / 0x200000)).laneWrite off.toNat (BitVec.ofNat 32 (leNat [a, b, c, d]))).showPins)) ∧
    (∀ (off : BitVec 26) (b0 b1 : Byte), off.toNat + 2 < 0x1000000 → s.loader.built = false ∨ s.dramTrained = true →
      Completes (.bar2WindowWrite .pcie off [some b0, none, some b1]) s fun t =>
        t.stagingRead off.toNat 1 = [b0] ∧ t.stagingRead (off.toNat + 1) 1 = s.stagingRead (off.toNat + 1) 1 ∧
        t.stagingRead (off.toNat + 2) 1 = [b1] ∧ t.regs = s.regs ∧ (s.memWf = true → t.memWf = true)) ∧
    (∀ (off : BitVec 26) (b : Byte), s.windowAt off.toNat = .reserved → Completes (.bar2WindowWrite .pcie off [some b]) s fun t =>
      Violated s t 1 .pcie true true off.toNat ∧ t.staging = s.staging ∧ t.reserve = s.reserve) ∧
    (∀ (addr : Word) (a b c d : Byte), s.ready = true → Completes (.spiWriteBar0 addr [a, b, c, d]) s fun t =>
      t = (s.hostWrite .spi (addr.toNat / 4 * 4) (BitVec.ofNat 32 (((a.toNat * 256 + b.toNat) * 256 + c.toNat) * 256 + d.toNat))).showPins) ∧
    (∀ (addr : Word) octets, octets.length < 4 ∨ s.ready = false → Completes (.spiWriteBar0 addr octets) s (· = s.showPins)) ∧
    (∀ (addr : Word) (w : Nat), s.ready = true → Completes (.spiReadBar0 addr [w]) s fun t =>
      let r := s.hostRead .spi (addr.toNat / 4 * 4)
      t.sent = r.2.sent ++ [.spiMiso (List.replicate w 0xFF ++ 0x5A :: beBytes 4 r.1.toNat)] ∧ t.regs = r.2.regs) ∧
    (∀ (addr : Word) octets, octets.length < 4 ∨ s.ready = false → Completes (.spiWriteBar2 addr octets) s (· = s.showPins)) ∧
    (∀ (addr : Word) (a b c d : Byte), s.ready = true → s.bit Reg.hostSpiCtrl 0 = false → addr.toNat / 4 * 4 < 0x1000000 →
      s.loader.built = false → Completes (.spiWriteBar2 addr [a, b, c, d]) s fun t =>
        t.stagingRead (addr.toNat / 4 * 4) 4 = [d, c, b, a] ∧ t.regs = s.regs) ∧
    (∀ (addr : Word) (w : Nat), s.ready = true → addr.toNat / 4 * 4 < 0x1000000 → s.loader.built = false →
      Completes (.spiReadBar2 addr [w]) s fun t =>
        t.sent = s.sent ++ [.spiMiso (List.replicate w 0xFF ++ 0x5A :: (s.stagingRead (addr.toNat / 4 * 4) 4).reverse)] ∧ t.regs = s.regs) ∧
    (∀ (code : Byte) (n : Nat), s.ready = true → code ∉ ([0x02, 0x03, 0x0A, 0x0B] : List Byte) → Completes (.spiUnknownCommand code n) s fun t =>
      t.sent = s.sent ++ [.spiMiso (List.replicate n 0xFF)] ∧ t.regs = s.regs)

/-- The PCIe endpoint (R64, R577, R580): errors are logged in AER and strobe faults 24 and 25; PERST and FLR reset the interface; Bus Master
Enable and D3hot stop and resume DMA; a link that trains shows its generation and width; a read that is not completed ends its frame with
DMA_ERROR.

The watchdog, the doorbells, the reset by host software and the violation record (R590–R592, R595): enabling the watchdog and a kick with 0xD1
reload LEFT from TIMEOUT; expiry strobes fault 38, counts and stops it; DB_SET sets its bits and presents interrupt 62 where one is
enabled; 0xC5 in GLOBAL_RESET resets the part and any other value does nothing; CLR empties the violation record. -/
def Obligations.PcieWatchdogAndDoorbells : Prop :=
  (∀ (s : State),
    (Completes .pcieUnsupportedRequest s fun t => t.sent = s.sent ++ [.unsupported] ∧ t.regs = s.regs) ∧
    (Completes .pcieCorrectableError s fun t =>
      t.host.aerLog = s.host.aerLog + 1 ∧ t.fault.strobes = s.fault.strobes ++ [(24, 0, false)] ∧ t.regs = s.regs) ∧
    (Completes (.pcieFatalError false) s fun t =>
      t.host.aerLog = s.host.aerLog + 1 ∧ t.fault.strobes = s.fault.strobes ++ [(25, 0, false)] ∧ t.regs = s.regs) ∧
    (∀ p ∈ [Instr.pcieFatalError true, .pciePerst], Completes p s fun t =>
      t.host.linkUp = false ∧ t.rd Reg.hostStatus = 0 ∧
      t.fault.strobes = s.fault.strobes ++ (if s.host.linkUp then [(25, 0, false)] else []) ∧ SameRegs s t [Reg.hostStatus]) ∧
    (Completes .pciePoisonedWrite s fun t => t.host.aerLog = s.host.aerLog + 1 ∧ t.fault = s.fault ∧ t.regs = s.regs) ∧
    (∀ p ∈ [Instr.pciePerst, .pcieFlr], Completes p s fun t =>
      t.host.busMaster = false ∧ t.host.d3hot = false ∧ t.host.aerLog = 0 ∧ t.host.pcie = {} ∧ t.intc.msixEnable = false ∧ t.intc.vecMask = []) ∧
    (Completes .pcieBmeClear s fun t => t.host = { s.host with busMaster := false } ∧ t.regs = s.regs) ∧
    (Completes .pcieBmeSet s fun t => t.host = { s.host with busMaster := true }) ∧
    (Completes (.pcieD3hot true) s fun t => t.host = { s.host with d3hot := true } ∧ t.regs = s.regs) ∧
    (Completes (.pcieD3hot false) s fun t => t.host = { s.host with d3hot := false }) ∧
    (∀ gen width : Fin 5, gen ≠ 0 → width ∈ ([1, 2, 4] : List (Fin 5)) → Completes (.pcieLinkUp gen width) s fun t =>
      t.host = { s.host with linkUp := true } ∧ t.rdn Reg.hostStatus = gen.val * 65536 + width.val * 256 + 1) ∧
    (∀ (q : Fin 4) k, State.txHead (s.txq q).descs = .frame k → s.dmaOk = true → s.txqRuns q = true → Completes (.pcieDmaReadTimeout q) s fun t =>
      t.bit Reg.queueStatus 1 = true)) ∧
  (∀ (s : State),
    (∀ p v, v = 0xD1 → p = .pcie ∨ s.bit Reg.hostWdogCtrl 1 = true → Completes (.hostWdogKick p v) s fun t =>
      t.fld Reg.hostWdogStatus Fld.hostWdogStatus_LEFT = max 1 (s.fld Reg.hostWdogCtrl Fld.hostWdogCtrl_TIMEOUT) ∧ t.host.wdogRun = true ∧
      SameRegs s t [Reg.hostWdogStatus]) ∧
    (∀ p v, v ≠ 0xD1 ∨ (p = .spi ∧ s.bit Reg.hostWdogCtrl 1 = false) → Completes (.hostWdogKick p v) s (· = s.showPins)) ∧
    (∀ v, s.lockMask Reg.hostWdogCtrl = 0 → Completes (.hostWdogEnable v) s fun t =>
      t.fld Reg.hostWdogCtrl Fld.hostWdogCtrl_TIMEOUT = v.toNat / 65536 ∧ t.bit Reg.hostWdogCtrl 0 = v.toNat.testBit 0 ∧
      (v.toNat.testBit 0 = true → s.bit Reg.hostWdogCtrl 0 = false →
        t.fld Reg.hostWdogStatus Fld.hostWdogStatus_LEFT = max 1 (v.toNat / 65536) ∧ t.host.wdogRun = true) ∧
      (s.bit Reg.hostWdogCtrl 0 = true → t.rd Reg.hostWdogStatus = s.rd Reg.hostWdogStatus) ∧
      SameRegs s t [Reg.hostWdogCtrl, Reg.hostWdogStatus]) ∧
    (let counts := s.host.wdogRun = true ∧ s.bit Reg.hostWdogCtrl 0 = true ∧ s.fld Reg.hostWdogStatus Fld.hostWdogStatus_LEFT = 0
     (¬ counts → Completes .hostWdogExpire s (· = s.showPins)) ∧
     (counts → Completes .hostWdogExpire s fun t =>
      t.fault.strobes = s.fault.strobes ++ [(38, 0, false)] ∧ t.fld Reg.hostWdogStatus Fld.hostWdogStatus_LEFT = 0 ∧
      t.fld Reg.hostWdogStatus Fld.hostWdogStatus_EXPIRIES = min (s.fld Reg.hostWdogStatus Fld.hostWdogStatus_EXPIRIES + 1) 255 ∧
      t.host.wdogRun = false ∧ SameRegs s t [Reg.hostWdogStatus])) ∧
    (∀ v, Completes (.doorbellSet v) s fun t =>
      t.rd Reg.dbStatus = s.rd Reg.dbStatus ||| v ∧
      t.intc.raised = s.intc.raised ++ (if v &&& s.rd Reg.dbEn = 0 then [] else [62]) ∧ SameRegs s t [Reg.dbStatus]) ∧
    (s.running = true → Completes (.globalReset 0xC5) s fun t => t.rdn Reg.globalResetCause = 2 ∧ t.intc.pend = [] ∧ t.vidCode = 16) ∧
    (∀ v, v ≠ 0xC5 → Completes (.globalReset v) s (· = s.showPins)) ∧
    (Completes .dbgClr s fun t =>
      t.rd Reg.dbgViolCount = 0 ∧ t.rd Reg.dbgViolAddr = 0 ∧ t.rd Reg.dbgViolInfo = 0 ∧
      SameRegs s t [Reg.dbgViolCount, Reg.dbgViolAddr, Reg.dbgViolInfo]))

/-! ### The machine -/

/-- The staging window stays canonical (R49): writes of any octets below the lane windows, through either port, leave both octet memories in
canonical form, and change no register unless the access is a violation. -/
def Obligations.StagingStaysCanonical : Prop :=
  ∀ (s : State) (p : Port) (off : BitVec 26) (data : List (Option Byte)), s.memWf = true → off.toNat < 0x2000000 →
    Completes (.bar2WindowWrite p off data) s fun t =>
      t.memWf = true ∧ SameRegs s t [Reg.dbgViolCount, Reg.dbgViolAddr, Reg.dbgViolInfo]

/-- A step takes the front of the queue: with command `c` in front it is exec of `c` on the state with the queue's rest; with an empty queue it is
one GRID edge (the model's choice, log entry 3). -/
def Obligations.StepTakesTheFrontCommand : Prop :=
  (∀ (s : State) (c : Instr) cs, s.pending = c :: cs → step s = exec c { s with pending := cs }) ∧
    ∀ s : State, s.pending = [] → step s = .next s.idleStep.showPins

/-- Right after reset the pins carry what the state calls for, the memories are in canonical form, no command waits, every register holds its
reset value, no structure is built, and the machine can run. -/
def Obligations.ResetLeavesTheSpecValues : Prop :=
  State.reset.pinsShown ∧ State.reset.memWf = true ∧ State.reset.pending = [] ∧ (∀ a, State.reset.rd a = regReset a) ∧
    State.reset.loader.built = false ∧ Safe 1 State.reset

/-- No command stops the part (R29, R619): in every state, every command answers a next state, but for a low pulse of PORESET_B longer than 1 µs
and shorter than 5 µs, which R619 forbids and to which it gives no effect.

The forbidden pulse is the only stop, and it is a fault of its own (R619). -/
def Obligations.OnlyTheForbiddenPulseStops : Prop :=
  (∀ (s : State) (c : Instr), (∀ ns, c = .poresetAssert ns → ns ≤ 1000 ∨ 5000 ≤ ns) → Completes c s fun _ => True) ∧
  (∀ (s : State) (c : Instr),
    (∀ r, exec c s ≠ .refused r) ∧
    (∀ f, exec c s = .fault f ↔ f = .forbiddenResetPulse ∧ ∃ ns, c = .poresetAssert ns ∧ 1000 < ns ∧ ns < 5000))

/-- After every step, from any state, the control pins carry the levels the state calls for (R512, R530, R531, R541, R565). -/
def Obligations.EveryStepShowsThePins : Prop :=
  ∀ s t : State, step s = .next t → t.pinsShown
end

