-- ==== Sys2Proof/Laws/SMap.lean ====
section
/-!
SUPPORT. Sparse maps: a read after a write, and that every operation keeps the canonical form.
-/

namespace Sys2Proof.Machine.SMap

variable {α : Type}

@[simp] theorem get_nil (d : α) (k : Nat) : get d [] k = d := rfl

theorem get_ins_same (d v : α) (k : Nat) (m : SMap α) (h : ∀ e ∈ m, e.1 ≠ k) : get d (ins k v m) k = v := by
  induction m with
  | nil => simp [ins, get]
  | cons e m ih =>
    obtain ⟨a, x⟩ := e
    have ha : a ≠ k := h (a, x) (by simp)
    have hm : ∀ e ∈ m, e.1 ≠ k := fun e he => h e (by simp [he])
    unfold ins
    split
    · simp [get]
    · simp [get, Ne.symm ha, ih hm]

theorem get_ins_other (d v : α) {k j : Nat} (m : SMap α) (h : j ≠ k) : get d (ins k v m) j = get d m j := by
  induction m with
  | nil => simp [ins, get, h]
  | cons e m ih =>
    obtain ⟨a, x⟩ := e
    unfold ins
    split
    · simp [get, h]
    · simp [get, ih]

theorem get_del_same (d : α) (k : Nat) (m : SMap α) : get d (del m k) k = d := by
  induction m with
  | nil => rfl
  | cons e m ih =>
    obtain ⟨a, x⟩ := e
    by_cases ha : a = k
    · simpa [del, ha] using ih
    · simpa [del, ha, get, Ne.symm ha] using ih

theorem get_del_other (d : α) {k j : Nat} (m : SMap α) (h : j ≠ k) : get d (del m k) j = get d m j := by
  induction m with
  | nil => rfl
  | cons e m ih =>
    obtain ⟨a, x⟩ := e
    by_cases ha : a = k
    · subst ha; simpa [del, get, h] using ih
    · by_cases hj : j = a
      · subst hj; simp [del, ha, get]
      · simpa [del, ha, get, hj] using ih

/-- A read at the key just written gives the value written. -/
@[simp] theorem get_set_same [DecidableEq α] (d v : α) (k : Nat) (m : SMap α) : get d (set d m k v) k = v := by
  unfold set
  split
  · next h => rw [get_del_same, h]
  · exact get_ins_same d v k _ (by intro e he; simp [del] at he; exact he.2)

/-- A write leaves every other key alone. -/
theorem get_set_other [DecidableEq α] (d d' v : α) {k j : Nat} (m : SMap α) (h : j ≠ k) :
    get d (set d' m k v) j = get d m j := by
  unfold set
  split
  · exact get_del_other d m h
  · rw [get_ins_other d v _ h, get_del_other d m h]

theorem get_set [DecidableEq α] (d v : α) (k j : Nat) (m : SMap α) :
    get d (set d m k v) j = if j = k then v else get d m j := by
  split
  · next h => subst h; exact get_set_same d v j m
  · next h => exact get_set_other d d v m h

/-! ### The canonical form -/

variable [DecidableEq α] {f : Nat → α}

theorem wfFrom_mono {lo lo' : Nat} {m : SMap α} (h : wfFrom f lo m = true) (hl : lo' ≤ lo) : wfFrom f lo' m = true := by
  cases m with
  | nil => rfl
  | cons e m =>
    simp only [wfFrom, Bool.and_eq_true, decide_eq_true_eq] at h ⊢
    exact ⟨⟨Nat.le_trans hl h.1.1, h.1.2⟩, h.2⟩

theorem wfFrom_filter {lo : Nat} {m : SMap α} (p : Nat × α → Bool) (h : wfFrom f lo m = true) :
    wfFrom f lo (m.filter p) = true := by
  induction m generalizing lo with
  | nil => rfl
  | cons e m ih =>
    simp only [wfFrom, Bool.and_eq_true, decide_eq_true_eq] at h
    have hm := ih h.2
    by_cases hp : p e
    · simp only [List.filter_cons_of_pos hp, wfFrom, Bool.and_eq_true, decide_eq_true_eq]
      exact ⟨h.1, hm⟩
    · simp only [List.filter_cons_of_neg hp]
      exact wfFrom_mono hm (by omega)

theorem wfFrom_ins {lo k : Nat} {v : α} {m : SMap α} (h : wfFrom f lo m = true) (hk : lo ≤ k) (hv : v ≠ f k)
    (hn : ∀ e ∈ m, e.1 ≠ k) : wfFrom f lo (ins k v m) = true := by
  induction m generalizing lo with
  | nil => simp [ins, wfFrom, hk, hv]
  | cons e m ih =>
    obtain ⟨a, x⟩ := e
    simp only [wfFrom, Bool.and_eq_true, decide_eq_true_eq] at h
    have ha : a ≠ k := hn (a, x) (by simp)
    have hm : ∀ e ∈ m, e.1 ≠ k := fun e he => hn e (by simp [he])
    unfold ins
    split
    · next hlt =>
      simp only [wfFrom, Bool.and_eq_true, decide_eq_true_eq]
      exact ⟨⟨hk, hv⟩, ⟨⟨hlt, h.1.2⟩, h.2⟩⟩
    · next hge =>
      simp only [wfFrom, Bool.and_eq_true, decide_eq_true_eq]
      exact ⟨h.1, ih h.2 (by omega) hm⟩

/-- A write with the key's own default keeps the canonical form. -/
theorem wf_set {m : SMap α} (k : Nat) (v : α) (h : wf f m = true) : wf f (set (f k) m k v) = true := by
  unfold set
  split
  · exact wfFrom_filter _ h
  · next hv =>
    exact wfFrom_ins (wfFrom_filter _ h) (Nat.zero_le k) hv (by intro e he; rw [del, List.mem_filter] at he; simpa using he.2)

theorem wf_setRun {d : α} {m : SMap α} (k : Nat) (vs : List α) (h : wf (fun _ => d) m = true) :
    wf (fun _ => d) (setRun d m k vs) = true := by
  induction vs generalizing m k with
  | nil => exact h
  | cons v vs ih => exact ih (k + 1) (wf_set (f := fun _ => d) k v h)

theorem wf_del {m : SMap α} (k : Nat) (h : wf f m = true) : wf f (del m k) = true := wfFrom_filter _ h

theorem wf_drop {m : SMap α} (p : Nat → Bool) (h : wf f m = true) : wf f (drop p m) = true := wfFrom_filter _ h

theorem wfFrom_ofList {d : α} (k : Nat) (l : List α) : wfFrom (fun _ => d) k (ofList d k l) = true := by
  induction l generalizing k with
  | nil => rfl
  | cons x xs ih =>
    unfold ofList
    split
    · exact wfFrom_mono (ih (k + 1)) (Nat.le_succ k)
    · next hx =>
      simp only [wfFrom, Bool.and_eq_true, decide_eq_true_eq]
      exact ⟨⟨Nat.le_refl k, hx⟩, ih (k + 1)⟩

theorem wf_ofList {d : α} (k : Nat) (l : List α) : wf (fun _ => d) (ofList d k l) = true :=
  wfFrom_mono (wfFrom_ofList k l) (Nat.zero_le k)

theorem get_lt {d : α} {lo k : Nat} {m : SMap α} (h : wfFrom f lo m = true) (hk : k < lo) : get d m k = d := by
  induction m generalizing lo with
  | nil => rfl
  | cons e m ih =>
    obtain ⟨a, x⟩ := e
    simp only [wfFrom, Bool.and_eq_true, decide_eq_true_eq] at h
    have hne : k ≠ a := by omega
    simp only [get, hne, if_false]
    exact ih h.2 (by omega)

/-- Two maps in canonical form that read the same everywhere are the same data. -/
theorem wf_ext {lo : Nat} {m n : SMap α} (hm : wfFrom f lo m = true) (hn : wfFrom f lo n = true)
    (h : ∀ k, get (f k) m k = get (f k) n k) : m = n := by
  induction m generalizing lo n with
  | nil =>
    cases n with
    | nil => rfl
    | cons e n =>
      obtain ⟨b, y⟩ := e
      simp only [wfFrom, Bool.and_eq_true, decide_eq_true_eq] at hn
      have := h b
      simp [get] at this
      exact absurd this.symm hn.1.2
  | cons e m ih =>
    obtain ⟨a, x⟩ := e
    simp only [wfFrom, Bool.and_eq_true, decide_eq_true_eq] at hm
    cases n with
    | nil =>
      have := h a
      simp [get] at this
      exact absurd this hm.1.2
    | cons e n =>
      obtain ⟨b, y⟩ := e
      simp only [wfFrom, Bool.and_eq_true, decide_eq_true_eq] at hn
      rcases Nat.lt_trichotomy a b with hab | hab | hab
      · have := h a
        rw [get, if_pos rfl, get, if_neg (by omega), get_lt hn.2 (by omega)] at this
        exact absurd this hm.1.2
      · subst hab
        have hxy := h a
        simp only [get, if_true] at hxy
        subst hxy
        have : m = n := ih hm.2 hn.2 (by
          intro k
          by_cases hk : k = a
          · subst hk
            rw [get_lt hm.2 (by omega), get_lt hn.2 (by omega)]
          · have := h k
            simpa [get, hk] using this)
        rw [this]
      · have := h b
        rw [get, if_neg (by omega), get_lt hm.2 (by omega), get, if_pos rfl] at this
        exact absurd this.symm hn.1.2

end Sys2Proof.Machine.SMap
end

