-- ==== Sys2Proof/Laws/State.lean ====
section
/-!
SUPPORT. One lemma per field of State for each basic update: what the update leaves alone.
-/

namespace Sys2Proof.Machine.State

variable (s : State)

/-! ### wr -/

@[simp] theorem wr_sent (a : Nat) (v : Word) : (s.wr a v).sent = s.sent := rfl
@[simp] theorem wr_free (a : Nat) (v : Word) : (s.wr a v).free = s.free := rfl
@[simp] theorem wr_edges (a : Nat) (v : Word) : (s.wr a v).edges = s.edges := rfl
@[simp] theorem wr_edgeRem (a : Nat) (v : Word) : (s.wr a v).edgeRem = s.edgeRem := rfl
@[simp] theorem wr_fault (a : Nat) (v : Word) : (s.wr a v).fault = s.fault := rfl
@[simp] theorem wr_intc (a : Nat) (v : Word) : (s.wr a v).intc = s.intc := rfl
@[simp] theorem wr_host (a : Nat) (v : Word) : (s.wr a v).host = s.host := rfl
@[simp] theorem wr_pins (a : Nat) (v : Word) : (s.wr a v).pins = s.pins := rfl
@[simp] theorem wr_loader (a : Nat) (v : Word) : (s.wr a v).loader = s.loader := rfl
@[simp] theorem wr_otp (a : Nat) (v : Word) : (s.wr a v).otp = s.otp := rfl
@[simp] theorem wr_staging (a : Nat) (v : Word) : (s.wr a v).staging = s.staging := rfl
@[simp] theorem wr_reserve (a : Nat) (v : Word) : (s.wr a v).reserve = s.reserve := rfl
@[simp] theorem wr_running (a : Nat) (v : Word) : (s.wr a v).running = s.running := rfl
@[simp] theorem wr_ready (a : Nat) (v : Word) : (s.wr a v).ready = s.ready := rfl
@[simp] theorem wr_tested (a : Nat) (v : Word) : (s.wr a v).tested = s.tested := rfl
@[simp] theorem wr_refs (a : Nat) (v : Word) : (s.wr a v).refs = s.refs := rfl
@[simp] theorem wr_sel (a : Nat) (v : Word) : (s.wr a v).sel = s.sel := rfl
@[simp] theorem wr_hold (a : Nat) (v : Word) : (s.wr a v).hold = s.hold := rfl
@[simp] theorem wr_synth (a : Nat) (v : Word) : (s.wr a v).synth = s.synth := rfl
@[simp] theorem wr_loupe (a : Nat) (v : Word) : (s.wr a v).loupe = s.loupe := rfl
@[simp] theorem wr_time (a : Nat) (v : Word) : (s.wr a v).time = s.time := rfl
@[simp] theorem wr_gnss (a : Nat) (v : Word) : (s.wr a v).gnss = s.gnss := rfl
@[simp] theorem wr_line (a : Nat) (v : Word) : (s.wr a v).line = s.line := rfl
@[simp] theorem wr_queue (a : Nat) (v : Word) : (s.wr a v).queue = s.queue := rfl
@[simp] theorem wr_ptp (a : Nat) (v : Word) : (s.wr a v).ptp = s.ptp := rfl
@[simp] theorem wr_nts (a : Nat) (v : Word) : (s.wr a v).nts = s.nts := rfl
@[simp] theorem wr_keys (a : Nat) (v : Word) : (s.wr a v).keys = s.keys := rfl
@[simp] theorem wr_audio (a : Nat) (v : Word) : (s.wr a v).audio = s.audio := rfl
@[simp] theorem wr_store (a : Nat) (v : Word) : (s.wr a v).store = s.store := rfl
@[simp] theorem wr_facet (a : Nat) (v : Word) : (s.wr a v).facet = s.facet := rfl
@[simp] theorem wr_pair (a : Nat) (v : Word) : (s.wr a v).pair = s.pair := rfl
@[simp] theorem wr_chain (a : Nat) (v : Word) : (s.wr a v).chain = s.chain := rfl
@[simp] theorem wr_age (a : Nat) (v : Word) : (s.wr a v).age = s.age := rfl
@[simp] theorem wr_dram (a : Nat) (v : Word) : (s.wr a v).dram = s.dram := rfl
@[simp] theorem wr_tapIr (a : Nat) (v : Word) : (s.wr a v).tapIr = s.tapIr := rfl
@[simp] theorem wr_pending (a : Nat) (v : Word) : (s.wr a v).pending = s.pending := rfl

/-! ### wrn -/

@[simp] theorem wrn_sent (a v : Nat) : (s.wrn a v).sent = s.sent := rfl
@[simp] theorem wrn_free (a v : Nat) : (s.wrn a v).free = s.free := rfl
@[simp] theorem wrn_edges (a v : Nat) : (s.wrn a v).edges = s.edges := rfl
@[simp] theorem wrn_edgeRem (a v : Nat) : (s.wrn a v).edgeRem = s.edgeRem := rfl
@[simp] theorem wrn_fault (a v : Nat) : (s.wrn a v).fault = s.fault := rfl
@[simp] theorem wrn_intc (a v : Nat) : (s.wrn a v).intc = s.intc := rfl
@[simp] theorem wrn_host (a v : Nat) : (s.wrn a v).host = s.host := rfl
@[simp] theorem wrn_pins (a v : Nat) : (s.wrn a v).pins = s.pins := rfl
@[simp] theorem wrn_loader (a v : Nat) : (s.wrn a v).loader = s.loader := rfl
@[simp] theorem wrn_otp (a v : Nat) : (s.wrn a v).otp = s.otp := rfl
@[simp] theorem wrn_staging (a v : Nat) : (s.wrn a v).staging = s.staging := rfl
@[simp] theorem wrn_reserve (a v : Nat) : (s.wrn a v).reserve = s.reserve := rfl
@[simp] theorem wrn_running (a v : Nat) : (s.wrn a v).running = s.running := rfl
@[simp] theorem wrn_ready (a v : Nat) : (s.wrn a v).ready = s.ready := rfl
@[simp] theorem wrn_tested (a v : Nat) : (s.wrn a v).tested = s.tested := rfl
@[simp] theorem wrn_refs (a v : Nat) : (s.wrn a v).refs = s.refs := rfl
@[simp] theorem wrn_sel (a v : Nat) : (s.wrn a v).sel = s.sel := rfl
@[simp] theorem wrn_hold (a v : Nat) : (s.wrn a v).hold = s.hold := rfl
@[simp] theorem wrn_synth (a v : Nat) : (s.wrn a v).synth = s.synth := rfl
@[simp] theorem wrn_loupe (a v : Nat) : (s.wrn a v).loupe = s.loupe := rfl
@[simp] theorem wrn_time (a v : Nat) : (s.wrn a v).time = s.time := rfl
@[simp] theorem wrn_gnss (a v : Nat) : (s.wrn a v).gnss = s.gnss := rfl
@[simp] theorem wrn_line (a v : Nat) : (s.wrn a v).line = s.line := rfl
@[simp] theorem wrn_queue (a v : Nat) : (s.wrn a v).queue = s.queue := rfl
@[simp] theorem wrn_ptp (a v : Nat) : (s.wrn a v).ptp = s.ptp := rfl
@[simp] theorem wrn_nts (a v : Nat) : (s.wrn a v).nts = s.nts := rfl
@[simp] theorem wrn_keys (a v : Nat) : (s.wrn a v).keys = s.keys := rfl
@[simp] theorem wrn_audio (a v : Nat) : (s.wrn a v).audio = s.audio := rfl
@[simp] theorem wrn_store (a v : Nat) : (s.wrn a v).store = s.store := rfl
@[simp] theorem wrn_facet (a v : Nat) : (s.wrn a v).facet = s.facet := rfl
@[simp] theorem wrn_pair (a v : Nat) : (s.wrn a v).pair = s.pair := rfl
@[simp] theorem wrn_chain (a v : Nat) : (s.wrn a v).chain = s.chain := rfl
@[simp] theorem wrn_age (a v : Nat) : (s.wrn a v).age = s.age := rfl
@[simp] theorem wrn_dram (a v : Nat) : (s.wrn a v).dram = s.dram := rfl
@[simp] theorem wrn_tapIr (a v : Nat) : (s.wrn a v).tapIr = s.tapIr := rfl
@[simp] theorem wrn_pending (a v : Nat) : (s.wrn a v).pending = s.pending := rfl

/-! ### put -/

@[simp] theorem put_sent (a : Nat) (f : Bits) (v : Nat) : (s.put a f v).sent = s.sent := rfl
@[simp] theorem put_free (a : Nat) (f : Bits) (v : Nat) : (s.put a f v).free = s.free := rfl
@[simp] theorem put_edges (a : Nat) (f : Bits) (v : Nat) : (s.put a f v).edges = s.edges := rfl
@[simp] theorem put_edgeRem (a : Nat) (f : Bits) (v : Nat) : (s.put a f v).edgeRem = s.edgeRem := rfl
@[simp] theorem put_fault (a : Nat) (f : Bits) (v : Nat) : (s.put a f v).fault = s.fault := rfl
@[simp] theorem put_intc (a : Nat) (f : Bits) (v : Nat) : (s.put a f v).intc = s.intc := rfl
@[simp] theorem put_host (a : Nat) (f : Bits) (v : Nat) : (s.put a f v).host = s.host := rfl
@[simp] theorem put_pins (a : Nat) (f : Bits) (v : Nat) : (s.put a f v).pins = s.pins := rfl
@[simp] theorem put_loader (a : Nat) (f : Bits) (v : Nat) : (s.put a f v).loader = s.loader := rfl
@[simp] theorem put_otp (a : Nat) (f : Bits) (v : Nat) : (s.put a f v).otp = s.otp := rfl
@[simp] theorem put_staging (a : Nat) (f : Bits) (v : Nat) : (s.put a f v).staging = s.staging := rfl
@[simp] theorem put_reserve (a : Nat) (f : Bits) (v : Nat) : (s.put a f v).reserve = s.reserve := rfl
@[simp] theorem put_running (a : Nat) (f : Bits) (v : Nat) : (s.put a f v).running = s.running := rfl
@[simp] theorem put_ready (a : Nat) (f : Bits) (v : Nat) : (s.put a f v).ready = s.ready := rfl
@[simp] theorem put_tested (a : Nat) (f : Bits) (v : Nat) : (s.put a f v).tested = s.tested := rfl
@[simp] theorem put_refs (a : Nat) (f : Bits) (v : Nat) : (s.put a f v).refs = s.refs := rfl
@[simp] theorem put_sel (a : Nat) (f : Bits) (v : Nat) : (s.put a f v).sel = s.sel := rfl
@[simp] theorem put_hold (a : Nat) (f : Bits) (v : Nat) : (s.put a f v).hold = s.hold := rfl
@[simp] theorem put_synth (a : Nat) (f : Bits) (v : Nat) : (s.put a f v).synth = s.synth := rfl
@[simp] theorem put_loupe (a : Nat) (f : Bits) (v : Nat) : (s.put a f v).loupe = s.loupe := rfl
@[simp] theorem put_time (a : Nat) (f : Bits) (v : Nat) : (s.put a f v).time = s.time := rfl
@[simp] theorem put_gnss (a : Nat) (f : Bits) (v : Nat) : (s.put a f v).gnss = s.gnss := rfl
@[simp] theorem put_line (a : Nat) (f : Bits) (v : Nat) : (s.put a f v).line = s.line := rfl
@[simp] theorem put_queue (a : Nat) (f : Bits) (v : Nat) : (s.put a f v).queue = s.queue := rfl
@[simp] theorem put_ptp (a : Nat) (f : Bits) (v : Nat) : (s.put a f v).ptp = s.ptp := rfl
@[simp] theorem put_nts (a : Nat) (f : Bits) (v : Nat) : (s.put a f v).nts = s.nts := rfl
@[simp] theorem put_keys (a : Nat) (f : Bits) (v : Nat) : (s.put a f v).keys = s.keys := rfl
@[simp] theorem put_audio (a : Nat) (f : Bits) (v : Nat) : (s.put a f v).audio = s.audio := rfl
@[simp] theorem put_store (a : Nat) (f : Bits) (v : Nat) : (s.put a f v).store = s.store := rfl
@[simp] theorem put_facet (a : Nat) (f : Bits) (v : Nat) : (s.put a f v).facet = s.facet := rfl
@[simp] theorem put_pair (a : Nat) (f : Bits) (v : Nat) : (s.put a f v).pair = s.pair := rfl
@[simp] theorem put_chain (a : Nat) (f : Bits) (v : Nat) : (s.put a f v).chain = s.chain := rfl
@[simp] theorem put_age (a : Nat) (f : Bits) (v : Nat) : (s.put a f v).age = s.age := rfl
@[simp] theorem put_dram (a : Nat) (f : Bits) (v : Nat) : (s.put a f v).dram = s.dram := rfl
@[simp] theorem put_tapIr (a : Nat) (f : Bits) (v : Nat) : (s.put a f v).tapIr = s.tapIr := rfl
@[simp] theorem put_pending (a : Nat) (f : Bits) (v : Nat) : (s.put a f v).pending = s.pending := rfl

/-! ### putBit -/

@[simp] theorem putBit_sent (a i : Nat) (b : Bool) : (s.putBit a i b).sent = s.sent := rfl
@[simp] theorem putBit_free (a i : Nat) (b : Bool) : (s.putBit a i b).free = s.free := rfl
@[simp] theorem putBit_edges (a i : Nat) (b : Bool) : (s.putBit a i b).edges = s.edges := rfl
@[simp] theorem putBit_edgeRem (a i : Nat) (b : Bool) : (s.putBit a i b).edgeRem = s.edgeRem := rfl
@[simp] theorem putBit_fault (a i : Nat) (b : Bool) : (s.putBit a i b).fault = s.fault := rfl
@[simp] theorem putBit_intc (a i : Nat) (b : Bool) : (s.putBit a i b).intc = s.intc := rfl
@[simp] theorem putBit_host (a i : Nat) (b : Bool) : (s.putBit a i b).host = s.host := rfl
@[simp] theorem putBit_pins (a i : Nat) (b : Bool) : (s.putBit a i b).pins = s.pins := rfl
@[simp] theorem putBit_loader (a i : Nat) (b : Bool) : (s.putBit a i b).loader = s.loader := rfl
@[simp] theorem putBit_otp (a i : Nat) (b : Bool) : (s.putBit a i b).otp = s.otp := rfl
@[simp] theorem putBit_staging (a i : Nat) (b : Bool) : (s.putBit a i b).staging = s.staging := rfl
@[simp] theorem putBit_reserve (a i : Nat) (b : Bool) : (s.putBit a i b).reserve = s.reserve := rfl
@[simp] theorem putBit_running (a i : Nat) (b : Bool) : (s.putBit a i b).running = s.running := rfl
@[simp] theorem putBit_ready (a i : Nat) (b : Bool) : (s.putBit a i b).ready = s.ready := rfl
@[simp] theorem putBit_tested (a i : Nat) (b : Bool) : (s.putBit a i b).tested = s.tested := rfl
@[simp] theorem putBit_refs (a i : Nat) (b : Bool) : (s.putBit a i b).refs = s.refs := rfl
@[simp] theorem putBit_sel (a i : Nat) (b : Bool) : (s.putBit a i b).sel = s.sel := rfl
@[simp] theorem putBit_hold (a i : Nat) (b : Bool) : (s.putBit a i b).hold = s.hold := rfl
@[simp] theorem putBit_synth (a i : Nat) (b : Bool) : (s.putBit a i b).synth = s.synth := rfl
@[simp] theorem putBit_loupe (a i : Nat) (b : Bool) : (s.putBit a i b).loupe = s.loupe := rfl
@[simp] theorem putBit_time (a i : Nat) (b : Bool) : (s.putBit a i b).time = s.time := rfl
@[simp] theorem putBit_gnss (a i : Nat) (b : Bool) : (s.putBit a i b).gnss = s.gnss := rfl
@[simp] theorem putBit_line (a i : Nat) (b : Bool) : (s.putBit a i b).line = s.line := rfl
@[simp] theorem putBit_queue (a i : Nat) (b : Bool) : (s.putBit a i b).queue = s.queue := rfl
@[simp] theorem putBit_ptp (a i : Nat) (b : Bool) : (s.putBit a i b).ptp = s.ptp := rfl
@[simp] theorem putBit_nts (a i : Nat) (b : Bool) : (s.putBit a i b).nts = s.nts := rfl
@[simp] theorem putBit_keys (a i : Nat) (b : Bool) : (s.putBit a i b).keys = s.keys := rfl
@[simp] theorem putBit_audio (a i : Nat) (b : Bool) : (s.putBit a i b).audio = s.audio := rfl
@[simp] theorem putBit_store (a i : Nat) (b : Bool) : (s.putBit a i b).store = s.store := rfl
@[simp] theorem putBit_facet (a i : Nat) (b : Bool) : (s.putBit a i b).facet = s.facet := rfl
@[simp] theorem putBit_pair (a i : Nat) (b : Bool) : (s.putBit a i b).pair = s.pair := rfl
@[simp] theorem putBit_chain (a i : Nat) (b : Bool) : (s.putBit a i b).chain = s.chain := rfl
@[simp] theorem putBit_age (a i : Nat) (b : Bool) : (s.putBit a i b).age = s.age := rfl
@[simp] theorem putBit_dram (a i : Nat) (b : Bool) : (s.putBit a i b).dram = s.dram := rfl
@[simp] theorem putBit_tapIr (a i : Nat) (b : Bool) : (s.putBit a i b).tapIr = s.tapIr := rfl
@[simp] theorem putBit_pending (a i : Nat) (b : Bool) : (s.putBit a i b).pending = s.pending := rfl

/-! ### drawn -/

@[simp] theorem drawn_regs : (s.drawn).regs = s.regs := rfl
@[simp] theorem drawn_sent : (s.drawn).sent = s.sent := rfl
@[simp] theorem drawn_edges : (s.drawn).edges = s.edges := rfl
@[simp] theorem drawn_edgeRem : (s.drawn).edgeRem = s.edgeRem := rfl
@[simp] theorem drawn_fault : (s.drawn).fault = s.fault := rfl
@[simp] theorem drawn_intc : (s.drawn).intc = s.intc := rfl
@[simp] theorem drawn_host : (s.drawn).host = s.host := rfl
@[simp] theorem drawn_pins : (s.drawn).pins = s.pins := rfl
@[simp] theorem drawn_loader : (s.drawn).loader = s.loader := rfl
@[simp] theorem drawn_otp : (s.drawn).otp = s.otp := rfl
@[simp] theorem drawn_staging : (s.drawn).staging = s.staging := rfl
@[simp] theorem drawn_reserve : (s.drawn).reserve = s.reserve := rfl
@[simp] theorem drawn_running : (s.drawn).running = s.running := rfl
@[simp] theorem drawn_ready : (s.drawn).ready = s.ready := rfl
@[simp] theorem drawn_tested : (s.drawn).tested = s.tested := rfl
@[simp] theorem drawn_refs : (s.drawn).refs = s.refs := rfl
@[simp] theorem drawn_sel : (s.drawn).sel = s.sel := rfl
@[simp] theorem drawn_hold : (s.drawn).hold = s.hold := rfl
@[simp] theorem drawn_synth : (s.drawn).synth = s.synth := rfl
@[simp] theorem drawn_loupe : (s.drawn).loupe = s.loupe := rfl
@[simp] theorem drawn_time : (s.drawn).time = s.time := rfl
@[simp] theorem drawn_gnss : (s.drawn).gnss = s.gnss := rfl
@[simp] theorem drawn_line : (s.drawn).line = s.line := rfl
@[simp] theorem drawn_queue : (s.drawn).queue = s.queue := rfl
@[simp] theorem drawn_ptp : (s.drawn).ptp = s.ptp := rfl
@[simp] theorem drawn_nts : (s.drawn).nts = s.nts := rfl
@[simp] theorem drawn_keys : (s.drawn).keys = s.keys := rfl
@[simp] theorem drawn_audio : (s.drawn).audio = s.audio := rfl
@[simp] theorem drawn_store : (s.drawn).store = s.store := rfl
@[simp] theorem drawn_facet : (s.drawn).facet = s.facet := rfl
@[simp] theorem drawn_pair : (s.drawn).pair = s.pair := rfl
@[simp] theorem drawn_chain : (s.drawn).chain = s.chain := rfl
@[simp] theorem drawn_age : (s.drawn).age = s.age := rfl
@[simp] theorem drawn_dram : (s.drawn).dram = s.dram := rfl
@[simp] theorem drawn_tapIr : (s.drawn).tapIr = s.tapIr := rfl
@[simp] theorem drawn_pending : (s.drawn).pending = s.pending := rfl

/-! ### send -/

@[simp] theorem send_regs (o : Output) : (s.send o).regs = s.regs := rfl
@[simp] theorem send_free (o : Output) : (s.send o).free = s.free := rfl
@[simp] theorem send_edges (o : Output) : (s.send o).edges = s.edges := rfl
@[simp] theorem send_edgeRem (o : Output) : (s.send o).edgeRem = s.edgeRem := rfl
@[simp] theorem send_fault (o : Output) : (s.send o).fault = s.fault := rfl
@[simp] theorem send_intc (o : Output) : (s.send o).intc = s.intc := rfl
@[simp] theorem send_host (o : Output) : (s.send o).host = s.host := rfl
@[simp] theorem send_pins (o : Output) : (s.send o).pins = s.pins := rfl
@[simp] theorem send_loader (o : Output) : (s.send o).loader = s.loader := rfl
@[simp] theorem send_otp (o : Output) : (s.send o).otp = s.otp := rfl
@[simp] theorem send_staging (o : Output) : (s.send o).staging = s.staging := rfl
@[simp] theorem send_reserve (o : Output) : (s.send o).reserve = s.reserve := rfl
@[simp] theorem send_running (o : Output) : (s.send o).running = s.running := rfl
@[simp] theorem send_ready (o : Output) : (s.send o).ready = s.ready := rfl
@[simp] theorem send_tested (o : Output) : (s.send o).tested = s.tested := rfl
@[simp] theorem send_refs (o : Output) : (s.send o).refs = s.refs := rfl
@[simp] theorem send_sel (o : Output) : (s.send o).sel = s.sel := rfl
@[simp] theorem send_hold (o : Output) : (s.send o).hold = s.hold := rfl
@[simp] theorem send_synth (o : Output) : (s.send o).synth = s.synth := rfl
@[simp] theorem send_loupe (o : Output) : (s.send o).loupe = s.loupe := rfl
@[simp] theorem send_time (o : Output) : (s.send o).time = s.time := rfl
@[simp] theorem send_gnss (o : Output) : (s.send o).gnss = s.gnss := rfl
@[simp] theorem send_line (o : Output) : (s.send o).line = s.line := rfl
@[simp] theorem send_queue (o : Output) : (s.send o).queue = s.queue := rfl
@[simp] theorem send_ptp (o : Output) : (s.send o).ptp = s.ptp := rfl
@[simp] theorem send_nts (o : Output) : (s.send o).nts = s.nts := rfl
@[simp] theorem send_keys (o : Output) : (s.send o).keys = s.keys := rfl
@[simp] theorem send_audio (o : Output) : (s.send o).audio = s.audio := rfl
@[simp] theorem send_store (o : Output) : (s.send o).store = s.store := rfl
@[simp] theorem send_facet (o : Output) : (s.send o).facet = s.facet := rfl
@[simp] theorem send_pair (o : Output) : (s.send o).pair = s.pair := rfl
@[simp] theorem send_chain (o : Output) : (s.send o).chain = s.chain := rfl
@[simp] theorem send_age (o : Output) : (s.send o).age = s.age := rfl
@[simp] theorem send_dram (o : Output) : (s.send o).dram = s.dram := rfl
@[simp] theorem send_tapIr (o : Output) : (s.send o).tapIr = s.tapIr := rfl
@[simp] theorem send_pending (o : Output) : (s.send o).pending = s.pending := rfl

/-! ### raiseFault -/

@[simp] theorem raiseFault_regs (n d : Nat) : (s.raiseFault n d).regs = s.regs := rfl
@[simp] theorem raiseFault_sent (n d : Nat) : (s.raiseFault n d).sent = s.sent := rfl
@[simp] theorem raiseFault_free (n d : Nat) : (s.raiseFault n d).free = s.free := rfl
@[simp] theorem raiseFault_edges (n d : Nat) : (s.raiseFault n d).edges = s.edges := rfl
@[simp] theorem raiseFault_edgeRem (n d : Nat) : (s.raiseFault n d).edgeRem = s.edgeRem := rfl
@[simp] theorem raiseFault_intc (n d : Nat) : (s.raiseFault n d).intc = s.intc := rfl
@[simp] theorem raiseFault_host (n d : Nat) : (s.raiseFault n d).host = s.host := rfl
@[simp] theorem raiseFault_pins (n d : Nat) : (s.raiseFault n d).pins = s.pins := rfl
@[simp] theorem raiseFault_loader (n d : Nat) : (s.raiseFault n d).loader = s.loader := rfl
@[simp] theorem raiseFault_otp (n d : Nat) : (s.raiseFault n d).otp = s.otp := rfl
@[simp] theorem raiseFault_staging (n d : Nat) : (s.raiseFault n d).staging = s.staging := rfl
@[simp] theorem raiseFault_reserve (n d : Nat) : (s.raiseFault n d).reserve = s.reserve := rfl
@[simp] theorem raiseFault_running (n d : Nat) : (s.raiseFault n d).running = s.running := rfl
@[simp] theorem raiseFault_ready (n d : Nat) : (s.raiseFault n d).ready = s.ready := rfl
@[simp] theorem raiseFault_tested (n d : Nat) : (s.raiseFault n d).tested = s.tested := rfl
@[simp] theorem raiseFault_refs (n d : Nat) : (s.raiseFault n d).refs = s.refs := rfl
@[simp] theorem raiseFault_sel (n d : Nat) : (s.raiseFault n d).sel = s.sel := rfl
@[simp] theorem raiseFault_hold (n d : Nat) : (s.raiseFault n d).hold = s.hold := rfl
@[simp] theorem raiseFault_synth (n d : Nat) : (s.raiseFault n d).synth = s.synth := rfl
@[simp] theorem raiseFault_loupe (n d : Nat) : (s.raiseFault n d).loupe = s.loupe := rfl
@[simp] theorem raiseFault_time (n d : Nat) : (s.raiseFault n d).time = s.time := rfl
@[simp] theorem raiseFault_gnss (n d : Nat) : (s.raiseFault n d).gnss = s.gnss := rfl
@[simp] theorem raiseFault_line (n d : Nat) : (s.raiseFault n d).line = s.line := rfl
@[simp] theorem raiseFault_queue (n d : Nat) : (s.raiseFault n d).queue = s.queue := rfl
@[simp] theorem raiseFault_ptp (n d : Nat) : (s.raiseFault n d).ptp = s.ptp := rfl
@[simp] theorem raiseFault_nts (n d : Nat) : (s.raiseFault n d).nts = s.nts := rfl
@[simp] theorem raiseFault_keys (n d : Nat) : (s.raiseFault n d).keys = s.keys := rfl
@[simp] theorem raiseFault_audio (n d : Nat) : (s.raiseFault n d).audio = s.audio := rfl
@[simp] theorem raiseFault_store (n d : Nat) : (s.raiseFault n d).store = s.store := rfl
@[simp] theorem raiseFault_facet (n d : Nat) : (s.raiseFault n d).facet = s.facet := rfl
@[simp] theorem raiseFault_pair (n d : Nat) : (s.raiseFault n d).pair = s.pair := rfl
@[simp] theorem raiseFault_chain (n d : Nat) : (s.raiseFault n d).chain = s.chain := rfl
@[simp] theorem raiseFault_age (n d : Nat) : (s.raiseFault n d).age = s.age := rfl
@[simp] theorem raiseFault_dram (n d : Nat) : (s.raiseFault n d).dram = s.dram := rfl
@[simp] theorem raiseFault_tapIr (n d : Nat) : (s.raiseFault n d).tapIr = s.tapIr := rfl
@[simp] theorem raiseFault_pending (n d : Nat) : (s.raiseFault n d).pending = s.pending := rfl

/-! ### raiseIrq -/

@[simp] theorem raiseIrq_regs (n : Nat) : (s.raiseIrq n).regs = s.regs := rfl
@[simp] theorem raiseIrq_sent (n : Nat) : (s.raiseIrq n).sent = s.sent := rfl
@[simp] theorem raiseIrq_free (n : Nat) : (s.raiseIrq n).free = s.free := rfl
@[simp] theorem raiseIrq_edges (n : Nat) : (s.raiseIrq n).edges = s.edges := rfl
@[simp] theorem raiseIrq_edgeRem (n : Nat) : (s.raiseIrq n).edgeRem = s.edgeRem := rfl
@[simp] theorem raiseIrq_fault (n : Nat) : (s.raiseIrq n).fault = s.fault := rfl
@[simp] theorem raiseIrq_host (n : Nat) : (s.raiseIrq n).host = s.host := rfl
@[simp] theorem raiseIrq_pins (n : Nat) : (s.raiseIrq n).pins = s.pins := rfl
@[simp] theorem raiseIrq_loader (n : Nat) : (s.raiseIrq n).loader = s.loader := rfl
@[simp] theorem raiseIrq_otp (n : Nat) : (s.raiseIrq n).otp = s.otp := rfl
@[simp] theorem raiseIrq_staging (n : Nat) : (s.raiseIrq n).staging = s.staging := rfl
@[simp] theorem raiseIrq_reserve (n : Nat) : (s.raiseIrq n).reserve = s.reserve := rfl
@[simp] theorem raiseIrq_running (n : Nat) : (s.raiseIrq n).running = s.running := rfl
@[simp] theorem raiseIrq_ready (n : Nat) : (s.raiseIrq n).ready = s.ready := rfl
@[simp] theorem raiseIrq_tested (n : Nat) : (s.raiseIrq n).tested = s.tested := rfl
@[simp] theorem raiseIrq_refs (n : Nat) : (s.raiseIrq n).refs = s.refs := rfl
@[simp] theorem raiseIrq_sel (n : Nat) : (s.raiseIrq n).sel = s.sel := rfl
@[simp] theorem raiseIrq_hold (n : Nat) : (s.raiseIrq n).hold = s.hold := rfl
@[simp] theorem raiseIrq_synth (n : Nat) : (s.raiseIrq n).synth = s.synth := rfl
@[simp] theorem raiseIrq_loupe (n : Nat) : (s.raiseIrq n).loupe = s.loupe := rfl
@[simp] theorem raiseIrq_time (n : Nat) : (s.raiseIrq n).time = s.time := rfl
@[simp] theorem raiseIrq_gnss (n : Nat) : (s.raiseIrq n).gnss = s.gnss := rfl
@[simp] theorem raiseIrq_line (n : Nat) : (s.raiseIrq n).line = s.line := rfl
@[simp] theorem raiseIrq_queue (n : Nat) : (s.raiseIrq n).queue = s.queue := rfl
@[simp] theorem raiseIrq_ptp (n : Nat) : (s.raiseIrq n).ptp = s.ptp := rfl
@[simp] theorem raiseIrq_nts (n : Nat) : (s.raiseIrq n).nts = s.nts := rfl
@[simp] theorem raiseIrq_keys (n : Nat) : (s.raiseIrq n).keys = s.keys := rfl
@[simp] theorem raiseIrq_audio (n : Nat) : (s.raiseIrq n).audio = s.audio := rfl
@[simp] theorem raiseIrq_store (n : Nat) : (s.raiseIrq n).store = s.store := rfl
@[simp] theorem raiseIrq_facet (n : Nat) : (s.raiseIrq n).facet = s.facet := rfl
@[simp] theorem raiseIrq_pair (n : Nat) : (s.raiseIrq n).pair = s.pair := rfl
@[simp] theorem raiseIrq_chain (n : Nat) : (s.raiseIrq n).chain = s.chain := rfl
@[simp] theorem raiseIrq_age (n : Nat) : (s.raiseIrq n).age = s.age := rfl
@[simp] theorem raiseIrq_dram (n : Nat) : (s.raiseIrq n).dram = s.dram := rfl
@[simp] theorem raiseIrq_tapIr (n : Nat) : (s.raiseIrq n).tapIr = s.tapIr := rfl
@[simp] theorem raiseIrq_pending (n : Nat) : (s.raiseIrq n).pending = s.pending := rfl

/-! ### showPins -/

@[simp] theorem showPins_regs : (s.showPins).regs = s.regs := rfl
@[simp] theorem showPins_sent : (s.showPins).sent = s.sent := rfl
@[simp] theorem showPins_free : (s.showPins).free = s.free := rfl
@[simp] theorem showPins_edges : (s.showPins).edges = s.edges := rfl
@[simp] theorem showPins_edgeRem : (s.showPins).edgeRem = s.edgeRem := rfl
@[simp] theorem showPins_fault : (s.showPins).fault = s.fault := rfl
@[simp] theorem showPins_intc : (s.showPins).intc = s.intc := rfl
@[simp] theorem showPins_host : (s.showPins).host = s.host := rfl
@[simp] theorem showPins_loader : (s.showPins).loader = s.loader := rfl
@[simp] theorem showPins_otp : (s.showPins).otp = s.otp := rfl
@[simp] theorem showPins_staging : (s.showPins).staging = s.staging := rfl
@[simp] theorem showPins_reserve : (s.showPins).reserve = s.reserve := rfl
@[simp] theorem showPins_running : (s.showPins).running = s.running := rfl
@[simp] theorem showPins_ready : (s.showPins).ready = s.ready := rfl
@[simp] theorem showPins_tested : (s.showPins).tested = s.tested := rfl
@[simp] theorem showPins_refs : (s.showPins).refs = s.refs := rfl
@[simp] theorem showPins_sel : (s.showPins).sel = s.sel := rfl
@[simp] theorem showPins_hold : (s.showPins).hold = s.hold := rfl
@[simp] theorem showPins_synth : (s.showPins).synth = s.synth := rfl
@[simp] theorem showPins_loupe : (s.showPins).loupe = s.loupe := rfl
@[simp] theorem showPins_time : (s.showPins).time = s.time := rfl
@[simp] theorem showPins_gnss : (s.showPins).gnss = s.gnss := rfl
@[simp] theorem showPins_line : (s.showPins).line = s.line := rfl
@[simp] theorem showPins_queue : (s.showPins).queue = s.queue := rfl
@[simp] theorem showPins_ptp : (s.showPins).ptp = s.ptp := rfl
@[simp] theorem showPins_nts : (s.showPins).nts = s.nts := rfl
@[simp] theorem showPins_keys : (s.showPins).keys = s.keys := rfl
@[simp] theorem showPins_audio : (s.showPins).audio = s.audio := rfl
@[simp] theorem showPins_store : (s.showPins).store = s.store := rfl
@[simp] theorem showPins_facet : (s.showPins).facet = s.facet := rfl
@[simp] theorem showPins_pair : (s.showPins).pair = s.pair := rfl
@[simp] theorem showPins_chain : (s.showPins).chain = s.chain := rfl
@[simp] theorem showPins_age : (s.showPins).age = s.age := rfl
@[simp] theorem showPins_dram : (s.showPins).dram = s.dram := rfl
@[simp] theorem showPins_tapIr : (s.showPins).tapIr = s.tapIr := rfl
@[simp] theorem showPins_pending : (s.showPins).pending = s.pending := rfl

@[simp] theorem drawn_free : s.drawn.free = s.free + 1 := rfl
@[simp] theorem send_sent (o : Output) : (s.send o).sent = s.sent ++ [o] := rfl
@[simp] theorem raiseIrq_raised (n : Nat) : (s.raiseIrq n).intc.raised = s.intc.raised ++ [n] := rfl
@[simp] theorem raiseFault_strobes (n d : Nat) : (s.raiseFault n d).fault.strobes = s.fault.strobes ++ [(n, d, false)] := rfl
@[simp] theorem showPins_pins : s.showPins.pins = s.pinsNow := rfl

end Sys2Proof.Machine.State
end

