-- ==== Sys2Proof/Laws/Ops.lean ====
section
/-!
SUPPORT. One law per shared operation: reads of registers and fields after each kind of write, what strobes, events and
pins do, and the FIFO operations.
-/

namespace Sys2Proof.Machine

namespace State

variable (s : State)

/-! ### Registers -/

theorem rd_wr (a b : Nat) (v : Word) : (s.wr a v).rd b = if b = a then v else s.rd b := by
  unfold rd wr
  split
  · next h => subst h; simp
  · next h => simp [SMap.get_set_other _ _ _ _ h]

@[simp] theorem rd_wr_same (a : Nat) (v : Word) : (s.wr a v).rd a = v := by simp [rd_wr]

theorem rd_wr_other {a b : Nat} (v : Word) (h : b ≠ a) : (s.wr a v).rd b = s.rd b := by simp [rd_wr, h]

theorem rd_wrn (a b v : Nat) : (s.wrn a v).rd b = if b = a then BitVec.ofNat 32 v else s.rd b := rd_wr s a b _

theorem rdn_wr (a b : Nat) (v : Word) : (s.wr a v).rdn b = if b = a then v.toNat else s.rdn b := by
  unfold rdn; rw [rd_wr]; split <;> rfl

theorem rdn_wrn (a b v : Nat) : (s.wrn a v).rdn b = if b = a then v % 2 ^ 32 else s.rdn b := by
  unfold rdn; rw [rd_wrn]; split
  · rw [BitVec.toNat_ofNat]
  · rfl

theorem rdn_lt (a : Nat) : s.rdn a < 2 ^ 32 := (s.rd a).isLt

theorem rd_put_other {a b : Nat} (f : Bits) (v : Nat) (h : b ≠ a) : (s.put a f v).rd b = s.rd b := by
  unfold put; rw [rd_wrn, if_neg h]

theorem rdn_put_other {a b : Nat} (f : Bits) (v : Nat) (h : b ≠ a) : (s.put a f v).rdn b = s.rdn b := by
  unfold rdn; rw [rd_put_other s f v h]

/-- A number with the field at `lo` of `len` bits replaced, split at the field. -/
theorem put_split (w lo len x : Nat) :
    w - (w / 2 ^ lo % 2 ^ len) * 2 ^ lo + x * 2 ^ lo = 2 ^ lo * (2 ^ len * (w / 2 ^ lo / 2 ^ len) + x) + w % 2 ^ lo := by
  have h1 := Nat.div_add_mod w (2 ^ lo)
  have h2 := Nat.div_add_mod (w / 2 ^ lo) (2 ^ len)
  generalize w / 2 ^ lo / 2 ^ len = h at *
  generalize w / 2 ^ lo % 2 ^ len = g at *
  generalize w % 2 ^ lo = r at *
  generalize 2 ^ lo = P at *
  generalize 2 ^ len = L at *
  rw [← h2] at h1
  have e : w - g * P = P * (L * h) + r := by rw [← h1, Nat.mul_add, Nat.mul_comm P g]; omega
  rw [e, Nat.mul_add, Nat.mul_comm x P]; omega

/-- The bits of a register after a field write: the field's bits are the value's, the others stand. -/
theorem testBit_put (a : Nat) (f : Bits) (v i : Nat) (hf : f.lo + f.len ≤ 32) :
    ((s.put a f v).rdn a).testBit i =
      if f.lo ≤ i ∧ i < f.lo + f.len then v.testBit (i - f.lo) else (s.rdn a).testBit i := by
  have hw := s.rdn_lt a
  obtain ⟨lo, len⟩ := f
  simp only at hf ⊢
  unfold put
  simp only []
  rw [rdn_wrn, if_pos rfl, put_split]
  have hr : s.rdn a % 2 ^ lo < 2 ^ lo := Nat.mod_lt _ (Nat.two_pow_pos lo)
  have hx : v % 2 ^ len < 2 ^ len := Nat.mod_lt _ (Nat.two_pow_pos len)
  rw [Nat.testBit_mod_two_pow]
  by_cases hi : i < 32
  · simp only [hi, decide_true, Bool.true_and]
    rw [Nat.testBit_two_pow_mul_add _ hr]
    by_cases h1 : i < lo
    · have : ¬ (lo ≤ i ∧ i < lo + len) := by omega
      simp [h1, this, Nat.testBit_mod_two_pow]
    · simp only [h1, if_false]
      rw [Nat.testBit_two_pow_mul_add _ hx]
      by_cases h2 : i - lo < len
      · have : lo ≤ i ∧ i < lo + len := by omega
        simp [h2, this, Nat.testBit_mod_two_pow]
      · have : ¬ (lo ≤ i ∧ i < lo + len) := by omega
        simp only [h2, this, if_false]
        rw [Nat.testBit_div_two_pow, Nat.testBit_div_two_pow]
        congr 1; omega
  · have hn : ¬ (lo ≤ i ∧ i < lo + len) := by omega
    have : (s.rdn a).testBit i = false := Nat.testBit_lt_two_pow (Nat.lt_of_lt_of_le hw (Nat.pow_le_pow_right (by omega) (by omega)))
    simp [hi, hn, this]

/-- The bits of a field. -/
theorem testBit_fld (a : Nat) (f : Bits) (i : Nat) : (s.fld a f).testBit i = (decide (i < f.len) && (s.rdn a).testBit (i + f.lo)) := by
  unfold fld
  rw [Nat.testBit_mod_two_pow, Nat.testBit_div_two_pow]

/-- A field reads what was written to it, cut to its width. -/
theorem fld_put_same (a : Nat) (f : Bits) (v : Nat) (hf : f.lo + f.len ≤ 32) : (s.put a f v).fld a f = v % 2 ^ f.len := by
  apply Nat.eq_of_testBit_eq
  intro i
  rw [testBit_fld, Nat.testBit_mod_two_pow]
  by_cases h : i < f.len
  · rw [testBit_put s a f v _ hf, if_pos (by omega)]; simp [h]
  · simp [h]

/-- A field write leaves a field that shares no bit with it. -/
theorem fld_put_disjoint (a : Nat) (f g : Bits) (v : Nat) (hf : f.lo + f.len ≤ 32)
    (h : g.lo + g.len ≤ f.lo ∨ f.lo + f.len ≤ g.lo) : (s.put a f v).fld a g = s.fld a g := by
  apply Nat.eq_of_testBit_eq
  intro i
  rw [testBit_fld, testBit_fld]
  by_cases hi : i < g.len
  · rw [testBit_put s a f v _ hf, if_neg (by omega)]
  · simp [hi]

theorem fld_put_other {a b : Nat} (f g : Bits) (v : Nat) (h : b ≠ a) : (s.put a f v).fld b g = s.fld b g := by
  unfold fld; rw [rdn_put_other s f v h]

theorem bit_put_other {a b : Nat} (f : Bits) (v i : Nat) (h : b ≠ a) : (s.put a f v).bit b i = s.bit b i := by
  unfold bit; rw [rdn_put_other s f v h]

theorem bit_putBit (a i : Nat) (b : Bool) (hi : i < 32) : (s.putBit a i b).bit a i = b := by
  unfold bit putBit
  rw [testBit_put s a ⟨i, 1⟩ _ i (by show i + 1 ≤ 32; omega), if_pos (by simp)]
  cases b <;> simp

theorem bit_putBit_ne {a i j : Nat} (b : Bool) (hi : i < 32) (h : j ≠ i) : (s.putBit a i b).bit a j = s.bit a j := by
  unfold bit putBit
  rw [testBit_put s a ⟨i, 1⟩ _ j (by show i + 1 ≤ 32; omega), if_neg (by simp; omega)]

theorem fld_lt (a : Nat) (f : Bits) : s.fld a f < 2 ^ f.len := Nat.mod_lt _ (Nat.two_pow_pos _)

/-- A 64-bit pair reads back what was written, modulo 2^64. -/
theorem rd64_wr64 (a v : Nat) : (s.wr64 a v).rd64 a = v % 2 ^ 64 := by
  unfold rd64 wr64
  rw [rdn_wrn, rdn_wrn, if_neg (by omega), if_pos rfl, rdn_wrn, if_pos rfl]
  omega

theorem rd_wr64_other {a b : Nat} (v : Nat) (h : b ≠ a) (h' : b ≠ a + 4) : (s.wr64 a v).rd b = s.rd b := by
  unfold wr64; rw [rd_wrn, if_neg h', rd_wrn, if_neg h]

/-! ### Reads through the other updates -/

@[simp] theorem rd_drawn (a : Nat) : s.drawn.rd a = s.rd a := rfl
@[simp] theorem rd_send (o : Output) (a : Nat) : (s.send o).rd a = s.rd a := rfl
@[simp] theorem rd_raiseFault (n d a : Nat) : (s.raiseFault n d).rd a = s.rd a := rfl
@[simp] theorem rd_raiseIrq (n a : Nat) : (s.raiseIrq n).rd a = s.rd a := rfl
@[simp] theorem rd_showPins (a : Nat) : s.showPins.rd a = s.rd a := rfl
@[simp] theorem rdn_showPins (a : Nat) : s.showPins.rdn a = s.rdn a := rfl
@[simp] theorem fld_showPins (a : Nat) (f : Bits) : s.showPins.fld a f = s.fld a f := rfl
@[simp] theorem bit_showPins (a i : Nat) : s.showPins.bit a i = s.bit a i := rfl
@[simp] theorem pinsNow_showPins : s.showPins.pinsNow = s.pinsNow := rfl

/-- A run of words changes registers only. -/
theorem wrRun_only (a : Nat) (l : List Word) : s.wrRun a l = { s with regs := (s.wrRun a l).regs } := by
  induction l generalizing s a with
  | nil => rfl
  | cons v vs ih => rw [wrRun, ih]; rfl

/-- A run of words leaves every register outside it. -/
theorem rd_wrRun_other (a b : Nat) (l : List Word) (h : b < a ∨ a + 4 * l.length ≤ b) : (s.wrRun a l).rd b = s.rd b := by
  induction l generalizing s a with
  | nil => rfl
  | cons v vs ih =>
    simp only [List.length_cons] at h
    rw [wrRun, ih (s.wr a v) (a + 4) (by omega), rd_wr_other s v (by omega)]

/-- The words of a run, each at its register. -/
theorem rd_wrRun (a i : Nat) (l : List Word) (h : i < l.length) : (s.wrRun a l).rd (a + 4 * i) = l[i] := by
  induction l generalizing s a i with
  | nil => simp at h
  | cons v vs ih =>
    rw [wrRun]
    cases i with
    | zero => simp [rd_wrRun_other _ (a + 4) a vs (by omega)]
    | succ i =>
      have := ih (s.wr a v) (a + 4) i (by simpa using h)
      simpa [Nat.mul_add, Nat.add_comm, Nat.add_left_comm, Nat.add_assoc] using this

end State

/-! ### Results -/

/-- A completed command answers the state with its pins driven. -/
theorem done_eq (s t : State) : done s = .next t ↔ t = s.showPins := by
  constructor
  · intro h; cases h; rfl
  · intro h; rw [h]

/-- The pins of a completed command are those its state calls for. -/
theorem done_pins {s t : State} (h : done s = .next t) : t.pins = t.pinsNow := by
  rw [(done_eq s t).1 h]; rfl

@[simp] theorem after_done (s u : State) : Res.after (done s) u = s.showPins := rfl

/-! ### FIFOs -/

/-- An entry offered to a FIFO with room is kept last. -/
theorem Fifo.push_room (depth : Nat) (q : Fifo) (w : Word) (ws : List Word) (h : q.entries.length < depth) :
    Fifo.push depth q (w :: ws) =
      ({ q with entries := q.entries ++ [Fifo.stamp q.seq q.ovr w :: ws], seq := (q.seq + 1) % 65536, ovr := false }, false) := by
  simp [Fifo.push, h]

/-- An entry offered to a full FIFO is lost and counted, and the next one kept carries OVERRUN. -/
theorem Fifo.push_full (depth : Nat) (q : Fifo) (e : List Word) (h : ¬ q.entries.length < depth) :
    Fifo.push depth q e = ({ q with seq := (q.seq + 1) % 65536, ovr := true, lost := min (q.lost + 1) 65535 }, true) := by
  simp [Fifo.push, h]

/-- Offering an entry never makes a FIFO longer than its depth. -/
theorem Fifo.push_length (depth : Nat) (q : Fifo) (e : List Word) (h : q.entries.length ≤ depth) :
    (Fifo.push depth q e).1.entries.length ≤ depth := by
  unfold Fifo.push
  split <;> simp <;> omega

end Sys2Proof.Machine
end

