-- ==== Sys2Proof/Laws/Block.lean ====
section
/-!
SUPPORT. What a change of one block's part of State leaves alone: one lemma per other field for each block, the reads of registers through it, and
for each keyed part (a reference, a lane, a port) the fields of State that every block shares.
-/

namespace Sys2Proof.Machine.State

variable (s : State)

/-! ### setFault -/

@[simp] theorem setFault_fault (f : FaultSt → FaultSt) : (s.setFault f).fault = f s.fault := rfl
@[simp] theorem setFault_regs (f : FaultSt → FaultSt) : (s.setFault f).regs = s.regs := rfl
@[simp] theorem setFault_sent (f : FaultSt → FaultSt) : (s.setFault f).sent = s.sent := rfl
@[simp] theorem setFault_free (f : FaultSt → FaultSt) : (s.setFault f).free = s.free := rfl
@[simp] theorem setFault_edges (f : FaultSt → FaultSt) : (s.setFault f).edges = s.edges := rfl
@[simp] theorem setFault_edgeRem (f : FaultSt → FaultSt) : (s.setFault f).edgeRem = s.edgeRem := rfl
@[simp] theorem setFault_intc (f : FaultSt → FaultSt) : (s.setFault f).intc = s.intc := rfl
@[simp] theorem setFault_host (f : FaultSt → FaultSt) : (s.setFault f).host = s.host := rfl
@[simp] theorem setFault_pins (f : FaultSt → FaultSt) : (s.setFault f).pins = s.pins := rfl
@[simp] theorem setFault_loader (f : FaultSt → FaultSt) : (s.setFault f).loader = s.loader := rfl
@[simp] theorem setFault_otp (f : FaultSt → FaultSt) : (s.setFault f).otp = s.otp := rfl
@[simp] theorem setFault_staging (f : FaultSt → FaultSt) : (s.setFault f).staging = s.staging := rfl
@[simp] theorem setFault_reserve (f : FaultSt → FaultSt) : (s.setFault f).reserve = s.reserve := rfl
@[simp] theorem setFault_running (f : FaultSt → FaultSt) : (s.setFault f).running = s.running := rfl
@[simp] theorem setFault_ready (f : FaultSt → FaultSt) : (s.setFault f).ready = s.ready := rfl
@[simp] theorem setFault_tested (f : FaultSt → FaultSt) : (s.setFault f).tested = s.tested := rfl
@[simp] theorem setFault_refs (f : FaultSt → FaultSt) : (s.setFault f).refs = s.refs := rfl
@[simp] theorem setFault_sel (f : FaultSt → FaultSt) : (s.setFault f).sel = s.sel := rfl
@[simp] theorem setFault_hold (f : FaultSt → FaultSt) : (s.setFault f).hold = s.hold := rfl
@[simp] theorem setFault_synth (f : FaultSt → FaultSt) : (s.setFault f).synth = s.synth := rfl
@[simp] theorem setFault_loupe (f : FaultSt → FaultSt) : (s.setFault f).loupe = s.loupe := rfl
@[simp] theorem setFault_time (f : FaultSt → FaultSt) : (s.setFault f).time = s.time := rfl
@[simp] theorem setFault_gnss (f : FaultSt → FaultSt) : (s.setFault f).gnss = s.gnss := rfl
@[simp] theorem setFault_line (f : FaultSt → FaultSt) : (s.setFault f).line = s.line := rfl
@[simp] theorem setFault_queue (f : FaultSt → FaultSt) : (s.setFault f).queue = s.queue := rfl
@[simp] theorem setFault_ptp (f : FaultSt → FaultSt) : (s.setFault f).ptp = s.ptp := rfl
@[simp] theorem setFault_nts (f : FaultSt → FaultSt) : (s.setFault f).nts = s.nts := rfl
@[simp] theorem setFault_keys (f : FaultSt → FaultSt) : (s.setFault f).keys = s.keys := rfl
@[simp] theorem setFault_audio (f : FaultSt → FaultSt) : (s.setFault f).audio = s.audio := rfl
@[simp] theorem setFault_store (f : FaultSt → FaultSt) : (s.setFault f).store = s.store := rfl
@[simp] theorem setFault_facet (f : FaultSt → FaultSt) : (s.setFault f).facet = s.facet := rfl
@[simp] theorem setFault_pair (f : FaultSt → FaultSt) : (s.setFault f).pair = s.pair := rfl
@[simp] theorem setFault_chain (f : FaultSt → FaultSt) : (s.setFault f).chain = s.chain := rfl
@[simp] theorem setFault_age (f : FaultSt → FaultSt) : (s.setFault f).age = s.age := rfl
@[simp] theorem setFault_dram (f : FaultSt → FaultSt) : (s.setFault f).dram = s.dram := rfl
@[simp] theorem setFault_tapIr (f : FaultSt → FaultSt) : (s.setFault f).tapIr = s.tapIr := rfl
@[simp] theorem setFault_pending (f : FaultSt → FaultSt) : (s.setFault f).pending = s.pending := rfl
@[simp] theorem setFault_rd (f : FaultSt → FaultSt) (a : Nat) : (s.setFault f).rd a = s.rd a := rfl
@[simp] theorem setFault_rdn (f : FaultSt → FaultSt) (a : Nat) : (s.setFault f).rdn a = s.rdn a := rfl
@[simp] theorem setFault_fld (f : FaultSt → FaultSt) (a : Nat) (b : Bits) : (s.setFault f).fld a b = s.fld a b := rfl
@[simp] theorem setFault_bit (f : FaultSt → FaultSt) (a b : Nat) : (s.setFault f).bit a b = s.bit a b := rfl
@[simp] theorem setFault_on (f : FaultSt → FaultSt) (a : Nat) (b : Bits) : (s.setFault f).on a b = s.on a b := rfl

/-! ### setIntc -/

@[simp] theorem setIntc_intc (f : IntcSt → IntcSt) : (s.setIntc f).intc = f s.intc := rfl
@[simp] theorem setIntc_regs (f : IntcSt → IntcSt) : (s.setIntc f).regs = s.regs := rfl
@[simp] theorem setIntc_sent (f : IntcSt → IntcSt) : (s.setIntc f).sent = s.sent := rfl
@[simp] theorem setIntc_free (f : IntcSt → IntcSt) : (s.setIntc f).free = s.free := rfl
@[simp] theorem setIntc_edges (f : IntcSt → IntcSt) : (s.setIntc f).edges = s.edges := rfl
@[simp] theorem setIntc_edgeRem (f : IntcSt → IntcSt) : (s.setIntc f).edgeRem = s.edgeRem := rfl
@[simp] theorem setIntc_fault (f : IntcSt → IntcSt) : (s.setIntc f).fault = s.fault := rfl
@[simp] theorem setIntc_host (f : IntcSt → IntcSt) : (s.setIntc f).host = s.host := rfl
@[simp] theorem setIntc_pins (f : IntcSt → IntcSt) : (s.setIntc f).pins = s.pins := rfl
@[simp] theorem setIntc_loader (f : IntcSt → IntcSt) : (s.setIntc f).loader = s.loader := rfl
@[simp] theorem setIntc_otp (f : IntcSt → IntcSt) : (s.setIntc f).otp = s.otp := rfl
@[simp] theorem setIntc_staging (f : IntcSt → IntcSt) : (s.setIntc f).staging = s.staging := rfl
@[simp] theorem setIntc_reserve (f : IntcSt → IntcSt) : (s.setIntc f).reserve = s.reserve := rfl
@[simp] theorem setIntc_running (f : IntcSt → IntcSt) : (s.setIntc f).running = s.running := rfl
@[simp] theorem setIntc_ready (f : IntcSt → IntcSt) : (s.setIntc f).ready = s.ready := rfl
@[simp] theorem setIntc_tested (f : IntcSt → IntcSt) : (s.setIntc f).tested = s.tested := rfl
@[simp] theorem setIntc_refs (f : IntcSt → IntcSt) : (s.setIntc f).refs = s.refs := rfl
@[simp] theorem setIntc_sel (f : IntcSt → IntcSt) : (s.setIntc f).sel = s.sel := rfl
@[simp] theorem setIntc_hold (f : IntcSt → IntcSt) : (s.setIntc f).hold = s.hold := rfl
@[simp] theorem setIntc_synth (f : IntcSt → IntcSt) : (s.setIntc f).synth = s.synth := rfl
@[simp] theorem setIntc_loupe (f : IntcSt → IntcSt) : (s.setIntc f).loupe = s.loupe := rfl
@[simp] theorem setIntc_time (f : IntcSt → IntcSt) : (s.setIntc f).time = s.time := rfl
@[simp] theorem setIntc_gnss (f : IntcSt → IntcSt) : (s.setIntc f).gnss = s.gnss := rfl
@[simp] theorem setIntc_line (f : IntcSt → IntcSt) : (s.setIntc f).line = s.line := rfl
@[simp] theorem setIntc_queue (f : IntcSt → IntcSt) : (s.setIntc f).queue = s.queue := rfl
@[simp] theorem setIntc_ptp (f : IntcSt → IntcSt) : (s.setIntc f).ptp = s.ptp := rfl
@[simp] theorem setIntc_nts (f : IntcSt → IntcSt) : (s.setIntc f).nts = s.nts := rfl
@[simp] theorem setIntc_keys (f : IntcSt → IntcSt) : (s.setIntc f).keys = s.keys := rfl
@[simp] theorem setIntc_audio (f : IntcSt → IntcSt) : (s.setIntc f).audio = s.audio := rfl
@[simp] theorem setIntc_store (f : IntcSt → IntcSt) : (s.setIntc f).store = s.store := rfl
@[simp] theorem setIntc_facet (f : IntcSt → IntcSt) : (s.setIntc f).facet = s.facet := rfl
@[simp] theorem setIntc_pair (f : IntcSt → IntcSt) : (s.setIntc f).pair = s.pair := rfl
@[simp] theorem setIntc_chain (f : IntcSt → IntcSt) : (s.setIntc f).chain = s.chain := rfl
@[simp] theorem setIntc_age (f : IntcSt → IntcSt) : (s.setIntc f).age = s.age := rfl
@[simp] theorem setIntc_dram (f : IntcSt → IntcSt) : (s.setIntc f).dram = s.dram := rfl
@[simp] theorem setIntc_tapIr (f : IntcSt → IntcSt) : (s.setIntc f).tapIr = s.tapIr := rfl
@[simp] theorem setIntc_pending (f : IntcSt → IntcSt) : (s.setIntc f).pending = s.pending := rfl
@[simp] theorem setIntc_rd (f : IntcSt → IntcSt) (a : Nat) : (s.setIntc f).rd a = s.rd a := rfl
@[simp] theorem setIntc_rdn (f : IntcSt → IntcSt) (a : Nat) : (s.setIntc f).rdn a = s.rdn a := rfl
@[simp] theorem setIntc_fld (f : IntcSt → IntcSt) (a : Nat) (b : Bits) : (s.setIntc f).fld a b = s.fld a b := rfl
@[simp] theorem setIntc_bit (f : IntcSt → IntcSt) (a b : Nat) : (s.setIntc f).bit a b = s.bit a b := rfl
@[simp] theorem setIntc_on (f : IntcSt → IntcSt) (a : Nat) (b : Bits) : (s.setIntc f).on a b = s.on a b := rfl

/-! ### setHold -/

@[simp] theorem setHold_hold (f : HoldSt → HoldSt) : (s.setHold f).hold = f s.hold := rfl
@[simp] theorem setHold_regs (f : HoldSt → HoldSt) : (s.setHold f).regs = s.regs := rfl
@[simp] theorem setHold_sent (f : HoldSt → HoldSt) : (s.setHold f).sent = s.sent := rfl
@[simp] theorem setHold_free (f : HoldSt → HoldSt) : (s.setHold f).free = s.free := rfl
@[simp] theorem setHold_edges (f : HoldSt → HoldSt) : (s.setHold f).edges = s.edges := rfl
@[simp] theorem setHold_edgeRem (f : HoldSt → HoldSt) : (s.setHold f).edgeRem = s.edgeRem := rfl
@[simp] theorem setHold_fault (f : HoldSt → HoldSt) : (s.setHold f).fault = s.fault := rfl
@[simp] theorem setHold_intc (f : HoldSt → HoldSt) : (s.setHold f).intc = s.intc := rfl
@[simp] theorem setHold_host (f : HoldSt → HoldSt) : (s.setHold f).host = s.host := rfl
@[simp] theorem setHold_pins (f : HoldSt → HoldSt) : (s.setHold f).pins = s.pins := rfl
@[simp] theorem setHold_loader (f : HoldSt → HoldSt) : (s.setHold f).loader = s.loader := rfl
@[simp] theorem setHold_otp (f : HoldSt → HoldSt) : (s.setHold f).otp = s.otp := rfl
@[simp] theorem setHold_staging (f : HoldSt → HoldSt) : (s.setHold f).staging = s.staging := rfl
@[simp] theorem setHold_reserve (f : HoldSt → HoldSt) : (s.setHold f).reserve = s.reserve := rfl
@[simp] theorem setHold_running (f : HoldSt → HoldSt) : (s.setHold f).running = s.running := rfl
@[simp] theorem setHold_ready (f : HoldSt → HoldSt) : (s.setHold f).ready = s.ready := rfl
@[simp] theorem setHold_tested (f : HoldSt → HoldSt) : (s.setHold f).tested = s.tested := rfl
@[simp] theorem setHold_refs (f : HoldSt → HoldSt) : (s.setHold f).refs = s.refs := rfl
@[simp] theorem setHold_sel (f : HoldSt → HoldSt) : (s.setHold f).sel = s.sel := rfl
@[simp] theorem setHold_synth (f : HoldSt → HoldSt) : (s.setHold f).synth = s.synth := rfl
@[simp] theorem setHold_loupe (f : HoldSt → HoldSt) : (s.setHold f).loupe = s.loupe := rfl
@[simp] theorem setHold_time (f : HoldSt → HoldSt) : (s.setHold f).time = s.time := rfl
@[simp] theorem setHold_gnss (f : HoldSt → HoldSt) : (s.setHold f).gnss = s.gnss := rfl
@[simp] theorem setHold_line (f : HoldSt → HoldSt) : (s.setHold f).line = s.line := rfl
@[simp] theorem setHold_queue (f : HoldSt → HoldSt) : (s.setHold f).queue = s.queue := rfl
@[simp] theorem setHold_ptp (f : HoldSt → HoldSt) : (s.setHold f).ptp = s.ptp := rfl
@[simp] theorem setHold_nts (f : HoldSt → HoldSt) : (s.setHold f).nts = s.nts := rfl
@[simp] theorem setHold_keys (f : HoldSt → HoldSt) : (s.setHold f).keys = s.keys := rfl
@[simp] theorem setHold_audio (f : HoldSt → HoldSt) : (s.setHold f).audio = s.audio := rfl
@[simp] theorem setHold_store (f : HoldSt → HoldSt) : (s.setHold f).store = s.store := rfl
@[simp] theorem setHold_facet (f : HoldSt → HoldSt) : (s.setHold f).facet = s.facet := rfl
@[simp] theorem setHold_pair (f : HoldSt → HoldSt) : (s.setHold f).pair = s.pair := rfl
@[simp] theorem setHold_chain (f : HoldSt → HoldSt) : (s.setHold f).chain = s.chain := rfl
@[simp] theorem setHold_age (f : HoldSt → HoldSt) : (s.setHold f).age = s.age := rfl
@[simp] theorem setHold_dram (f : HoldSt → HoldSt) : (s.setHold f).dram = s.dram := rfl
@[simp] theorem setHold_tapIr (f : HoldSt → HoldSt) : (s.setHold f).tapIr = s.tapIr := rfl
@[simp] theorem setHold_pending (f : HoldSt → HoldSt) : (s.setHold f).pending = s.pending := rfl
@[simp] theorem setHold_rd (f : HoldSt → HoldSt) (a : Nat) : (s.setHold f).rd a = s.rd a := rfl
@[simp] theorem setHold_rdn (f : HoldSt → HoldSt) (a : Nat) : (s.setHold f).rdn a = s.rdn a := rfl
@[simp] theorem setHold_fld (f : HoldSt → HoldSt) (a : Nat) (b : Bits) : (s.setHold f).fld a b = s.fld a b := rfl
@[simp] theorem setHold_bit (f : HoldSt → HoldSt) (a b : Nat) : (s.setHold f).bit a b = s.bit a b := rfl
@[simp] theorem setHold_on (f : HoldSt → HoldSt) (a : Nat) (b : Bits) : (s.setHold f).on a b = s.on a b := rfl

/-! ### setTime -/

@[simp] theorem setTime_time (f : TimeSt → TimeSt) : (s.setTime f).time = f s.time := rfl
@[simp] theorem setTime_regs (f : TimeSt → TimeSt) : (s.setTime f).regs = s.regs := rfl
@[simp] theorem setTime_sent (f : TimeSt → TimeSt) : (s.setTime f).sent = s.sent := rfl
@[simp] theorem setTime_free (f : TimeSt → TimeSt) : (s.setTime f).free = s.free := rfl
@[simp] theorem setTime_edges (f : TimeSt → TimeSt) : (s.setTime f).edges = s.edges := rfl
@[simp] theorem setTime_edgeRem (f : TimeSt → TimeSt) : (s.setTime f).edgeRem = s.edgeRem := rfl
@[simp] theorem setTime_fault (f : TimeSt → TimeSt) : (s.setTime f).fault = s.fault := rfl
@[simp] theorem setTime_intc (f : TimeSt → TimeSt) : (s.setTime f).intc = s.intc := rfl
@[simp] theorem setTime_host (f : TimeSt → TimeSt) : (s.setTime f).host = s.host := rfl
@[simp] theorem setTime_pins (f : TimeSt → TimeSt) : (s.setTime f).pins = s.pins := rfl
@[simp] theorem setTime_loader (f : TimeSt → TimeSt) : (s.setTime f).loader = s.loader := rfl
@[simp] theorem setTime_otp (f : TimeSt → TimeSt) : (s.setTime f).otp = s.otp := rfl
@[simp] theorem setTime_staging (f : TimeSt → TimeSt) : (s.setTime f).staging = s.staging := rfl
@[simp] theorem setTime_reserve (f : TimeSt → TimeSt) : (s.setTime f).reserve = s.reserve := rfl
@[simp] theorem setTime_running (f : TimeSt → TimeSt) : (s.setTime f).running = s.running := rfl
@[simp] theorem setTime_ready (f : TimeSt → TimeSt) : (s.setTime f).ready = s.ready := rfl
@[simp] theorem setTime_tested (f : TimeSt → TimeSt) : (s.setTime f).tested = s.tested := rfl
@[simp] theorem setTime_refs (f : TimeSt → TimeSt) : (s.setTime f).refs = s.refs := rfl
@[simp] theorem setTime_sel (f : TimeSt → TimeSt) : (s.setTime f).sel = s.sel := rfl
@[simp] theorem setTime_hold (f : TimeSt → TimeSt) : (s.setTime f).hold = s.hold := rfl
@[simp] theorem setTime_synth (f : TimeSt → TimeSt) : (s.setTime f).synth = s.synth := rfl
@[simp] theorem setTime_loupe (f : TimeSt → TimeSt) : (s.setTime f).loupe = s.loupe := rfl
@[simp] theorem setTime_gnss (f : TimeSt → TimeSt) : (s.setTime f).gnss = s.gnss := rfl
@[simp] theorem setTime_line (f : TimeSt → TimeSt) : (s.setTime f).line = s.line := rfl
@[simp] theorem setTime_queue (f : TimeSt → TimeSt) : (s.setTime f).queue = s.queue := rfl
@[simp] theorem setTime_ptp (f : TimeSt → TimeSt) : (s.setTime f).ptp = s.ptp := rfl
@[simp] theorem setTime_nts (f : TimeSt → TimeSt) : (s.setTime f).nts = s.nts := rfl
@[simp] theorem setTime_keys (f : TimeSt → TimeSt) : (s.setTime f).keys = s.keys := rfl
@[simp] theorem setTime_audio (f : TimeSt → TimeSt) : (s.setTime f).audio = s.audio := rfl
@[simp] theorem setTime_store (f : TimeSt → TimeSt) : (s.setTime f).store = s.store := rfl
@[simp] theorem setTime_facet (f : TimeSt → TimeSt) : (s.setTime f).facet = s.facet := rfl
@[simp] theorem setTime_pair (f : TimeSt → TimeSt) : (s.setTime f).pair = s.pair := rfl
@[simp] theorem setTime_chain (f : TimeSt → TimeSt) : (s.setTime f).chain = s.chain := rfl
@[simp] theorem setTime_age (f : TimeSt → TimeSt) : (s.setTime f).age = s.age := rfl
@[simp] theorem setTime_dram (f : TimeSt → TimeSt) : (s.setTime f).dram = s.dram := rfl
@[simp] theorem setTime_tapIr (f : TimeSt → TimeSt) : (s.setTime f).tapIr = s.tapIr := rfl
@[simp] theorem setTime_pending (f : TimeSt → TimeSt) : (s.setTime f).pending = s.pending := rfl
@[simp] theorem setTime_rd (f : TimeSt → TimeSt) (a : Nat) : (s.setTime f).rd a = s.rd a := rfl
@[simp] theorem setTime_rdn (f : TimeSt → TimeSt) (a : Nat) : (s.setTime f).rdn a = s.rdn a := rfl
@[simp] theorem setTime_fld (f : TimeSt → TimeSt) (a : Nat) (b : Bits) : (s.setTime f).fld a b = s.fld a b := rfl
@[simp] theorem setTime_bit (f : TimeSt → TimeSt) (a b : Nat) : (s.setTime f).bit a b = s.bit a b := rfl
@[simp] theorem setTime_on (f : TimeSt → TimeSt) (a : Nat) (b : Bits) : (s.setTime f).on a b = s.on a b := rfl

/-! ### setGnss -/

@[simp] theorem setGnss_gnss (f : GnssSt → GnssSt) : (s.setGnss f).gnss = f s.gnss := rfl
@[simp] theorem setGnss_regs (f : GnssSt → GnssSt) : (s.setGnss f).regs = s.regs := rfl
@[simp] theorem setGnss_sent (f : GnssSt → GnssSt) : (s.setGnss f).sent = s.sent := rfl
@[simp] theorem setGnss_free (f : GnssSt → GnssSt) : (s.setGnss f).free = s.free := rfl
@[simp] theorem setGnss_edges (f : GnssSt → GnssSt) : (s.setGnss f).edges = s.edges := rfl
@[simp] theorem setGnss_edgeRem (f : GnssSt → GnssSt) : (s.setGnss f).edgeRem = s.edgeRem := rfl
@[simp] theorem setGnss_fault (f : GnssSt → GnssSt) : (s.setGnss f).fault = s.fault := rfl
@[simp] theorem setGnss_intc (f : GnssSt → GnssSt) : (s.setGnss f).intc = s.intc := rfl
@[simp] theorem setGnss_host (f : GnssSt → GnssSt) : (s.setGnss f).host = s.host := rfl
@[simp] theorem setGnss_pins (f : GnssSt → GnssSt) : (s.setGnss f).pins = s.pins := rfl
@[simp] theorem setGnss_loader (f : GnssSt → GnssSt) : (s.setGnss f).loader = s.loader := rfl
@[simp] theorem setGnss_otp (f : GnssSt → GnssSt) : (s.setGnss f).otp = s.otp := rfl
@[simp] theorem setGnss_staging (f : GnssSt → GnssSt) : (s.setGnss f).staging = s.staging := rfl
@[simp] theorem setGnss_reserve (f : GnssSt → GnssSt) : (s.setGnss f).reserve = s.reserve := rfl
@[simp] theorem setGnss_running (f : GnssSt → GnssSt) : (s.setGnss f).running = s.running := rfl
@[simp] theorem setGnss_ready (f : GnssSt → GnssSt) : (s.setGnss f).ready = s.ready := rfl
@[simp] theorem setGnss_tested (f : GnssSt → GnssSt) : (s.setGnss f).tested = s.tested := rfl
@[simp] theorem setGnss_refs (f : GnssSt → GnssSt) : (s.setGnss f).refs = s.refs := rfl
@[simp] theorem setGnss_sel (f : GnssSt → GnssSt) : (s.setGnss f).sel = s.sel := rfl
@[simp] theorem setGnss_hold (f : GnssSt → GnssSt) : (s.setGnss f).hold = s.hold := rfl
@[simp] theorem setGnss_synth (f : GnssSt → GnssSt) : (s.setGnss f).synth = s.synth := rfl
@[simp] theorem setGnss_loupe (f : GnssSt → GnssSt) : (s.setGnss f).loupe = s.loupe := rfl
@[simp] theorem setGnss_time (f : GnssSt → GnssSt) : (s.setGnss f).time = s.time := rfl
@[simp] theorem setGnss_line (f : GnssSt → GnssSt) : (s.setGnss f).line = s.line := rfl
@[simp] theorem setGnss_queue (f : GnssSt → GnssSt) : (s.setGnss f).queue = s.queue := rfl
@[simp] theorem setGnss_ptp (f : GnssSt → GnssSt) : (s.setGnss f).ptp = s.ptp := rfl
@[simp] theorem setGnss_nts (f : GnssSt → GnssSt) : (s.setGnss f).nts = s.nts := rfl
@[simp] theorem setGnss_keys (f : GnssSt → GnssSt) : (s.setGnss f).keys = s.keys := rfl
@[simp] theorem setGnss_audio (f : GnssSt → GnssSt) : (s.setGnss f).audio = s.audio := rfl
@[simp] theorem setGnss_store (f : GnssSt → GnssSt) : (s.setGnss f).store = s.store := rfl
@[simp] theorem setGnss_facet (f : GnssSt → GnssSt) : (s.setGnss f).facet = s.facet := rfl
@[simp] theorem setGnss_pair (f : GnssSt → GnssSt) : (s.setGnss f).pair = s.pair := rfl
@[simp] theorem setGnss_chain (f : GnssSt → GnssSt) : (s.setGnss f).chain = s.chain := rfl
@[simp] theorem setGnss_age (f : GnssSt → GnssSt) : (s.setGnss f).age = s.age := rfl
@[simp] theorem setGnss_dram (f : GnssSt → GnssSt) : (s.setGnss f).dram = s.dram := rfl
@[simp] theorem setGnss_tapIr (f : GnssSt → GnssSt) : (s.setGnss f).tapIr = s.tapIr := rfl
@[simp] theorem setGnss_pending (f : GnssSt → GnssSt) : (s.setGnss f).pending = s.pending := rfl
@[simp] theorem setGnss_rd (f : GnssSt → GnssSt) (a : Nat) : (s.setGnss f).rd a = s.rd a := rfl
@[simp] theorem setGnss_rdn (f : GnssSt → GnssSt) (a : Nat) : (s.setGnss f).rdn a = s.rdn a := rfl
@[simp] theorem setGnss_fld (f : GnssSt → GnssSt) (a : Nat) (b : Bits) : (s.setGnss f).fld a b = s.fld a b := rfl
@[simp] theorem setGnss_bit (f : GnssSt → GnssSt) (a b : Nat) : (s.setGnss f).bit a b = s.bit a b := rfl
@[simp] theorem setGnss_on (f : GnssSt → GnssSt) (a : Nat) (b : Bits) : (s.setGnss f).on a b = s.on a b := rfl

/-! ### setQueue -/

@[simp] theorem setQueue_queue (f : QueueSt → QueueSt) : (s.setQueue f).queue = f s.queue := rfl
@[simp] theorem setQueue_regs (f : QueueSt → QueueSt) : (s.setQueue f).regs = s.regs := rfl
@[simp] theorem setQueue_sent (f : QueueSt → QueueSt) : (s.setQueue f).sent = s.sent := rfl
@[simp] theorem setQueue_free (f : QueueSt → QueueSt) : (s.setQueue f).free = s.free := rfl
@[simp] theorem setQueue_edges (f : QueueSt → QueueSt) : (s.setQueue f).edges = s.edges := rfl
@[simp] theorem setQueue_edgeRem (f : QueueSt → QueueSt) : (s.setQueue f).edgeRem = s.edgeRem := rfl
@[simp] theorem setQueue_fault (f : QueueSt → QueueSt) : (s.setQueue f).fault = s.fault := rfl
@[simp] theorem setQueue_intc (f : QueueSt → QueueSt) : (s.setQueue f).intc = s.intc := rfl
@[simp] theorem setQueue_host (f : QueueSt → QueueSt) : (s.setQueue f).host = s.host := rfl
@[simp] theorem setQueue_pins (f : QueueSt → QueueSt) : (s.setQueue f).pins = s.pins := rfl
@[simp] theorem setQueue_loader (f : QueueSt → QueueSt) : (s.setQueue f).loader = s.loader := rfl
@[simp] theorem setQueue_otp (f : QueueSt → QueueSt) : (s.setQueue f).otp = s.otp := rfl
@[simp] theorem setQueue_staging (f : QueueSt → QueueSt) : (s.setQueue f).staging = s.staging := rfl
@[simp] theorem setQueue_reserve (f : QueueSt → QueueSt) : (s.setQueue f).reserve = s.reserve := rfl
@[simp] theorem setQueue_running (f : QueueSt → QueueSt) : (s.setQueue f).running = s.running := rfl
@[simp] theorem setQueue_ready (f : QueueSt → QueueSt) : (s.setQueue f).ready = s.ready := rfl
@[simp] theorem setQueue_tested (f : QueueSt → QueueSt) : (s.setQueue f).tested = s.tested := rfl
@[simp] theorem setQueue_refs (f : QueueSt → QueueSt) : (s.setQueue f).refs = s.refs := rfl
@[simp] theorem setQueue_sel (f : QueueSt → QueueSt) : (s.setQueue f).sel = s.sel := rfl
@[simp] theorem setQueue_hold (f : QueueSt → QueueSt) : (s.setQueue f).hold = s.hold := rfl
@[simp] theorem setQueue_synth (f : QueueSt → QueueSt) : (s.setQueue f).synth = s.synth := rfl
@[simp] theorem setQueue_loupe (f : QueueSt → QueueSt) : (s.setQueue f).loupe = s.loupe := rfl
@[simp] theorem setQueue_time (f : QueueSt → QueueSt) : (s.setQueue f).time = s.time := rfl
@[simp] theorem setQueue_gnss (f : QueueSt → QueueSt) : (s.setQueue f).gnss = s.gnss := rfl
@[simp] theorem setQueue_line (f : QueueSt → QueueSt) : (s.setQueue f).line = s.line := rfl
@[simp] theorem setQueue_ptp (f : QueueSt → QueueSt) : (s.setQueue f).ptp = s.ptp := rfl
@[simp] theorem setQueue_nts (f : QueueSt → QueueSt) : (s.setQueue f).nts = s.nts := rfl
@[simp] theorem setQueue_keys (f : QueueSt → QueueSt) : (s.setQueue f).keys = s.keys := rfl
@[simp] theorem setQueue_audio (f : QueueSt → QueueSt) : (s.setQueue f).audio = s.audio := rfl
@[simp] theorem setQueue_store (f : QueueSt → QueueSt) : (s.setQueue f).store = s.store := rfl
@[simp] theorem setQueue_facet (f : QueueSt → QueueSt) : (s.setQueue f).facet = s.facet := rfl
@[simp] theorem setQueue_pair (f : QueueSt → QueueSt) : (s.setQueue f).pair = s.pair := rfl
@[simp] theorem setQueue_chain (f : QueueSt → QueueSt) : (s.setQueue f).chain = s.chain := rfl
@[simp] theorem setQueue_age (f : QueueSt → QueueSt) : (s.setQueue f).age = s.age := rfl
@[simp] theorem setQueue_dram (f : QueueSt → QueueSt) : (s.setQueue f).dram = s.dram := rfl
@[simp] theorem setQueue_tapIr (f : QueueSt → QueueSt) : (s.setQueue f).tapIr = s.tapIr := rfl
@[simp] theorem setQueue_pending (f : QueueSt → QueueSt) : (s.setQueue f).pending = s.pending := rfl
@[simp] theorem setQueue_rd (f : QueueSt → QueueSt) (a : Nat) : (s.setQueue f).rd a = s.rd a := rfl
@[simp] theorem setQueue_rdn (f : QueueSt → QueueSt) (a : Nat) : (s.setQueue f).rdn a = s.rdn a := rfl
@[simp] theorem setQueue_fld (f : QueueSt → QueueSt) (a : Nat) (b : Bits) : (s.setQueue f).fld a b = s.fld a b := rfl
@[simp] theorem setQueue_bit (f : QueueSt → QueueSt) (a b : Nat) : (s.setQueue f).bit a b = s.bit a b := rfl
@[simp] theorem setQueue_on (f : QueueSt → QueueSt) (a : Nat) (b : Bits) : (s.setQueue f).on a b = s.on a b := rfl

/-! ### setPtp -/

@[simp] theorem setPtp_ptp (f : PtpSt → PtpSt) : (s.setPtp f).ptp = f s.ptp := rfl
@[simp] theorem setPtp_regs (f : PtpSt → PtpSt) : (s.setPtp f).regs = s.regs := rfl
@[simp] theorem setPtp_sent (f : PtpSt → PtpSt) : (s.setPtp f).sent = s.sent := rfl
@[simp] theorem setPtp_free (f : PtpSt → PtpSt) : (s.setPtp f).free = s.free := rfl
@[simp] theorem setPtp_edges (f : PtpSt → PtpSt) : (s.setPtp f).edges = s.edges := rfl
@[simp] theorem setPtp_edgeRem (f : PtpSt → PtpSt) : (s.setPtp f).edgeRem = s.edgeRem := rfl
@[simp] theorem setPtp_fault (f : PtpSt → PtpSt) : (s.setPtp f).fault = s.fault := rfl
@[simp] theorem setPtp_intc (f : PtpSt → PtpSt) : (s.setPtp f).intc = s.intc := rfl
@[simp] theorem setPtp_host (f : PtpSt → PtpSt) : (s.setPtp f).host = s.host := rfl
@[simp] theorem setPtp_pins (f : PtpSt → PtpSt) : (s.setPtp f).pins = s.pins := rfl
@[simp] theorem setPtp_loader (f : PtpSt → PtpSt) : (s.setPtp f).loader = s.loader := rfl
@[simp] theorem setPtp_otp (f : PtpSt → PtpSt) : (s.setPtp f).otp = s.otp := rfl
@[simp] theorem setPtp_staging (f : PtpSt → PtpSt) : (s.setPtp f).staging = s.staging := rfl
@[simp] theorem setPtp_reserve (f : PtpSt → PtpSt) : (s.setPtp f).reserve = s.reserve := rfl
@[simp] theorem setPtp_running (f : PtpSt → PtpSt) : (s.setPtp f).running = s.running := rfl
@[simp] theorem setPtp_ready (f : PtpSt → PtpSt) : (s.setPtp f).ready = s.ready := rfl
@[simp] theorem setPtp_tested (f : PtpSt → PtpSt) : (s.setPtp f).tested = s.tested := rfl
@[simp] theorem setPtp_refs (f : PtpSt → PtpSt) : (s.setPtp f).refs = s.refs := rfl
@[simp] theorem setPtp_sel (f : PtpSt → PtpSt) : (s.setPtp f).sel = s.sel := rfl
@[simp] theorem setPtp_hold (f : PtpSt → PtpSt) : (s.setPtp f).hold = s.hold := rfl
@[simp] theorem setPtp_synth (f : PtpSt → PtpSt) : (s.setPtp f).synth = s.synth := rfl
@[simp] theorem setPtp_loupe (f : PtpSt → PtpSt) : (s.setPtp f).loupe = s.loupe := rfl
@[simp] theorem setPtp_time (f : PtpSt → PtpSt) : (s.setPtp f).time = s.time := rfl
@[simp] theorem setPtp_gnss (f : PtpSt → PtpSt) : (s.setPtp f).gnss = s.gnss := rfl
@[simp] theorem setPtp_line (f : PtpSt → PtpSt) : (s.setPtp f).line = s.line := rfl
@[simp] theorem setPtp_queue (f : PtpSt → PtpSt) : (s.setPtp f).queue = s.queue := rfl
@[simp] theorem setPtp_nts (f : PtpSt → PtpSt) : (s.setPtp f).nts = s.nts := rfl
@[simp] theorem setPtp_keys (f : PtpSt → PtpSt) : (s.setPtp f).keys = s.keys := rfl
@[simp] theorem setPtp_audio (f : PtpSt → PtpSt) : (s.setPtp f).audio = s.audio := rfl
@[simp] theorem setPtp_store (f : PtpSt → PtpSt) : (s.setPtp f).store = s.store := rfl
@[simp] theorem setPtp_facet (f : PtpSt → PtpSt) : (s.setPtp f).facet = s.facet := rfl
@[simp] theorem setPtp_pair (f : PtpSt → PtpSt) : (s.setPtp f).pair = s.pair := rfl
@[simp] theorem setPtp_chain (f : PtpSt → PtpSt) : (s.setPtp f).chain = s.chain := rfl
@[simp] theorem setPtp_age (f : PtpSt → PtpSt) : (s.setPtp f).age = s.age := rfl
@[simp] theorem setPtp_dram (f : PtpSt → PtpSt) : (s.setPtp f).dram = s.dram := rfl
@[simp] theorem setPtp_tapIr (f : PtpSt → PtpSt) : (s.setPtp f).tapIr = s.tapIr := rfl
@[simp] theorem setPtp_pending (f : PtpSt → PtpSt) : (s.setPtp f).pending = s.pending := rfl
@[simp] theorem setPtp_rd (f : PtpSt → PtpSt) (a : Nat) : (s.setPtp f).rd a = s.rd a := rfl
@[simp] theorem setPtp_rdn (f : PtpSt → PtpSt) (a : Nat) : (s.setPtp f).rdn a = s.rdn a := rfl
@[simp] theorem setPtp_fld (f : PtpSt → PtpSt) (a : Nat) (b : Bits) : (s.setPtp f).fld a b = s.fld a b := rfl
@[simp] theorem setPtp_bit (f : PtpSt → PtpSt) (a b : Nat) : (s.setPtp f).bit a b = s.bit a b := rfl
@[simp] theorem setPtp_on (f : PtpSt → PtpSt) (a : Nat) (b : Bits) : (s.setPtp f).on a b = s.on a b := rfl

/-! ### setNts -/

@[simp] theorem setNts_nts (f : NtsSt → NtsSt) : (s.setNts f).nts = f s.nts := rfl
@[simp] theorem setNts_regs (f : NtsSt → NtsSt) : (s.setNts f).regs = s.regs := rfl
@[simp] theorem setNts_sent (f : NtsSt → NtsSt) : (s.setNts f).sent = s.sent := rfl
@[simp] theorem setNts_free (f : NtsSt → NtsSt) : (s.setNts f).free = s.free := rfl
@[simp] theorem setNts_edges (f : NtsSt → NtsSt) : (s.setNts f).edges = s.edges := rfl
@[simp] theorem setNts_edgeRem (f : NtsSt → NtsSt) : (s.setNts f).edgeRem = s.edgeRem := rfl
@[simp] theorem setNts_fault (f : NtsSt → NtsSt) : (s.setNts f).fault = s.fault := rfl
@[simp] theorem setNts_intc (f : NtsSt → NtsSt) : (s.setNts f).intc = s.intc := rfl
@[simp] theorem setNts_host (f : NtsSt → NtsSt) : (s.setNts f).host = s.host := rfl
@[simp] theorem setNts_pins (f : NtsSt → NtsSt) : (s.setNts f).pins = s.pins := rfl
@[simp] theorem setNts_loader (f : NtsSt → NtsSt) : (s.setNts f).loader = s.loader := rfl
@[simp] theorem setNts_otp (f : NtsSt → NtsSt) : (s.setNts f).otp = s.otp := rfl
@[simp] theorem setNts_staging (f : NtsSt → NtsSt) : (s.setNts f).staging = s.staging := rfl
@[simp] theorem setNts_reserve (f : NtsSt → NtsSt) : (s.setNts f).reserve = s.reserve := rfl
@[simp] theorem setNts_running (f : NtsSt → NtsSt) : (s.setNts f).running = s.running := rfl
@[simp] theorem setNts_ready (f : NtsSt → NtsSt) : (s.setNts f).ready = s.ready := rfl
@[simp] theorem setNts_tested (f : NtsSt → NtsSt) : (s.setNts f).tested = s.tested := rfl
@[simp] theorem setNts_refs (f : NtsSt → NtsSt) : (s.setNts f).refs = s.refs := rfl
@[simp] theorem setNts_sel (f : NtsSt → NtsSt) : (s.setNts f).sel = s.sel := rfl
@[simp] theorem setNts_hold (f : NtsSt → NtsSt) : (s.setNts f).hold = s.hold := rfl
@[simp] theorem setNts_synth (f : NtsSt → NtsSt) : (s.setNts f).synth = s.synth := rfl
@[simp] theorem setNts_loupe (f : NtsSt → NtsSt) : (s.setNts f).loupe = s.loupe := rfl
@[simp] theorem setNts_time (f : NtsSt → NtsSt) : (s.setNts f).time = s.time := rfl
@[simp] theorem setNts_gnss (f : NtsSt → NtsSt) : (s.setNts f).gnss = s.gnss := rfl
@[simp] theorem setNts_line (f : NtsSt → NtsSt) : (s.setNts f).line = s.line := rfl
@[simp] theorem setNts_queue (f : NtsSt → NtsSt) : (s.setNts f).queue = s.queue := rfl
@[simp] theorem setNts_ptp (f : NtsSt → NtsSt) : (s.setNts f).ptp = s.ptp := rfl
@[simp] theorem setNts_keys (f : NtsSt → NtsSt) : (s.setNts f).keys = s.keys := rfl
@[simp] theorem setNts_audio (f : NtsSt → NtsSt) : (s.setNts f).audio = s.audio := rfl
@[simp] theorem setNts_store (f : NtsSt → NtsSt) : (s.setNts f).store = s.store := rfl
@[simp] theorem setNts_facet (f : NtsSt → NtsSt) : (s.setNts f).facet = s.facet := rfl
@[simp] theorem setNts_pair (f : NtsSt → NtsSt) : (s.setNts f).pair = s.pair := rfl
@[simp] theorem setNts_chain (f : NtsSt → NtsSt) : (s.setNts f).chain = s.chain := rfl
@[simp] theorem setNts_age (f : NtsSt → NtsSt) : (s.setNts f).age = s.age := rfl
@[simp] theorem setNts_dram (f : NtsSt → NtsSt) : (s.setNts f).dram = s.dram := rfl
@[simp] theorem setNts_tapIr (f : NtsSt → NtsSt) : (s.setNts f).tapIr = s.tapIr := rfl
@[simp] theorem setNts_pending (f : NtsSt → NtsSt) : (s.setNts f).pending = s.pending := rfl
@[simp] theorem setNts_rd (f : NtsSt → NtsSt) (a : Nat) : (s.setNts f).rd a = s.rd a := rfl
@[simp] theorem setNts_rdn (f : NtsSt → NtsSt) (a : Nat) : (s.setNts f).rdn a = s.rdn a := rfl
@[simp] theorem setNts_fld (f : NtsSt → NtsSt) (a : Nat) (b : Bits) : (s.setNts f).fld a b = s.fld a b := rfl
@[simp] theorem setNts_bit (f : NtsSt → NtsSt) (a b : Nat) : (s.setNts f).bit a b = s.bit a b := rfl
@[simp] theorem setNts_on (f : NtsSt → NtsSt) (a : Nat) (b : Bits) : (s.setNts f).on a b = s.on a b := rfl

/-! ### setKeys -/

@[simp] theorem setKeys_keys (f : KeysSt → KeysSt) : (s.setKeys f).keys = f s.keys := rfl
@[simp] theorem setKeys_regs (f : KeysSt → KeysSt) : (s.setKeys f).regs = s.regs := rfl
@[simp] theorem setKeys_sent (f : KeysSt → KeysSt) : (s.setKeys f).sent = s.sent := rfl
@[simp] theorem setKeys_free (f : KeysSt → KeysSt) : (s.setKeys f).free = s.free := rfl
@[simp] theorem setKeys_edges (f : KeysSt → KeysSt) : (s.setKeys f).edges = s.edges := rfl
@[simp] theorem setKeys_edgeRem (f : KeysSt → KeysSt) : (s.setKeys f).edgeRem = s.edgeRem := rfl
@[simp] theorem setKeys_fault (f : KeysSt → KeysSt) : (s.setKeys f).fault = s.fault := rfl
@[simp] theorem setKeys_intc (f : KeysSt → KeysSt) : (s.setKeys f).intc = s.intc := rfl
@[simp] theorem setKeys_host (f : KeysSt → KeysSt) : (s.setKeys f).host = s.host := rfl
@[simp] theorem setKeys_pins (f : KeysSt → KeysSt) : (s.setKeys f).pins = s.pins := rfl
@[simp] theorem setKeys_loader (f : KeysSt → KeysSt) : (s.setKeys f).loader = s.loader := rfl
@[simp] theorem setKeys_otp (f : KeysSt → KeysSt) : (s.setKeys f).otp = s.otp := rfl
@[simp] theorem setKeys_staging (f : KeysSt → KeysSt) : (s.setKeys f).staging = s.staging := rfl
@[simp] theorem setKeys_reserve (f : KeysSt → KeysSt) : (s.setKeys f).reserve = s.reserve := rfl
@[simp] theorem setKeys_running (f : KeysSt → KeysSt) : (s.setKeys f).running = s.running := rfl
@[simp] theorem setKeys_ready (f : KeysSt → KeysSt) : (s.setKeys f).ready = s.ready := rfl
@[simp] theorem setKeys_tested (f : KeysSt → KeysSt) : (s.setKeys f).tested = s.tested := rfl
@[simp] theorem setKeys_refs (f : KeysSt → KeysSt) : (s.setKeys f).refs = s.refs := rfl
@[simp] theorem setKeys_sel (f : KeysSt → KeysSt) : (s.setKeys f).sel = s.sel := rfl
@[simp] theorem setKeys_hold (f : KeysSt → KeysSt) : (s.setKeys f).hold = s.hold := rfl
@[simp] theorem setKeys_synth (f : KeysSt → KeysSt) : (s.setKeys f).synth = s.synth := rfl
@[simp] theorem setKeys_loupe (f : KeysSt → KeysSt) : (s.setKeys f).loupe = s.loupe := rfl
@[simp] theorem setKeys_time (f : KeysSt → KeysSt) : (s.setKeys f).time = s.time := rfl
@[simp] theorem setKeys_gnss (f : KeysSt → KeysSt) : (s.setKeys f).gnss = s.gnss := rfl
@[simp] theorem setKeys_line (f : KeysSt → KeysSt) : (s.setKeys f).line = s.line := rfl
@[simp] theorem setKeys_queue (f : KeysSt → KeysSt) : (s.setKeys f).queue = s.queue := rfl
@[simp] theorem setKeys_ptp (f : KeysSt → KeysSt) : (s.setKeys f).ptp = s.ptp := rfl
@[simp] theorem setKeys_nts (f : KeysSt → KeysSt) : (s.setKeys f).nts = s.nts := rfl
@[simp] theorem setKeys_audio (f : KeysSt → KeysSt) : (s.setKeys f).audio = s.audio := rfl
@[simp] theorem setKeys_store (f : KeysSt → KeysSt) : (s.setKeys f).store = s.store := rfl
@[simp] theorem setKeys_facet (f : KeysSt → KeysSt) : (s.setKeys f).facet = s.facet := rfl
@[simp] theorem setKeys_pair (f : KeysSt → KeysSt) : (s.setKeys f).pair = s.pair := rfl
@[simp] theorem setKeys_chain (f : KeysSt → KeysSt) : (s.setKeys f).chain = s.chain := rfl
@[simp] theorem setKeys_age (f : KeysSt → KeysSt) : (s.setKeys f).age = s.age := rfl
@[simp] theorem setKeys_dram (f : KeysSt → KeysSt) : (s.setKeys f).dram = s.dram := rfl
@[simp] theorem setKeys_tapIr (f : KeysSt → KeysSt) : (s.setKeys f).tapIr = s.tapIr := rfl
@[simp] theorem setKeys_pending (f : KeysSt → KeysSt) : (s.setKeys f).pending = s.pending := rfl
@[simp] theorem setKeys_rd (f : KeysSt → KeysSt) (a : Nat) : (s.setKeys f).rd a = s.rd a := rfl
@[simp] theorem setKeys_rdn (f : KeysSt → KeysSt) (a : Nat) : (s.setKeys f).rdn a = s.rdn a := rfl
@[simp] theorem setKeys_fld (f : KeysSt → KeysSt) (a : Nat) (b : Bits) : (s.setKeys f).fld a b = s.fld a b := rfl
@[simp] theorem setKeys_bit (f : KeysSt → KeysSt) (a b : Nat) : (s.setKeys f).bit a b = s.bit a b := rfl
@[simp] theorem setKeys_on (f : KeysSt → KeysSt) (a : Nat) (b : Bits) : (s.setKeys f).on a b = s.on a b := rfl

/-! ### setAudio -/

@[simp] theorem setAudio_audio (f : AudioSt → AudioSt) : (s.setAudio f).audio = f s.audio := rfl
@[simp] theorem setAudio_regs (f : AudioSt → AudioSt) : (s.setAudio f).regs = s.regs := rfl
@[simp] theorem setAudio_sent (f : AudioSt → AudioSt) : (s.setAudio f).sent = s.sent := rfl
@[simp] theorem setAudio_free (f : AudioSt → AudioSt) : (s.setAudio f).free = s.free := rfl
@[simp] theorem setAudio_edges (f : AudioSt → AudioSt) : (s.setAudio f).edges = s.edges := rfl
@[simp] theorem setAudio_edgeRem (f : AudioSt → AudioSt) : (s.setAudio f).edgeRem = s.edgeRem := rfl
@[simp] theorem setAudio_fault (f : AudioSt → AudioSt) : (s.setAudio f).fault = s.fault := rfl
@[simp] theorem setAudio_intc (f : AudioSt → AudioSt) : (s.setAudio f).intc = s.intc := rfl
@[simp] theorem setAudio_host (f : AudioSt → AudioSt) : (s.setAudio f).host = s.host := rfl
@[simp] theorem setAudio_pins (f : AudioSt → AudioSt) : (s.setAudio f).pins = s.pins := rfl
@[simp] theorem setAudio_loader (f : AudioSt → AudioSt) : (s.setAudio f).loader = s.loader := rfl
@[simp] theorem setAudio_otp (f : AudioSt → AudioSt) : (s.setAudio f).otp = s.otp := rfl
@[simp] theorem setAudio_staging (f : AudioSt → AudioSt) : (s.setAudio f).staging = s.staging := rfl
@[simp] theorem setAudio_reserve (f : AudioSt → AudioSt) : (s.setAudio f).reserve = s.reserve := rfl
@[simp] theorem setAudio_running (f : AudioSt → AudioSt) : (s.setAudio f).running = s.running := rfl
@[simp] theorem setAudio_ready (f : AudioSt → AudioSt) : (s.setAudio f).ready = s.ready := rfl
@[simp] theorem setAudio_tested (f : AudioSt → AudioSt) : (s.setAudio f).tested = s.tested := rfl
@[simp] theorem setAudio_refs (f : AudioSt → AudioSt) : (s.setAudio f).refs = s.refs := rfl
@[simp] theorem setAudio_sel (f : AudioSt → AudioSt) : (s.setAudio f).sel = s.sel := rfl
@[simp] theorem setAudio_hold (f : AudioSt → AudioSt) : (s.setAudio f).hold = s.hold := rfl
@[simp] theorem setAudio_synth (f : AudioSt → AudioSt) : (s.setAudio f).synth = s.synth := rfl
@[simp] theorem setAudio_loupe (f : AudioSt → AudioSt) : (s.setAudio f).loupe = s.loupe := rfl
@[simp] theorem setAudio_time (f : AudioSt → AudioSt) : (s.setAudio f).time = s.time := rfl
@[simp] theorem setAudio_gnss (f : AudioSt → AudioSt) : (s.setAudio f).gnss = s.gnss := rfl
@[simp] theorem setAudio_line (f : AudioSt → AudioSt) : (s.setAudio f).line = s.line := rfl
@[simp] theorem setAudio_queue (f : AudioSt → AudioSt) : (s.setAudio f).queue = s.queue := rfl
@[simp] theorem setAudio_ptp (f : AudioSt → AudioSt) : (s.setAudio f).ptp = s.ptp := rfl
@[simp] theorem setAudio_nts (f : AudioSt → AudioSt) : (s.setAudio f).nts = s.nts := rfl
@[simp] theorem setAudio_keys (f : AudioSt → AudioSt) : (s.setAudio f).keys = s.keys := rfl
@[simp] theorem setAudio_store (f : AudioSt → AudioSt) : (s.setAudio f).store = s.store := rfl
@[simp] theorem setAudio_facet (f : AudioSt → AudioSt) : (s.setAudio f).facet = s.facet := rfl
@[simp] theorem setAudio_pair (f : AudioSt → AudioSt) : (s.setAudio f).pair = s.pair := rfl
@[simp] theorem setAudio_chain (f : AudioSt → AudioSt) : (s.setAudio f).chain = s.chain := rfl
@[simp] theorem setAudio_age (f : AudioSt → AudioSt) : (s.setAudio f).age = s.age := rfl
@[simp] theorem setAudio_dram (f : AudioSt → AudioSt) : (s.setAudio f).dram = s.dram := rfl
@[simp] theorem setAudio_tapIr (f : AudioSt → AudioSt) : (s.setAudio f).tapIr = s.tapIr := rfl
@[simp] theorem setAudio_pending (f : AudioSt → AudioSt) : (s.setAudio f).pending = s.pending := rfl
@[simp] theorem setAudio_rd (f : AudioSt → AudioSt) (a : Nat) : (s.setAudio f).rd a = s.rd a := rfl
@[simp] theorem setAudio_rdn (f : AudioSt → AudioSt) (a : Nat) : (s.setAudio f).rdn a = s.rdn a := rfl
@[simp] theorem setAudio_fld (f : AudioSt → AudioSt) (a : Nat) (b : Bits) : (s.setAudio f).fld a b = s.fld a b := rfl
@[simp] theorem setAudio_bit (f : AudioSt → AudioSt) (a b : Nat) : (s.setAudio f).bit a b = s.bit a b := rfl
@[simp] theorem setAudio_on (f : AudioSt → AudioSt) (a : Nat) (b : Bits) : (s.setAudio f).on a b = s.on a b := rfl

/-! ### setStore -/

@[simp] theorem setStore_store (f : StoreSt → StoreSt) : (s.setStore f).store = f s.store := rfl
@[simp] theorem setStore_regs (f : StoreSt → StoreSt) : (s.setStore f).regs = s.regs := rfl
@[simp] theorem setStore_sent (f : StoreSt → StoreSt) : (s.setStore f).sent = s.sent := rfl
@[simp] theorem setStore_free (f : StoreSt → StoreSt) : (s.setStore f).free = s.free := rfl
@[simp] theorem setStore_edges (f : StoreSt → StoreSt) : (s.setStore f).edges = s.edges := rfl
@[simp] theorem setStore_edgeRem (f : StoreSt → StoreSt) : (s.setStore f).edgeRem = s.edgeRem := rfl
@[simp] theorem setStore_fault (f : StoreSt → StoreSt) : (s.setStore f).fault = s.fault := rfl
@[simp] theorem setStore_intc (f : StoreSt → StoreSt) : (s.setStore f).intc = s.intc := rfl
@[simp] theorem setStore_host (f : StoreSt → StoreSt) : (s.setStore f).host = s.host := rfl
@[simp] theorem setStore_pins (f : StoreSt → StoreSt) : (s.setStore f).pins = s.pins := rfl
@[simp] theorem setStore_loader (f : StoreSt → StoreSt) : (s.setStore f).loader = s.loader := rfl
@[simp] theorem setStore_otp (f : StoreSt → StoreSt) : (s.setStore f).otp = s.otp := rfl
@[simp] theorem setStore_staging (f : StoreSt → StoreSt) : (s.setStore f).staging = s.staging := rfl
@[simp] theorem setStore_reserve (f : StoreSt → StoreSt) : (s.setStore f).reserve = s.reserve := rfl
@[simp] theorem setStore_running (f : StoreSt → StoreSt) : (s.setStore f).running = s.running := rfl
@[simp] theorem setStore_ready (f : StoreSt → StoreSt) : (s.setStore f).ready = s.ready := rfl
@[simp] theorem setStore_tested (f : StoreSt → StoreSt) : (s.setStore f).tested = s.tested := rfl
@[simp] theorem setStore_refs (f : StoreSt → StoreSt) : (s.setStore f).refs = s.refs := rfl
@[simp] theorem setStore_sel (f : StoreSt → StoreSt) : (s.setStore f).sel = s.sel := rfl
@[simp] theorem setStore_hold (f : StoreSt → StoreSt) : (s.setStore f).hold = s.hold := rfl
@[simp] theorem setStore_synth (f : StoreSt → StoreSt) : (s.setStore f).synth = s.synth := rfl
@[simp] theorem setStore_loupe (f : StoreSt → StoreSt) : (s.setStore f).loupe = s.loupe := rfl
@[simp] theorem setStore_time (f : StoreSt → StoreSt) : (s.setStore f).time = s.time := rfl
@[simp] theorem setStore_gnss (f : StoreSt → StoreSt) : (s.setStore f).gnss = s.gnss := rfl
@[simp] theorem setStore_line (f : StoreSt → StoreSt) : (s.setStore f).line = s.line := rfl
@[simp] theorem setStore_queue (f : StoreSt → StoreSt) : (s.setStore f).queue = s.queue := rfl
@[simp] theorem setStore_ptp (f : StoreSt → StoreSt) : (s.setStore f).ptp = s.ptp := rfl
@[simp] theorem setStore_nts (f : StoreSt → StoreSt) : (s.setStore f).nts = s.nts := rfl
@[simp] theorem setStore_keys (f : StoreSt → StoreSt) : (s.setStore f).keys = s.keys := rfl
@[simp] theorem setStore_audio (f : StoreSt → StoreSt) : (s.setStore f).audio = s.audio := rfl
@[simp] theorem setStore_facet (f : StoreSt → StoreSt) : (s.setStore f).facet = s.facet := rfl
@[simp] theorem setStore_pair (f : StoreSt → StoreSt) : (s.setStore f).pair = s.pair := rfl
@[simp] theorem setStore_chain (f : StoreSt → StoreSt) : (s.setStore f).chain = s.chain := rfl
@[simp] theorem setStore_age (f : StoreSt → StoreSt) : (s.setStore f).age = s.age := rfl
@[simp] theorem setStore_dram (f : StoreSt → StoreSt) : (s.setStore f).dram = s.dram := rfl
@[simp] theorem setStore_tapIr (f : StoreSt → StoreSt) : (s.setStore f).tapIr = s.tapIr := rfl
@[simp] theorem setStore_pending (f : StoreSt → StoreSt) : (s.setStore f).pending = s.pending := rfl
@[simp] theorem setStore_rd (f : StoreSt → StoreSt) (a : Nat) : (s.setStore f).rd a = s.rd a := rfl
@[simp] theorem setStore_rdn (f : StoreSt → StoreSt) (a : Nat) : (s.setStore f).rdn a = s.rdn a := rfl
@[simp] theorem setStore_fld (f : StoreSt → StoreSt) (a : Nat) (b : Bits) : (s.setStore f).fld a b = s.fld a b := rfl
@[simp] theorem setStore_bit (f : StoreSt → StoreSt) (a b : Nat) : (s.setStore f).bit a b = s.bit a b := rfl
@[simp] theorem setStore_on (f : StoreSt → StoreSt) (a : Nat) (b : Bits) : (s.setStore f).on a b = s.on a b := rfl

/-! ### setFacet -/

@[simp] theorem setFacet_facet (f : FacetSt → FacetSt) : (s.setFacet f).facet = f s.facet := rfl
@[simp] theorem setFacet_regs (f : FacetSt → FacetSt) : (s.setFacet f).regs = s.regs := rfl
@[simp] theorem setFacet_sent (f : FacetSt → FacetSt) : (s.setFacet f).sent = s.sent := rfl
@[simp] theorem setFacet_free (f : FacetSt → FacetSt) : (s.setFacet f).free = s.free := rfl
@[simp] theorem setFacet_edges (f : FacetSt → FacetSt) : (s.setFacet f).edges = s.edges := rfl
@[simp] theorem setFacet_edgeRem (f : FacetSt → FacetSt) : (s.setFacet f).edgeRem = s.edgeRem := rfl
@[simp] theorem setFacet_fault (f : FacetSt → FacetSt) : (s.setFacet f).fault = s.fault := rfl
@[simp] theorem setFacet_intc (f : FacetSt → FacetSt) : (s.setFacet f).intc = s.intc := rfl
@[simp] theorem setFacet_host (f : FacetSt → FacetSt) : (s.setFacet f).host = s.host := rfl
@[simp] theorem setFacet_pins (f : FacetSt → FacetSt) : (s.setFacet f).pins = s.pins := rfl
@[simp] theorem setFacet_loader (f : FacetSt → FacetSt) : (s.setFacet f).loader = s.loader := rfl
@[simp] theorem setFacet_otp (f : FacetSt → FacetSt) : (s.setFacet f).otp = s.otp := rfl
@[simp] theorem setFacet_staging (f : FacetSt → FacetSt) : (s.setFacet f).staging = s.staging := rfl
@[simp] theorem setFacet_reserve (f : FacetSt → FacetSt) : (s.setFacet f).reserve = s.reserve := rfl
@[simp] theorem setFacet_running (f : FacetSt → FacetSt) : (s.setFacet f).running = s.running := rfl
@[simp] theorem setFacet_ready (f : FacetSt → FacetSt) : (s.setFacet f).ready = s.ready := rfl
@[simp] theorem setFacet_tested (f : FacetSt → FacetSt) : (s.setFacet f).tested = s.tested := rfl
@[simp] theorem setFacet_refs (f : FacetSt → FacetSt) : (s.setFacet f).refs = s.refs := rfl
@[simp] theorem setFacet_sel (f : FacetSt → FacetSt) : (s.setFacet f).sel = s.sel := rfl
@[simp] theorem setFacet_hold (f : FacetSt → FacetSt) : (s.setFacet f).hold = s.hold := rfl
@[simp] theorem setFacet_synth (f : FacetSt → FacetSt) : (s.setFacet f).synth = s.synth := rfl
@[simp] theorem setFacet_loupe (f : FacetSt → FacetSt) : (s.setFacet f).loupe = s.loupe := rfl
@[simp] theorem setFacet_time (f : FacetSt → FacetSt) : (s.setFacet f).time = s.time := rfl
@[simp] theorem setFacet_gnss (f : FacetSt → FacetSt) : (s.setFacet f).gnss = s.gnss := rfl
@[simp] theorem setFacet_line (f : FacetSt → FacetSt) : (s.setFacet f).line = s.line := rfl
@[simp] theorem setFacet_queue (f : FacetSt → FacetSt) : (s.setFacet f).queue = s.queue := rfl
@[simp] theorem setFacet_ptp (f : FacetSt → FacetSt) : (s.setFacet f).ptp = s.ptp := rfl
@[simp] theorem setFacet_nts (f : FacetSt → FacetSt) : (s.setFacet f).nts = s.nts := rfl
@[simp] theorem setFacet_keys (f : FacetSt → FacetSt) : (s.setFacet f).keys = s.keys := rfl
@[simp] theorem setFacet_audio (f : FacetSt → FacetSt) : (s.setFacet f).audio = s.audio := rfl
@[simp] theorem setFacet_store (f : FacetSt → FacetSt) : (s.setFacet f).store = s.store := rfl
@[simp] theorem setFacet_pair (f : FacetSt → FacetSt) : (s.setFacet f).pair = s.pair := rfl
@[simp] theorem setFacet_chain (f : FacetSt → FacetSt) : (s.setFacet f).chain = s.chain := rfl
@[simp] theorem setFacet_age (f : FacetSt → FacetSt) : (s.setFacet f).age = s.age := rfl
@[simp] theorem setFacet_dram (f : FacetSt → FacetSt) : (s.setFacet f).dram = s.dram := rfl
@[simp] theorem setFacet_tapIr (f : FacetSt → FacetSt) : (s.setFacet f).tapIr = s.tapIr := rfl
@[simp] theorem setFacet_pending (f : FacetSt → FacetSt) : (s.setFacet f).pending = s.pending := rfl
@[simp] theorem setFacet_rd (f : FacetSt → FacetSt) (a : Nat) : (s.setFacet f).rd a = s.rd a := rfl
@[simp] theorem setFacet_rdn (f : FacetSt → FacetSt) (a : Nat) : (s.setFacet f).rdn a = s.rdn a := rfl
@[simp] theorem setFacet_fld (f : FacetSt → FacetSt) (a : Nat) (b : Bits) : (s.setFacet f).fld a b = s.fld a b := rfl
@[simp] theorem setFacet_bit (f : FacetSt → FacetSt) (a b : Nat) : (s.setFacet f).bit a b = s.bit a b := rfl
@[simp] theorem setFacet_on (f : FacetSt → FacetSt) (a : Nat) (b : Bits) : (s.setFacet f).on a b = s.on a b := rfl

/-! ### setPair -/

@[simp] theorem setPair_pair (f : PairSt → PairSt) : (s.setPair f).pair = f s.pair := rfl
@[simp] theorem setPair_regs (f : PairSt → PairSt) : (s.setPair f).regs = s.regs := rfl
@[simp] theorem setPair_sent (f : PairSt → PairSt) : (s.setPair f).sent = s.sent := rfl
@[simp] theorem setPair_free (f : PairSt → PairSt) : (s.setPair f).free = s.free := rfl
@[simp] theorem setPair_edges (f : PairSt → PairSt) : (s.setPair f).edges = s.edges := rfl
@[simp] theorem setPair_edgeRem (f : PairSt → PairSt) : (s.setPair f).edgeRem = s.edgeRem := rfl
@[simp] theorem setPair_fault (f : PairSt → PairSt) : (s.setPair f).fault = s.fault := rfl
@[simp] theorem setPair_intc (f : PairSt → PairSt) : (s.setPair f).intc = s.intc := rfl
@[simp] theorem setPair_host (f : PairSt → PairSt) : (s.setPair f).host = s.host := rfl
@[simp] theorem setPair_pins (f : PairSt → PairSt) : (s.setPair f).pins = s.pins := rfl
@[simp] theorem setPair_loader (f : PairSt → PairSt) : (s.setPair f).loader = s.loader := rfl
@[simp] theorem setPair_otp (f : PairSt → PairSt) : (s.setPair f).otp = s.otp := rfl
@[simp] theorem setPair_staging (f : PairSt → PairSt) : (s.setPair f).staging = s.staging := rfl
@[simp] theorem setPair_reserve (f : PairSt → PairSt) : (s.setPair f).reserve = s.reserve := rfl
@[simp] theorem setPair_running (f : PairSt → PairSt) : (s.setPair f).running = s.running := rfl
@[simp] theorem setPair_ready (f : PairSt → PairSt) : (s.setPair f).ready = s.ready := rfl
@[simp] theorem setPair_tested (f : PairSt → PairSt) : (s.setPair f).tested = s.tested := rfl
@[simp] theorem setPair_refs (f : PairSt → PairSt) : (s.setPair f).refs = s.refs := rfl
@[simp] theorem setPair_sel (f : PairSt → PairSt) : (s.setPair f).sel = s.sel := rfl
@[simp] theorem setPair_hold (f : PairSt → PairSt) : (s.setPair f).hold = s.hold := rfl
@[simp] theorem setPair_synth (f : PairSt → PairSt) : (s.setPair f).synth = s.synth := rfl
@[simp] theorem setPair_loupe (f : PairSt → PairSt) : (s.setPair f).loupe = s.loupe := rfl
@[simp] theorem setPair_time (f : PairSt → PairSt) : (s.setPair f).time = s.time := rfl
@[simp] theorem setPair_gnss (f : PairSt → PairSt) : (s.setPair f).gnss = s.gnss := rfl
@[simp] theorem setPair_line (f : PairSt → PairSt) : (s.setPair f).line = s.line := rfl
@[simp] theorem setPair_queue (f : PairSt → PairSt) : (s.setPair f).queue = s.queue := rfl
@[simp] theorem setPair_ptp (f : PairSt → PairSt) : (s.setPair f).ptp = s.ptp := rfl
@[simp] theorem setPair_nts (f : PairSt → PairSt) : (s.setPair f).nts = s.nts := rfl
@[simp] theorem setPair_keys (f : PairSt → PairSt) : (s.setPair f).keys = s.keys := rfl
@[simp] theorem setPair_audio (f : PairSt → PairSt) : (s.setPair f).audio = s.audio := rfl
@[simp] theorem setPair_store (f : PairSt → PairSt) : (s.setPair f).store = s.store := rfl
@[simp] theorem setPair_facet (f : PairSt → PairSt) : (s.setPair f).facet = s.facet := rfl
@[simp] theorem setPair_chain (f : PairSt → PairSt) : (s.setPair f).chain = s.chain := rfl
@[simp] theorem setPair_age (f : PairSt → PairSt) : (s.setPair f).age = s.age := rfl
@[simp] theorem setPair_dram (f : PairSt → PairSt) : (s.setPair f).dram = s.dram := rfl
@[simp] theorem setPair_tapIr (f : PairSt → PairSt) : (s.setPair f).tapIr = s.tapIr := rfl
@[simp] theorem setPair_pending (f : PairSt → PairSt) : (s.setPair f).pending = s.pending := rfl
@[simp] theorem setPair_rd (f : PairSt → PairSt) (a : Nat) : (s.setPair f).rd a = s.rd a := rfl
@[simp] theorem setPair_rdn (f : PairSt → PairSt) (a : Nat) : (s.setPair f).rdn a = s.rdn a := rfl
@[simp] theorem setPair_fld (f : PairSt → PairSt) (a : Nat) (b : Bits) : (s.setPair f).fld a b = s.fld a b := rfl
@[simp] theorem setPair_bit (f : PairSt → PairSt) (a b : Nat) : (s.setPair f).bit a b = s.bit a b := rfl
@[simp] theorem setPair_on (f : PairSt → PairSt) (a : Nat) (b : Bits) : (s.setPair f).on a b = s.on a b := rfl

/-! ### setChain -/

@[simp] theorem setChain_chain (f : ChainSt → ChainSt) : (s.setChain f).chain = f s.chain := rfl
@[simp] theorem setChain_regs (f : ChainSt → ChainSt) : (s.setChain f).regs = s.regs := rfl
@[simp] theorem setChain_sent (f : ChainSt → ChainSt) : (s.setChain f).sent = s.sent := rfl
@[simp] theorem setChain_free (f : ChainSt → ChainSt) : (s.setChain f).free = s.free := rfl
@[simp] theorem setChain_edges (f : ChainSt → ChainSt) : (s.setChain f).edges = s.edges := rfl
@[simp] theorem setChain_edgeRem (f : ChainSt → ChainSt) : (s.setChain f).edgeRem = s.edgeRem := rfl
@[simp] theorem setChain_fault (f : ChainSt → ChainSt) : (s.setChain f).fault = s.fault := rfl
@[simp] theorem setChain_intc (f : ChainSt → ChainSt) : (s.setChain f).intc = s.intc := rfl
@[simp] theorem setChain_host (f : ChainSt → ChainSt) : (s.setChain f).host = s.host := rfl
@[simp] theorem setChain_pins (f : ChainSt → ChainSt) : (s.setChain f).pins = s.pins := rfl
@[simp] theorem setChain_loader (f : ChainSt → ChainSt) : (s.setChain f).loader = s.loader := rfl
@[simp] theorem setChain_otp (f : ChainSt → ChainSt) : (s.setChain f).otp = s.otp := rfl
@[simp] theorem setChain_staging (f : ChainSt → ChainSt) : (s.setChain f).staging = s.staging := rfl
@[simp] theorem setChain_reserve (f : ChainSt → ChainSt) : (s.setChain f).reserve = s.reserve := rfl
@[simp] theorem setChain_running (f : ChainSt → ChainSt) : (s.setChain f).running = s.running := rfl
@[simp] theorem setChain_ready (f : ChainSt → ChainSt) : (s.setChain f).ready = s.ready := rfl
@[simp] theorem setChain_tested (f : ChainSt → ChainSt) : (s.setChain f).tested = s.tested := rfl
@[simp] theorem setChain_refs (f : ChainSt → ChainSt) : (s.setChain f).refs = s.refs := rfl
@[simp] theorem setChain_sel (f : ChainSt → ChainSt) : (s.setChain f).sel = s.sel := rfl
@[simp] theorem setChain_hold (f : ChainSt → ChainSt) : (s.setChain f).hold = s.hold := rfl
@[simp] theorem setChain_synth (f : ChainSt → ChainSt) : (s.setChain f).synth = s.synth := rfl
@[simp] theorem setChain_loupe (f : ChainSt → ChainSt) : (s.setChain f).loupe = s.loupe := rfl
@[simp] theorem setChain_time (f : ChainSt → ChainSt) : (s.setChain f).time = s.time := rfl
@[simp] theorem setChain_gnss (f : ChainSt → ChainSt) : (s.setChain f).gnss = s.gnss := rfl
@[simp] theorem setChain_line (f : ChainSt → ChainSt) : (s.setChain f).line = s.line := rfl
@[simp] theorem setChain_queue (f : ChainSt → ChainSt) : (s.setChain f).queue = s.queue := rfl
@[simp] theorem setChain_ptp (f : ChainSt → ChainSt) : (s.setChain f).ptp = s.ptp := rfl
@[simp] theorem setChain_nts (f : ChainSt → ChainSt) : (s.setChain f).nts = s.nts := rfl
@[simp] theorem setChain_keys (f : ChainSt → ChainSt) : (s.setChain f).keys = s.keys := rfl
@[simp] theorem setChain_audio (f : ChainSt → ChainSt) : (s.setChain f).audio = s.audio := rfl
@[simp] theorem setChain_store (f : ChainSt → ChainSt) : (s.setChain f).store = s.store := rfl
@[simp] theorem setChain_facet (f : ChainSt → ChainSt) : (s.setChain f).facet = s.facet := rfl
@[simp] theorem setChain_pair (f : ChainSt → ChainSt) : (s.setChain f).pair = s.pair := rfl
@[simp] theorem setChain_age (f : ChainSt → ChainSt) : (s.setChain f).age = s.age := rfl
@[simp] theorem setChain_dram (f : ChainSt → ChainSt) : (s.setChain f).dram = s.dram := rfl
@[simp] theorem setChain_tapIr (f : ChainSt → ChainSt) : (s.setChain f).tapIr = s.tapIr := rfl
@[simp] theorem setChain_pending (f : ChainSt → ChainSt) : (s.setChain f).pending = s.pending := rfl
@[simp] theorem setChain_rd (f : ChainSt → ChainSt) (a : Nat) : (s.setChain f).rd a = s.rd a := rfl
@[simp] theorem setChain_rdn (f : ChainSt → ChainSt) (a : Nat) : (s.setChain f).rdn a = s.rdn a := rfl
@[simp] theorem setChain_fld (f : ChainSt → ChainSt) (a : Nat) (b : Bits) : (s.setChain f).fld a b = s.fld a b := rfl
@[simp] theorem setChain_bit (f : ChainSt → ChainSt) (a b : Nat) : (s.setChain f).bit a b = s.bit a b := rfl
@[simp] theorem setChain_on (f : ChainSt → ChainSt) (a : Nat) (b : Bits) : (s.setChain f).on a b = s.on a b := rfl

/-! ### setAge -/

@[simp] theorem setAge_age (f : AgeSt → AgeSt) : (s.setAge f).age = f s.age := rfl
@[simp] theorem setAge_regs (f : AgeSt → AgeSt) : (s.setAge f).regs = s.regs := rfl
@[simp] theorem setAge_sent (f : AgeSt → AgeSt) : (s.setAge f).sent = s.sent := rfl
@[simp] theorem setAge_free (f : AgeSt → AgeSt) : (s.setAge f).free = s.free := rfl
@[simp] theorem setAge_edges (f : AgeSt → AgeSt) : (s.setAge f).edges = s.edges := rfl
@[simp] theorem setAge_edgeRem (f : AgeSt → AgeSt) : (s.setAge f).edgeRem = s.edgeRem := rfl
@[simp] theorem setAge_fault (f : AgeSt → AgeSt) : (s.setAge f).fault = s.fault := rfl
@[simp] theorem setAge_intc (f : AgeSt → AgeSt) : (s.setAge f).intc = s.intc := rfl
@[simp] theorem setAge_host (f : AgeSt → AgeSt) : (s.setAge f).host = s.host := rfl
@[simp] theorem setAge_pins (f : AgeSt → AgeSt) : (s.setAge f).pins = s.pins := rfl
@[simp] theorem setAge_loader (f : AgeSt → AgeSt) : (s.setAge f).loader = s.loader := rfl
@[simp] theorem setAge_otp (f : AgeSt → AgeSt) : (s.setAge f).otp = s.otp := rfl
@[simp] theorem setAge_staging (f : AgeSt → AgeSt) : (s.setAge f).staging = s.staging := rfl
@[simp] theorem setAge_reserve (f : AgeSt → AgeSt) : (s.setAge f).reserve = s.reserve := rfl
@[simp] theorem setAge_running (f : AgeSt → AgeSt) : (s.setAge f).running = s.running := rfl
@[simp] theorem setAge_ready (f : AgeSt → AgeSt) : (s.setAge f).ready = s.ready := rfl
@[simp] theorem setAge_tested (f : AgeSt → AgeSt) : (s.setAge f).tested = s.tested := rfl
@[simp] theorem setAge_refs (f : AgeSt → AgeSt) : (s.setAge f).refs = s.refs := rfl
@[simp] theorem setAge_sel (f : AgeSt → AgeSt) : (s.setAge f).sel = s.sel := rfl
@[simp] theorem setAge_hold (f : AgeSt → AgeSt) : (s.setAge f).hold = s.hold := rfl
@[simp] theorem setAge_synth (f : AgeSt → AgeSt) : (s.setAge f).synth = s.synth := rfl
@[simp] theorem setAge_loupe (f : AgeSt → AgeSt) : (s.setAge f).loupe = s.loupe := rfl
@[simp] theorem setAge_time (f : AgeSt → AgeSt) : (s.setAge f).time = s.time := rfl
@[simp] theorem setAge_gnss (f : AgeSt → AgeSt) : (s.setAge f).gnss = s.gnss := rfl
@[simp] theorem setAge_line (f : AgeSt → AgeSt) : (s.setAge f).line = s.line := rfl
@[simp] theorem setAge_queue (f : AgeSt → AgeSt) : (s.setAge f).queue = s.queue := rfl
@[simp] theorem setAge_ptp (f : AgeSt → AgeSt) : (s.setAge f).ptp = s.ptp := rfl
@[simp] theorem setAge_nts (f : AgeSt → AgeSt) : (s.setAge f).nts = s.nts := rfl
@[simp] theorem setAge_keys (f : AgeSt → AgeSt) : (s.setAge f).keys = s.keys := rfl
@[simp] theorem setAge_audio (f : AgeSt → AgeSt) : (s.setAge f).audio = s.audio := rfl
@[simp] theorem setAge_store (f : AgeSt → AgeSt) : (s.setAge f).store = s.store := rfl
@[simp] theorem setAge_facet (f : AgeSt → AgeSt) : (s.setAge f).facet = s.facet := rfl
@[simp] theorem setAge_pair (f : AgeSt → AgeSt) : (s.setAge f).pair = s.pair := rfl
@[simp] theorem setAge_chain (f : AgeSt → AgeSt) : (s.setAge f).chain = s.chain := rfl
@[simp] theorem setAge_dram (f : AgeSt → AgeSt) : (s.setAge f).dram = s.dram := rfl
@[simp] theorem setAge_tapIr (f : AgeSt → AgeSt) : (s.setAge f).tapIr = s.tapIr := rfl
@[simp] theorem setAge_pending (f : AgeSt → AgeSt) : (s.setAge f).pending = s.pending := rfl
@[simp] theorem setAge_rd (f : AgeSt → AgeSt) (a : Nat) : (s.setAge f).rd a = s.rd a := rfl
@[simp] theorem setAge_rdn (f : AgeSt → AgeSt) (a : Nat) : (s.setAge f).rdn a = s.rdn a := rfl
@[simp] theorem setAge_fld (f : AgeSt → AgeSt) (a : Nat) (b : Bits) : (s.setAge f).fld a b = s.fld a b := rfl
@[simp] theorem setAge_bit (f : AgeSt → AgeSt) (a b : Nat) : (s.setAge f).bit a b = s.bit a b := rfl
@[simp] theorem setAge_on (f : AgeSt → AgeSt) (a : Nat) (b : Bits) : (s.setAge f).on a b = s.on a b := rfl

/-! ### setDram -/

@[simp] theorem setDram_dram (f : DramSt → DramSt) : (s.setDram f).dram = f s.dram := rfl
@[simp] theorem setDram_regs (f : DramSt → DramSt) : (s.setDram f).regs = s.regs := rfl
@[simp] theorem setDram_sent (f : DramSt → DramSt) : (s.setDram f).sent = s.sent := rfl
@[simp] theorem setDram_free (f : DramSt → DramSt) : (s.setDram f).free = s.free := rfl
@[simp] theorem setDram_edges (f : DramSt → DramSt) : (s.setDram f).edges = s.edges := rfl
@[simp] theorem setDram_edgeRem (f : DramSt → DramSt) : (s.setDram f).edgeRem = s.edgeRem := rfl
@[simp] theorem setDram_fault (f : DramSt → DramSt) : (s.setDram f).fault = s.fault := rfl
@[simp] theorem setDram_intc (f : DramSt → DramSt) : (s.setDram f).intc = s.intc := rfl
@[simp] theorem setDram_host (f : DramSt → DramSt) : (s.setDram f).host = s.host := rfl
@[simp] theorem setDram_pins (f : DramSt → DramSt) : (s.setDram f).pins = s.pins := rfl
@[simp] theorem setDram_loader (f : DramSt → DramSt) : (s.setDram f).loader = s.loader := rfl
@[simp] theorem setDram_otp (f : DramSt → DramSt) : (s.setDram f).otp = s.otp := rfl
@[simp] theorem setDram_staging (f : DramSt → DramSt) : (s.setDram f).staging = s.staging := rfl
@[simp] theorem setDram_reserve (f : DramSt → DramSt) : (s.setDram f).reserve = s.reserve := rfl
@[simp] theorem setDram_running (f : DramSt → DramSt) : (s.setDram f).running = s.running := rfl
@[simp] theorem setDram_ready (f : DramSt → DramSt) : (s.setDram f).ready = s.ready := rfl
@[simp] theorem setDram_tested (f : DramSt → DramSt) : (s.setDram f).tested = s.tested := rfl
@[simp] theorem setDram_refs (f : DramSt → DramSt) : (s.setDram f).refs = s.refs := rfl
@[simp] theorem setDram_sel (f : DramSt → DramSt) : (s.setDram f).sel = s.sel := rfl
@[simp] theorem setDram_hold (f : DramSt → DramSt) : (s.setDram f).hold = s.hold := rfl
@[simp] theorem setDram_synth (f : DramSt → DramSt) : (s.setDram f).synth = s.synth := rfl
@[simp] theorem setDram_loupe (f : DramSt → DramSt) : (s.setDram f).loupe = s.loupe := rfl
@[simp] theorem setDram_time (f : DramSt → DramSt) : (s.setDram f).time = s.time := rfl
@[simp] theorem setDram_gnss (f : DramSt → DramSt) : (s.setDram f).gnss = s.gnss := rfl
@[simp] theorem setDram_line (f : DramSt → DramSt) : (s.setDram f).line = s.line := rfl
@[simp] theorem setDram_queue (f : DramSt → DramSt) : (s.setDram f).queue = s.queue := rfl
@[simp] theorem setDram_ptp (f : DramSt → DramSt) : (s.setDram f).ptp = s.ptp := rfl
@[simp] theorem setDram_nts (f : DramSt → DramSt) : (s.setDram f).nts = s.nts := rfl
@[simp] theorem setDram_keys (f : DramSt → DramSt) : (s.setDram f).keys = s.keys := rfl
@[simp] theorem setDram_audio (f : DramSt → DramSt) : (s.setDram f).audio = s.audio := rfl
@[simp] theorem setDram_store (f : DramSt → DramSt) : (s.setDram f).store = s.store := rfl
@[simp] theorem setDram_facet (f : DramSt → DramSt) : (s.setDram f).facet = s.facet := rfl
@[simp] theorem setDram_pair (f : DramSt → DramSt) : (s.setDram f).pair = s.pair := rfl
@[simp] theorem setDram_chain (f : DramSt → DramSt) : (s.setDram f).chain = s.chain := rfl
@[simp] theorem setDram_age (f : DramSt → DramSt) : (s.setDram f).age = s.age := rfl
@[simp] theorem setDram_tapIr (f : DramSt → DramSt) : (s.setDram f).tapIr = s.tapIr := rfl
@[simp] theorem setDram_pending (f : DramSt → DramSt) : (s.setDram f).pending = s.pending := rfl
@[simp] theorem setDram_rd (f : DramSt → DramSt) (a : Nat) : (s.setDram f).rd a = s.rd a := rfl
@[simp] theorem setDram_rdn (f : DramSt → DramSt) (a : Nat) : (s.setDram f).rdn a = s.rdn a := rfl
@[simp] theorem setDram_fld (f : DramSt → DramSt) (a : Nat) (b : Bits) : (s.setDram f).fld a b = s.fld a b := rfl
@[simp] theorem setDram_bit (f : DramSt → DramSt) (a b : Nat) : (s.setDram f).bit a b = s.bit a b := rfl
@[simp] theorem setDram_on (f : DramSt → DramSt) (a : Nat) (b : Bits) : (s.setDram f).on a b = s.on a b := rfl

/-! ### Keyed parts -/

@[simp] theorem setRef_regs (n : Nat) (f : RefSt → RefSt) : (s.setRef n f).regs = s.regs := rfl
@[simp] theorem setRef_sent (n : Nat) (f : RefSt → RefSt) : (s.setRef n f).sent = s.sent := rfl
@[simp] theorem setRef_free (n : Nat) (f : RefSt → RefSt) : (s.setRef n f).free = s.free := rfl
@[simp] theorem setRef_edges (n : Nat) (f : RefSt → RefSt) : (s.setRef n f).edges = s.edges := rfl
@[simp] theorem setRef_fault (n : Nat) (f : RefSt → RefSt) : (s.setRef n f).fault = s.fault := rfl
@[simp] theorem setRef_intc (n : Nat) (f : RefSt → RefSt) : (s.setRef n f).intc = s.intc := rfl
@[simp] theorem setRef_pins (n : Nat) (f : RefSt → RefSt) : (s.setRef n f).pins = s.pins := rfl
@[simp] theorem setRef_pending (n : Nat) (f : RefSt → RefSt) : (s.setRef n f).pending = s.pending := rfl

@[simp] theorem setLine_regs (n : Nat) (f : LineSt → LineSt) : (s.setLine n f).regs = s.regs := rfl
@[simp] theorem setLine_sent (n : Nat) (f : LineSt → LineSt) : (s.setLine n f).sent = s.sent := rfl
@[simp] theorem setLine_free (n : Nat) (f : LineSt → LineSt) : (s.setLine n f).free = s.free := rfl
@[simp] theorem setLine_edges (n : Nat) (f : LineSt → LineSt) : (s.setLine n f).edges = s.edges := rfl
@[simp] theorem setLine_fault (n : Nat) (f : LineSt → LineSt) : (s.setLine n f).fault = s.fault := rfl
@[simp] theorem setLine_intc (n : Nat) (f : LineSt → LineSt) : (s.setLine n f).intc = s.intc := rfl
@[simp] theorem setLine_pins (n : Nat) (f : LineSt → LineSt) : (s.setLine n f).pins = s.pins := rfl
@[simp] theorem setLine_pending (n : Nat) (f : LineSt → LineSt) : (s.setLine n f).pending = s.pending := rfl

@[simp] theorem setLch_regs (n : Nat) (f : LoupeCh → LoupeCh) : (s.setLch n f).regs = s.regs := rfl
@[simp] theorem setLch_sent (n : Nat) (f : LoupeCh → LoupeCh) : (s.setLch n f).sent = s.sent := rfl
@[simp] theorem setLch_free (n : Nat) (f : LoupeCh → LoupeCh) : (s.setLch n f).free = s.free := rfl
@[simp] theorem setLch_edges (n : Nat) (f : LoupeCh → LoupeCh) : (s.setLch n f).edges = s.edges := rfl
@[simp] theorem setLch_fault (n : Nat) (f : LoupeCh → LoupeCh) : (s.setLch n f).fault = s.fault := rfl
@[simp] theorem setLch_intc (n : Nat) (f : LoupeCh → LoupeCh) : (s.setLch n f).intc = s.intc := rfl
@[simp] theorem setLch_pins (n : Nat) (f : LoupeCh → LoupeCh) : (s.setLch n f).pins = s.pins := rfl
@[simp] theorem setLch_pending (n : Nat) (f : LoupeCh → LoupeCh) : (s.setLch n f).pending = s.pending := rfl

@[simp] theorem setOut_regs (n : Nat) (f : OutSt → OutSt) : (s.setOut n f).regs = s.regs := rfl
@[simp] theorem setOut_sent (n : Nat) (f : OutSt → OutSt) : (s.setOut n f).sent = s.sent := rfl
@[simp] theorem setOut_free (n : Nat) (f : OutSt → OutSt) : (s.setOut n f).free = s.free := rfl
@[simp] theorem setOut_edges (n : Nat) (f : OutSt → OutSt) : (s.setOut n f).edges = s.edges := rfl
@[simp] theorem setOut_fault (n : Nat) (f : OutSt → OutSt) : (s.setOut n f).fault = s.fault := rfl
@[simp] theorem setOut_intc (n : Nat) (f : OutSt → OutSt) : (s.setOut n f).intc = s.intc := rfl
@[simp] theorem setOut_pins (n : Nat) (f : OutSt → OutSt) : (s.setOut n f).pins = s.pins := rfl
@[simp] theorem setOut_pending (n : Nat) (f : OutSt → OutSt) : (s.setOut n f).pending = s.pending := rfl

@[simp] theorem setSyn_regs (n : Nat) (f : SynSt → SynSt) : (s.setSyn n f).regs = s.regs := rfl
@[simp] theorem setSyn_sent (n : Nat) (f : SynSt → SynSt) : (s.setSyn n f).sent = s.sent := rfl
@[simp] theorem setSyn_free (n : Nat) (f : SynSt → SynSt) : (s.setSyn n f).free = s.free := rfl
@[simp] theorem setSyn_edges (n : Nat) (f : SynSt → SynSt) : (s.setSyn n f).edges = s.edges := rfl
@[simp] theorem setSyn_fault (n : Nat) (f : SynSt → SynSt) : (s.setSyn n f).fault = s.fault := rfl
@[simp] theorem setSyn_intc (n : Nat) (f : SynSt → SynSt) : (s.setSyn n f).intc = s.intc := rfl
@[simp] theorem setSyn_pins (n : Nat) (f : SynSt → SynSt) : (s.setSyn n f).pins = s.pins := rfl
@[simp] theorem setSyn_pending (n : Nat) (f : SynSt → SynSt) : (s.setSyn n f).pending = s.pending := rfl

@[simp] theorem setTb_regs (n : Nat) (f : TimeBase → TimeBase) : (s.setTb n f).regs = s.regs := rfl
@[simp] theorem setTb_sent (n : Nat) (f : TimeBase → TimeBase) : (s.setTb n f).sent = s.sent := rfl
@[simp] theorem setTb_free (n : Nat) (f : TimeBase → TimeBase) : (s.setTb n f).free = s.free := rfl
@[simp] theorem setTb_edges (n : Nat) (f : TimeBase → TimeBase) : (s.setTb n f).edges = s.edges := rfl
@[simp] theorem setTb_fault (n : Nat) (f : TimeBase → TimeBase) : (s.setTb n f).fault = s.fault := rfl
@[simp] theorem setTb_intc (n : Nat) (f : TimeBase → TimeBase) : (s.setTb n f).intc = s.intc := rfl
@[simp] theorem setTb_pins (n : Nat) (f : TimeBase → TimeBase) : (s.setTb n f).pins = s.pins := rfl
@[simp] theorem setTb_pending (n : Nat) (f : TimeBase → TimeBase) : (s.setTb n f).pending = s.pending := rfl

@[simp] theorem setGch_regs (n : Nat) (f : GnssCh → GnssCh) : (s.setGch n f).regs = s.regs := rfl
@[simp] theorem setGch_sent (n : Nat) (f : GnssCh → GnssCh) : (s.setGch n f).sent = s.sent := rfl
@[simp] theorem setGch_free (n : Nat) (f : GnssCh → GnssCh) : (s.setGch n f).free = s.free := rfl
@[simp] theorem setGch_edges (n : Nat) (f : GnssCh → GnssCh) : (s.setGch n f).edges = s.edges := rfl
@[simp] theorem setGch_fault (n : Nat) (f : GnssCh → GnssCh) : (s.setGch n f).fault = s.fault := rfl
@[simp] theorem setGch_intc (n : Nat) (f : GnssCh → GnssCh) : (s.setGch n f).intc = s.intc := rfl
@[simp] theorem setGch_pins (n : Nat) (f : GnssCh → GnssCh) : (s.setGch n f).pins = s.pins := rfl
@[simp] theorem setGch_pending (n : Nat) (f : GnssCh → GnssCh) : (s.setGch n f).pending = s.pending := rfl

@[simp] theorem setTxq_regs (n : Nat) (f : TxqSt → TxqSt) : (s.setTxq n f).regs = s.regs := rfl
@[simp] theorem setTxq_sent (n : Nat) (f : TxqSt → TxqSt) : (s.setTxq n f).sent = s.sent := rfl
@[simp] theorem setTxq_free (n : Nat) (f : TxqSt → TxqSt) : (s.setTxq n f).free = s.free := rfl
@[simp] theorem setTxq_edges (n : Nat) (f : TxqSt → TxqSt) : (s.setTxq n f).edges = s.edges := rfl
@[simp] theorem setTxq_fault (n : Nat) (f : TxqSt → TxqSt) : (s.setTxq n f).fault = s.fault := rfl
@[simp] theorem setTxq_intc (n : Nat) (f : TxqSt → TxqSt) : (s.setTxq n f).intc = s.intc := rfl
@[simp] theorem setTxq_pins (n : Nat) (f : TxqSt → TxqSt) : (s.setTxq n f).pins = s.pins := rfl
@[simp] theorem setTxq_pending (n : Nat) (f : TxqSt → TxqSt) : (s.setTxq n f).pending = s.pending := rfl

@[simp] theorem setRxq_regs (n : Nat) (f : RxqSt → RxqSt) : (s.setRxq n f).regs = s.regs := rfl
@[simp] theorem setRxq_sent (n : Nat) (f : RxqSt → RxqSt) : (s.setRxq n f).sent = s.sent := rfl
@[simp] theorem setRxq_free (n : Nat) (f : RxqSt → RxqSt) : (s.setRxq n f).free = s.free := rfl
@[simp] theorem setRxq_edges (n : Nat) (f : RxqSt → RxqSt) : (s.setRxq n f).edges = s.edges := rfl
@[simp] theorem setRxq_fault (n : Nat) (f : RxqSt → RxqSt) : (s.setRxq n f).fault = s.fault := rfl
@[simp] theorem setRxq_intc (n : Nat) (f : RxqSt → RxqSt) : (s.setRxq n f).intc = s.intc := rfl
@[simp] theorem setRxq_pins (n : Nat) (f : RxqSt → RxqSt) : (s.setRxq n f).pins = s.pins := rfl
@[simp] theorem setRxq_pending (n : Nat) (f : RxqSt → RxqSt) : (s.setRxq n f).pending = s.pending := rfl

@[simp] theorem setPport_regs (n : Nat) (f : PtpPort → PtpPort) : (s.setPport n f).regs = s.regs := rfl
@[simp] theorem setPport_sent (n : Nat) (f : PtpPort → PtpPort) : (s.setPport n f).sent = s.sent := rfl
@[simp] theorem setPport_free (n : Nat) (f : PtpPort → PtpPort) : (s.setPport n f).free = s.free := rfl
@[simp] theorem setPport_edges (n : Nat) (f : PtpPort → PtpPort) : (s.setPport n f).edges = s.edges := rfl
@[simp] theorem setPport_fault (n : Nat) (f : PtpPort → PtpPort) : (s.setPport n f).fault = s.fault := rfl
@[simp] theorem setPport_intc (n : Nat) (f : PtpPort → PtpPort) : (s.setPport n f).intc = s.intc := rfl
@[simp] theorem setPport_pins (n : Nat) (f : PtpPort → PtpPort) : (s.setPport n f).pins = s.pins := rfl
@[simp] theorem setPport_pending (n : Nat) (f : PtpPort → PtpPort) : (s.setPport n f).pending = s.pending := rfl

@[simp] theorem setSa_regs (n : Nat) (f : SaSt → SaSt) : (s.setSa n f).regs = s.regs := rfl
@[simp] theorem setSa_sent (n : Nat) (f : SaSt → SaSt) : (s.setSa n f).sent = s.sent := rfl
@[simp] theorem setSa_free (n : Nat) (f : SaSt → SaSt) : (s.setSa n f).free = s.free := rfl
@[simp] theorem setSa_edges (n : Nat) (f : SaSt → SaSt) : (s.setSa n f).edges = s.edges := rfl
@[simp] theorem setSa_fault (n : Nat) (f : SaSt → SaSt) : (s.setSa n f).fault = s.fault := rfl
@[simp] theorem setSa_intc (n : Nat) (f : SaSt → SaSt) : (s.setSa n f).intc = s.intc := rfl
@[simp] theorem setSa_pins (n : Nat) (f : SaSt → SaSt) : (s.setSa n f).pins = s.pins := rfl
@[simp] theorem setSa_pending (n : Nat) (f : SaSt → SaSt) : (s.setSa n f).pending = s.pending := rfl

@[simp] theorem setRx_regs (n : Nat) (f : RxSt → RxSt) : (s.setRx n f).regs = s.regs := rfl
@[simp] theorem setRx_sent (n : Nat) (f : RxSt → RxSt) : (s.setRx n f).sent = s.sent := rfl
@[simp] theorem setRx_free (n : Nat) (f : RxSt → RxSt) : (s.setRx n f).free = s.free := rfl
@[simp] theorem setRx_edges (n : Nat) (f : RxSt → RxSt) : (s.setRx n f).edges = s.edges := rfl
@[simp] theorem setRx_fault (n : Nat) (f : RxSt → RxSt) : (s.setRx n f).fault = s.fault := rfl
@[simp] theorem setRx_intc (n : Nat) (f : RxSt → RxSt) : (s.setRx n f).intc = s.intc := rfl
@[simp] theorem setRx_pins (n : Nat) (f : RxSt → RxSt) : (s.setRx n f).pins = s.pins := rfl
@[simp] theorem setRx_pending (n : Nat) (f : RxSt → RxSt) : (s.setRx n f).pending = s.pending := rfl

@[simp] theorem setTx_regs (n : Nat) (f : TxSt → TxSt) : (s.setTx n f).regs = s.regs := rfl
@[simp] theorem setTx_sent (n : Nat) (f : TxSt → TxSt) : (s.setTx n f).sent = s.sent := rfl
@[simp] theorem setTx_free (n : Nat) (f : TxSt → TxSt) : (s.setTx n f).free = s.free := rfl
@[simp] theorem setTx_edges (n : Nat) (f : TxSt → TxSt) : (s.setTx n f).edges = s.edges := rfl
@[simp] theorem setTx_fault (n : Nat) (f : TxSt → TxSt) : (s.setTx n f).fault = s.fault := rfl
@[simp] theorem setTx_intc (n : Nat) (f : TxSt → TxSt) : (s.setTx n f).intc = s.intc := rfl
@[simp] theorem setTx_pins (n : Nat) (f : TxSt → TxSt) : (s.setTx n f).pins = s.pins := rfl
@[simp] theorem setTx_pending (n : Nat) (f : TxSt → TxSt) : (s.setTx n f).pending = s.pending := rfl

@[simp] theorem setAsrc_regs (n : Nat) (f : AsrcSt → AsrcSt) : (s.setAsrc n f).regs = s.regs := rfl
@[simp] theorem setAsrc_sent (n : Nat) (f : AsrcSt → AsrcSt) : (s.setAsrc n f).sent = s.sent := rfl
@[simp] theorem setAsrc_free (n : Nat) (f : AsrcSt → AsrcSt) : (s.setAsrc n f).free = s.free := rfl
@[simp] theorem setAsrc_edges (n : Nat) (f : AsrcSt → AsrcSt) : (s.setAsrc n f).edges = s.edges := rfl
@[simp] theorem setAsrc_fault (n : Nat) (f : AsrcSt → AsrcSt) : (s.setAsrc n f).fault = s.fault := rfl
@[simp] theorem setAsrc_intc (n : Nat) (f : AsrcSt → AsrcSt) : (s.setAsrc n f).intc = s.intc := rfl
@[simp] theorem setAsrc_pins (n : Nat) (f : AsrcSt → AsrcSt) : (s.setAsrc n f).pins = s.pins := rfl
@[simp] theorem setAsrc_pending (n : Nat) (f : AsrcSt → AsrcSt) : (s.setAsrc n f).pending = s.pending := rfl

@[simp] theorem setBridge_regs (n : Nat) (f : BridgeSt → BridgeSt) : (s.setBridge n f).regs = s.regs := rfl
@[simp] theorem setBridge_sent (n : Nat) (f : BridgeSt → BridgeSt) : (s.setBridge n f).sent = s.sent := rfl
@[simp] theorem setBridge_free (n : Nat) (f : BridgeSt → BridgeSt) : (s.setBridge n f).free = s.free := rfl
@[simp] theorem setBridge_edges (n : Nat) (f : BridgeSt → BridgeSt) : (s.setBridge n f).edges = s.edges := rfl
@[simp] theorem setBridge_fault (n : Nat) (f : BridgeSt → BridgeSt) : (s.setBridge n f).fault = s.fault := rfl
@[simp] theorem setBridge_intc (n : Nat) (f : BridgeSt → BridgeSt) : (s.setBridge n f).intc = s.intc := rfl
@[simp] theorem setBridge_pins (n : Nat) (f : BridgeSt → BridgeSt) : (s.setBridge n f).pins = s.pins := rfl
@[simp] theorem setBridge_pending (n : Nat) (f : BridgeSt → BridgeSt) : (s.setBridge n f).pending = s.pending := rfl

@[simp] theorem setDom_regs (n : Nat) (f : DomainSt → DomainSt) : (s.setDom n f).regs = s.regs := rfl
@[simp] theorem setDom_sent (n : Nat) (f : DomainSt → DomainSt) : (s.setDom n f).sent = s.sent := rfl
@[simp] theorem setDom_free (n : Nat) (f : DomainSt → DomainSt) : (s.setDom n f).free = s.free := rfl
@[simp] theorem setDom_edges (n : Nat) (f : DomainSt → DomainSt) : (s.setDom n f).edges = s.edges := rfl
@[simp] theorem setDom_fault (n : Nat) (f : DomainSt → DomainSt) : (s.setDom n f).fault = s.fault := rfl
@[simp] theorem setDom_intc (n : Nat) (f : DomainSt → DomainSt) : (s.setDom n f).intc = s.intc := rfl
@[simp] theorem setDom_pins (n : Nat) (f : DomainSt → DomainSt) : (s.setDom n f).pins = s.pins := rfl
@[simp] theorem setDom_pending (n : Nat) (f : DomainSt → DomainSt) : (s.setDom n f).pending = s.pending := rfl

@[simp] theorem setRoute_regs (n : Nat) (f : RouteE → RouteE) : (s.setRoute n f).regs = s.regs := rfl
@[simp] theorem setRoute_sent (n : Nat) (f : RouteE → RouteE) : (s.setRoute n f).sent = s.sent := rfl
@[simp] theorem setRoute_free (n : Nat) (f : RouteE → RouteE) : (s.setRoute n f).free = s.free := rfl
@[simp] theorem setRoute_edges (n : Nat) (f : RouteE → RouteE) : (s.setRoute n f).edges = s.edges := rfl
@[simp] theorem setRoute_fault (n : Nat) (f : RouteE → RouteE) : (s.setRoute n f).fault = s.fault := rfl
@[simp] theorem setRoute_intc (n : Nat) (f : RouteE → RouteE) : (s.setRoute n f).intc = s.intc := rfl
@[simp] theorem setRoute_pins (n : Nat) (f : RouteE → RouteE) : (s.setRoute n f).pins = s.pins := rfl
@[simp] theorem setRoute_pending (n : Nat) (f : RouteE → RouteE) : (s.setRoute n f).pending = s.pending := rfl

@[simp] theorem setBus_regs (n : Nat) (f : MixBus → MixBus) : (s.setBus n f).regs = s.regs := rfl
@[simp] theorem setBus_sent (n : Nat) (f : MixBus → MixBus) : (s.setBus n f).sent = s.sent := rfl
@[simp] theorem setBus_free (n : Nat) (f : MixBus → MixBus) : (s.setBus n f).free = s.free := rfl
@[simp] theorem setBus_edges (n : Nat) (f : MixBus → MixBus) : (s.setBus n f).edges = s.edges := rfl
@[simp] theorem setBus_fault (n : Nat) (f : MixBus → MixBus) : (s.setBus n f).fault = s.fault := rfl
@[simp] theorem setBus_intc (n : Nat) (f : MixBus → MixBus) : (s.setBus n f).intc = s.intc := rfl
@[simp] theorem setBus_pins (n : Nat) (f : MixBus → MixBus) : (s.setBus n f).pins = s.pins := rfl
@[simp] theorem setBus_pending (n : Nat) (f : MixBus → MixBus) : (s.setBus n f).pending = s.pending := rfl

@[simp] theorem setLineE_regs (n : Nat) (f : DelayLine → DelayLine) : (s.setLineE n f).regs = s.regs := rfl
@[simp] theorem setLineE_sent (n : Nat) (f : DelayLine → DelayLine) : (s.setLineE n f).sent = s.sent := rfl
@[simp] theorem setLineE_free (n : Nat) (f : DelayLine → DelayLine) : (s.setLineE n f).free = s.free := rfl
@[simp] theorem setLineE_edges (n : Nat) (f : DelayLine → DelayLine) : (s.setLineE n f).edges = s.edges := rfl
@[simp] theorem setLineE_fault (n : Nat) (f : DelayLine → DelayLine) : (s.setLineE n f).fault = s.fault := rfl
@[simp] theorem setLineE_intc (n : Nat) (f : DelayLine → DelayLine) : (s.setLineE n f).intc = s.intc := rfl
@[simp] theorem setLineE_pins (n : Nat) (f : DelayLine → DelayLine) : (s.setLineE n f).pins = s.pins := rfl
@[simp] theorem setLineE_pending (n : Nat) (f : DelayLine → DelayLine) : (s.setLineE n f).pending = s.pending := rfl

@[simp] theorem setMeter_regs (n : Nat) (f : MeterSt → MeterSt) : (s.setMeter n f).regs = s.regs := rfl
@[simp] theorem setMeter_sent (n : Nat) (f : MeterSt → MeterSt) : (s.setMeter n f).sent = s.sent := rfl
@[simp] theorem setMeter_free (n : Nat) (f : MeterSt → MeterSt) : (s.setMeter n f).free = s.free := rfl
@[simp] theorem setMeter_edges (n : Nat) (f : MeterSt → MeterSt) : (s.setMeter n f).edges = s.edges := rfl
@[simp] theorem setMeter_fault (n : Nat) (f : MeterSt → MeterSt) : (s.setMeter n f).fault = s.fault := rfl
@[simp] theorem setMeter_intc (n : Nat) (f : MeterSt → MeterSt) : (s.setMeter n f).intc = s.intc := rfl
@[simp] theorem setMeter_pins (n : Nat) (f : MeterSt → MeterSt) : (s.setMeter n f).pins = s.pins := rfl
@[simp] theorem setMeter_pending (n : Nat) (f : MeterSt → MeterSt) : (s.setMeter n f).pending = s.pending := rfl

@[simp] theorem setItgt_regs (n : Nat) (f : TargetSt → TargetSt) : (s.setItgt n f).regs = s.regs := rfl
@[simp] theorem setItgt_sent (n : Nat) (f : TargetSt → TargetSt) : (s.setItgt n f).sent = s.sent := rfl
@[simp] theorem setItgt_free (n : Nat) (f : TargetSt → TargetSt) : (s.setItgt n f).free = s.free := rfl
@[simp] theorem setItgt_edges (n : Nat) (f : TargetSt → TargetSt) : (s.setItgt n f).edges = s.edges := rfl
@[simp] theorem setItgt_fault (n : Nat) (f : TargetSt → TargetSt) : (s.setItgt n f).fault = s.fault := rfl
@[simp] theorem setItgt_pins (n : Nat) (f : TargetSt → TargetSt) : (s.setItgt n f).pins = s.pins := rfl
@[simp] theorem setItgt_pending (n : Nat) (f : TargetSt → TargetSt) : (s.setItgt n f).pending = s.pending := rfl

@[simp] theorem setLaneF_regs (n : Nat) (f : LaneSt → LaneSt) : (s.setLaneF n f).regs = s.regs := rfl
@[simp] theorem setLaneF_sent (n : Nat) (f : LaneSt → LaneSt) : (s.setLaneF n f).sent = s.sent := rfl
@[simp] theorem setLaneF_free (n : Nat) (f : LaneSt → LaneSt) : (s.setLaneF n f).free = s.free := rfl
@[simp] theorem setLaneF_edges (n : Nat) (f : LaneSt → LaneSt) : (s.setLaneF n f).edges = s.edges := rfl
@[simp] theorem setLaneF_fault (n : Nat) (f : LaneSt → LaneSt) : (s.setLaneF n f).fault = s.fault := rfl
@[simp] theorem setLaneF_intc (n : Nat) (f : LaneSt → LaneSt) : (s.setLaneF n f).intc = s.intc := rfl
@[simp] theorem setLaneF_pins (n : Nat) (f : LaneSt → LaneSt) : (s.setLaneF n f).pins = s.pins := rfl
@[simp] theorem setLaneF_pending (n : Nat) (f : LaneSt → LaneSt) : (s.setLaneF n f).pending = s.pending := rfl

@[simp] theorem setTask_regs (n : Nat) (f : TaskSt → TaskSt) : (s.setTask n f).regs = s.regs := rfl
@[simp] theorem setTask_sent (n : Nat) (f : TaskSt → TaskSt) : (s.setTask n f).sent = s.sent := rfl
@[simp] theorem setTask_free (n : Nat) (f : TaskSt → TaskSt) : (s.setTask n f).free = s.free := rfl
@[simp] theorem setTask_edges (n : Nat) (f : TaskSt → TaskSt) : (s.setTask n f).edges = s.edges := rfl
@[simp] theorem setTask_fault (n : Nat) (f : TaskSt → TaskSt) : (s.setTask n f).fault = s.fault := rfl
@[simp] theorem setTask_intc (n : Nat) (f : TaskSt → TaskSt) : (s.setTask n f).intc = s.intc := rfl
@[simp] theorem setTask_pins (n : Nat) (f : TaskSt → TaskSt) : (s.setTask n f).pins = s.pins := rfl
@[simp] theorem setTask_pending (n : Nat) (f : TaskSt → TaskSt) : (s.setTask n f).pending = s.pending := rfl

@[simp] theorem setCside_regs (n : Nat) (f : ChainSide → ChainSide) : (s.setCside n f).regs = s.regs := rfl
@[simp] theorem setCside_sent (n : Nat) (f : ChainSide → ChainSide) : (s.setCside n f).sent = s.sent := rfl
@[simp] theorem setCside_free (n : Nat) (f : ChainSide → ChainSide) : (s.setCside n f).free = s.free := rfl
@[simp] theorem setCside_edges (n : Nat) (f : ChainSide → ChainSide) : (s.setCside n f).edges = s.edges := rfl
@[simp] theorem setCside_fault (n : Nat) (f : ChainSide → ChainSide) : (s.setCside n f).fault = s.fault := rfl
@[simp] theorem setCside_intc (n : Nat) (f : ChainSide → ChainSide) : (s.setCside n f).intc = s.intc := rfl
@[simp] theorem setCside_pins (n : Nat) (f : ChainSide → ChainSide) : (s.setCside n f).pins = s.pins := rfl
@[simp] theorem setCside_pending (n : Nat) (f : ChainSide → ChainSide) : (s.setCside n f).pending = s.pending := rfl

@[simp] theorem setSentinel_regs (n : Nat) (f : Sentinel → Sentinel) : (s.setSentinel n f).regs = s.regs := rfl
@[simp] theorem setSentinel_sent (n : Nat) (f : Sentinel → Sentinel) : (s.setSentinel n f).sent = s.sent := rfl
@[simp] theorem setSentinel_free (n : Nat) (f : Sentinel → Sentinel) : (s.setSentinel n f).free = s.free := rfl
@[simp] theorem setSentinel_edges (n : Nat) (f : Sentinel → Sentinel) : (s.setSentinel n f).edges = s.edges := rfl
@[simp] theorem setSentinel_fault (n : Nat) (f : Sentinel → Sentinel) : (s.setSentinel n f).fault = s.fault := rfl
@[simp] theorem setSentinel_intc (n : Nat) (f : Sentinel → Sentinel) : (s.setSentinel n f).intc = s.intc := rfl
@[simp] theorem setSentinel_pins (n : Nat) (f : Sentinel → Sentinel) : (s.setSentinel n f).pins = s.pins := rfl
@[simp] theorem setSentinel_pending (n : Nat) (f : Sentinel → Sentinel) : (s.setSentinel n f).pending = s.pending := rfl

end Sys2Proof.Machine.State
end

