-- ==== Sys2Proof/Laws/Memory.lean ====
section
/-!
SUPPORT. The octet memories of the staging window (R49): every operation on them keeps the canonical form, a read after a write
gives the octets written, and a write leaves every other octet alone.
-/

namespace Sys2Proof.Machine

namespace SMap

variable {α : Type} [DecidableEq α]

theorem get_setRun_before (d : α) (m : SMap α) (k j : Nat) (vs : List α) (h : j < k) : get d (setRun d m k vs) j = get d m j := by
  induction vs generalizing m k with
  | nil => rfl
  | cons v vs ih => rw [setRun, ih _ _ (by omega), get_set_other _ _ _ _ (by omega)]

theorem get_setRun_after (d : α) (m : SMap α) (k j : Nat) (vs : List α) (h : k + vs.length ≤ j) :
    get d (setRun d m k vs) j = get d m j := by
  induction vs generalizing m k with
  | nil => rfl
  | cons v vs ih =>
    simp only [List.length_cons] at h
    rw [setRun, ih _ _ (by omega), get_set_other _ _ _ _ (by omega)]

theorem getRun_setRun (d : α) (m : SMap α) (k : Nat) (vs : List α) : getRun d (setRun d m k vs) k vs.length = vs := by
  induction vs generalizing m k with
  | nil => rfl
  | cons v vs ih =>
    simp only [List.length_cons, getRun, setRun]
    rw [get_setRun_before _ _ _ _ _ (by omega), get_set_same, ih]

end SMap

/-- A write of the staging window keeps both memories canonical. -/
theorem State.stagingWrite_memWf (s : State) (off : Nat) (bs : List Byte) (h : s.memWf = true) : (s.stagingWrite off bs).memWf = true := by
  simp only [State.memWf, Bool.and_eq_true] at h ⊢
  unfold State.stagingWrite
  split
  · split
    · exact ⟨h.1, SMap.wf_setRun off bs h.2⟩
    · exact h
  · exact ⟨SMap.wf_setRun off bs h.1, h.2⟩

/-- Emptying a memory keeps it canonical. -/
theorem Memory.wf_nil : Memory.wf [] = true := rfl

/-- Octets written through the staging window read back, unless it reaches nothing. -/
theorem State.stagingRead_stagingWrite (s : State) (off : Nat) (bs : List Byte)
    (h : (s.loader.built && !s.dramTrained) = false) : (s.stagingWrite off bs).stagingRead off bs.length = bs := by
  unfold State.stagingWrite
  cases hb : s.loader.built with
  | false => simp [State.stagingRead, hb, SMap.getRun_setRun]
  | true =>
    simp only [hb, Bool.true_and, Bool.not_eq_false'] at h
    have h' : ∀ m, State.dramTrained { s with reserve := m } = true := fun _ => h
    simp [State.stagingRead, hb, h, h', SMap.getRun_setRun]

/-- A write of the staging window changes no register. -/
@[simp] theorem State.stagingWrite_regs (s : State) (off : Nat) (bs : List Byte) : (s.stagingWrite off bs).regs = s.regs := by
  unfold State.stagingWrite
  split
  · split <;> rfl
  · rfl

end Sys2Proof.Machine
end

