-- ==== Sys2Proof/Tests/Slice0.lean ====
section
/-!
SUPPORT. Tests: ill-formed commands each check refuses, single steps against values of the spec, and for each statement a
theorem that a concrete state and operands meet the hypotheses of each of its clauses.
-/

namespace Sys2Proof.Tests

open Sys2Proof.Machine Sys2Proof.Machine.State

-- one theorem at a time: each elaborator thread reserves a large stack
set_option Elab.async false

/-- The state after reset with registers written. -/
def regs (ps : List (Nat × Nat)) (s : State := State.reset) : State := ps.foldl (fun s p => s.wrn p.1 p.2) s

/-- The state after reset with fields of registers written. -/
def flds (ps : List (Nat × Bits × Nat)) (s : State := State.reset) : State := ps.foldl (fun s p => s.put p.1 p.2.1 p.2.2) s

/-! ### Ill-formed commands are refused -/

theorem test_wf_bar0 : (Instr.hostRegisterWrite .pcie 0x1000000 0).wf = false := by decide
theorem test_wf_window : (Instr.bar2WindowWrite .pcie 0x3FFFFFF [some 0, some 0]).wf = false := by decide
theorem test_wf_survey : (Instr.synSurveyDone 0 [] []).wf = false := by decide
theorem test_wf_host : (Instr.readLoLatch .spi 0x1000000).wf = false ∧ (Instr.writeLoHold .spi 0x1000000 0).wf = false ∧
    (Instr.writeHiCommit .spi 0x1000000 0).wf = false := by decide
theorem test_wf_launch : (Instr.serialLaunch 0 [48]).wf = false := by decide
theorem test_wf_vid : (Instr.vidAdjust []).wf = false := by decide
theorem test_wf_measure : (Instr.sentinelMeasure [] (List.replicate 16 0) 0).wf = false ∧
    (Instr.sentinelMeasure (List.replicate 20 (0, 0)) [] 0).wf = false := by decide
theorem test_wf_train : (Instr.dramTrainDone none 0 0 []).wf = false := by decide
theorem test_wf_spi : (Instr.spiUnknownCommand 0x02 0).wf = false := by decide
theorem test_wf_tap : (Instr.tapOtherCode 0x06).wf = false ∧ (Instr.tapOtherCode 0xFF).wf = false := by decide
theorem test_wf_fetch (octets : List Byte) (h : octets.length = 2 ^ 24 + 1) : (Instr.structFetchComplete octets).wf = false := by
  simp [Instr.wf, h]
theorem test_wf_monitor (balls : List (BitVec 16)) (h : balls.length = 78126) : (Instr.gnssFeMonitor 0 balls).wf = false := by
  simp [Instr.wf, h]
theorem test_wf_page (errs : List (BitVec 33 × Byte × Option Nat)) (h : errs.length = 2049) : (Instr.pagerPageFetch 0 0 errs).wf = false := by
  simp [Instr.wf, h]
theorem test_wf_mirror : (Instr.ivernMirrorRx 0 false 0 0 1 []).wf = false := by decide

/-! ### Single steps and values of the spec -/

/-- An idle step passes one GRID edge, at reset one of the bypass clock from an OSC of 10 MHz: 62.5 periods of 1.6 ns (R15, R23; log entry 3). -/
theorem test_reset_step : (match step State.reset with | .next t => (t.edges, t.edgeRem) | _ => (0, 0)) = (62, 2) := by decide +kernel

/-- FAULT_SOFT makes an event of source 47 with [15:0] as its DETAIL (R533). -/
theorem test_soft : (match exec (.faultSoft 0xABCD1234) State.reset with | .next t => t.fault.strobes | _ => []) = [(47, 0x1234, false)] := by
  decide +kernel

/-- CRC-32 with the IEEE 802.3 polynomial and the chain's CRC-8 of "123456789" have their published check values (R36, R502). -/
theorem test_crc : crc32 [0x31, 0x32, 0x33, 0x34, 0x35, 0x36, 0x37, 0x38, 0x39] = 0xCBF43926 ∧
    crcM 8 0x07 0 [0x31, 0x32, 0x33, 0x34, 0x35, 0x36, 0x37, 0x38, 0x39] = 0xF4 := by decide +kernel

/-- The structure survives no chip reset, the cause of which is 2 (R592). -/
theorem test_global : (match exec (.globalReset 0xC5) { State.reset with running := true, loader := { built := true } } with
    | .next t => (t.loader.built, t.rdn Reg.globalResetCause) | _ => (true, 0)) = (false, 2) := by decide +kernel

/-- An SPI word goes most significant octet first into an open staging window, whose octets are little-endian (R49, R583). -/
theorem test_spi : (match exec (.spiWriteBar2 4 [1, 2, 3, 4]) { State.reset with running := true, ready := true } with
    | .next t => t.stagingRead 4 4 | _ => []) = [4, 3, 2, 1] := by decide +kernel

/-! ### Witnesses: time bases -/

theorem wit_TimeSnapAndLeapTable :
    (∃ s : State, s.leapStaged ≠ [] ∧ s.leapRefused s.leapStaged = false) ∧ (∃ s : State, s.leapRefused s.leapStaged = true) ∧
    (∃ v : Word, v ≠ 1) :=
  ⟨⟨regs [(Reg.leapLo 0, 1798761601), (Reg.leapHi 0, 0x40000000)], by decide +kernel⟩,
   ⟨regs [(Reg.leapLo 0, 1798761600), (Reg.leapHi 0, 0xC0000000)], by decide +kernel⟩, 0, by decide⟩

theorem wit_StepsAndServosOfTimeBases :
    (∃ s : State, (s.tb 1).req = none) ∧ (∃ s : State, (s.tb 1).req ≠ none) ∧
    (∃ (s : State) (d : Int), (s.tb 1).req = some (.by d)) ∧ (∃ s : State, (s.tb 7).req = some (.to (2 ^ 48 - 1) 999999999)) ∧
    (∃ s : State, (s.tb 0).req = some (.by (-1)) ∧ wrapTime (((s.tb 0).t : Int) + (-1) * 2 ^ 32) / secondFine ≤ s.seconds 0) ∧
    (∃ s : State, s.tbSrc 1 = 5 ∧ ofsVerdict (s.tick 1) (s.rd64 (Reg.tbOfsTimeLo 1)) = 0 ∧
      s.fld (Reg.tbCtrl 1) Fld.tbCtrl_STEP_EN = 0) ∧
    (∃ s : State, s.tbSrc 1 = 5 ∧ ofsVerdict (s.tick 1) (s.rd64 (Reg.tbOfsTimeLo 1)) = 0 ∧ (s.tb 1).req = none ∧
      s.fld (Reg.tbCtrl 1) Fld.tbCtrl_STEP_EN = 1 ∧ s.rdn (Reg.tbStepThr 1) * 65536 < (s.rd64i (Reg.tbOfsLo 1)).natAbs) ∧
    (∃ s : State, s.tbSrc 1 ≠ 5) ∧ (∃ s : State, s.fld (Reg.tbStatus 1) Fld.tbStatus_STATE = 1) ∧
    (∃ s : State, s.fld (Reg.tbStatus 1) Fld.tbStatus_STATE = 0) ∧ (∃ s : State, s.fld (Reg.tbStatus 1) Fld.tbStatus_STATE ≠ 0) :=
  ⟨⟨State.reset, by decide +kernel⟩, ⟨{ State.reset with time := { tb := [(1, { req := some (.by 5) })] } }, by decide +kernel⟩,
   ⟨{ State.reset with time := { tb := [(1, { req := some (.by 5) })] } }, 5, by decide +kernel⟩,
   ⟨{ State.reset with time := { tb := [(7, { req := some (.to (2 ^ 48 - 1) 999999999) })] } }, by decide +kernel⟩,
   ⟨{ State.reset with time := { tb := [(0, { t := secondFine + 2 ^ 32, req := some (.by (-1)) })] } }, by decide +kernel⟩,
   ⟨flds [(Reg.tbCtrl 1, Fld.tbCtrl_SRC, 5)], by decide +kernel⟩,
   ⟨flds [(Reg.tbCtrl 1, Fld.tbCtrl_SRC, 5), (Reg.tbCtrl 1, Fld.tbCtrl_STEP_EN, 1)] (regs [(Reg.tbStepThr 1, 1), (Reg.tbOfsLo 1, 65537)]),
     by decide +kernel⟩, ⟨State.reset, by decide +kernel⟩,
   ⟨flds [(Reg.tbStatus 1, Fld.tbStatus_STATE, 1)], by decide +kernel⟩, ⟨State.reset, by decide +kernel⟩,
   flds [(Reg.tbStatus 1, Fld.tbStatus_STATE, 2)], by decide +kernel⟩

theorem wit_CompareUnitsArmFireAndRelease :
    (∃ s : State, s.bit (Reg.tbCmpCtrl 7 3) 0 = false ∧ s.cmpDue 7 3 = false) ∧
    (∃ s : State, s.bit (Reg.tbCmpCtrl 7 3) 0 = true ∧ s.bit (Reg.tbCmpCtrl 7 3) 1 = false ∧ s.cmpDue 7 3 = true) ∧
    (∃ s : State, s.bit (Reg.tbCmpCtrl 7 3) 0 = false ∧ s.cmpDue 7 3 = true) ∧
    (∃ s : State, s.bit (Reg.tbCmpCtrl 7 3) 0 = true ∧ s.bit (Reg.tbCmpCtrl 7 3) 1 = true ∧ s.rdn (Reg.tbCmpPeriod 7 3) ≠ 0 ∧
      s.cmpDue 7 3 = true ∧ tickDiff (s.tick 7) (s.rd64 (Reg.tbCmpTargetLo 7 3) + s.rdn (Reg.tbCmpPeriod 7 3) * 65536) < 0) ∧
    (∃ s : State, (s.time.tbev.get {} 3).pulse = none) ∧
    (∃ (s : State) (x : Int), (s.time.tbev.get {} 3).pulse = some x ∧
      s.monitorNow < x + max 1 (s.fld (Reg.tbevCfg 3) Fld.tbevCfg_WIDTH) * usTicks) ∧
    (∃ (s : State) (x : Int), (s.time.tbev.get {} 3).pulse = some x ∧
      x + max 1 (s.fld (Reg.tbevCfg 3) Fld.tbevCfg_WIDTH) * usTicks ≤ s.monitorNow) :=
  ⟨⟨regs [(Reg.tbCmpTargetLo 7 3, 1)], by decide +kernel⟩, ⟨regs [(Reg.tbCmpCtrl 7 3, 1)], by decide +kernel⟩,
   ⟨State.reset, by decide +kernel⟩, ⟨regs [(Reg.tbCmpCtrl 7 3, 3), (Reg.tbCmpPeriod 7 3, 1)], by decide +kernel⟩,
   ⟨State.reset, by decide +kernel⟩,
   ⟨{ flds [(Reg.tbevCfg 3, Fld.tbevCfg_WIDTH, 0)] with time := { tbev := [(3, { pulse := some (1 - 65536000) })] } }, 1 - 65536000,
     by decide +kernel⟩,
   { flds [(Reg.tbevCfg 3, Fld.tbevCfg_WIDTH, 0)] with time := { tbev := [(3, { pulse := some (-65536000) })] } }, -65536000, by decide +kernel⟩

/-! ### Witnesses: structure loader -/

theorem wit_LoaderStatesFollowR51 :
    (∃ s : State, s.loader.state ∈ [LoaderState.waitHost, .failed, .built] ∧ s.fld Reg.structSrc ⟨0, 2⟩ = 3) ∧
    (∃ s : State, s.loader.state ∈ [LoaderState.waitHost, .failed, .built] ∧ s.fld Reg.structSrc ⟨0, 2⟩ = 1) ∧
    (∃ s : State, s.loader.state ∉ [LoaderState.waitHost, .failed, .built]) ∧
    (∃ s : State, s.loader.state ∈ [LoaderState.fetch, .check]) ∧ (∃ s : State, s.loader.state = .fetch) ∧
    (∃ s : State, s.loader.state = .empty ∧ s.running = true ∧ s.tested = true ∧ s.bit Reg.structStraps 0 = true) ∧
    (∃ s : State, s.loader.state = .empty ∧ s.running = true ∧ s.tested = true ∧ s.bit Reg.structStraps 0 = false) ∧
    (∃ s : State, s.loader.state ≠ .empty) ∧ (∃ s : State, s.running = false) ∧ (∃ s : State, s.tested = false) ∧
    (∃ s : State, s.loader.state = .fetch ∧ s.loader.source = 1) ∧
    (∃ s : State, s.loader.state = .fetch ∧ s.loader.source = 2 ∧ s.loader.built = true) :=
  ⟨⟨regs [(Reg.structSrc, 3)] { State.reset with loader := { state := .failed } }, by decide +kernel⟩,
   ⟨regs [(Reg.structSrc, 1)] { State.reset with loader := { state := .built } }, by decide +kernel⟩, ⟨State.reset, by decide⟩,
   ⟨{ State.reset with loader := { state := .check } }, by decide⟩, ⟨{ State.reset with loader := { state := .fetch } }, by decide⟩,
   ⟨regs [(Reg.structStraps, 1)] { State.reset with running := true, tested := true }, by decide +kernel⟩,
   ⟨{ State.reset with running := true, tested := true }, by decide +kernel⟩, ⟨{ State.reset with loader := { state := .failed } }, by decide⟩,
   ⟨State.reset, rfl⟩, ⟨State.reset, rfl⟩,
   ⟨{ State.reset with loader := { state := .fetch, source := 1 } }, by decide⟩,
   { State.reset with loader := { state := .fetch, source := 2, built := true } }, by decide⟩

theorem wit_CheckApplyOtpAndScrub :
    (∃ s : State, s.loader.state = .check ∧ s.loader.source = 0 ∧ s.loader.built = true ∧
      checkImage s s.loader.image false ≠ 0) ∧
    (∃ s : State, s.loader.state = .check ∧ s.loader.source = 1 ∧ checkImage s s.loader.image true ≠ 0) ∧
    (∃ (s : State), s.loader.state = .apply ∧ s.applyLeft 0 = 0) ∧
    (∃ (s : State) (m : Nat), s.loader.state = .apply ∧ s.applyLeft m ≠ 0) ∧
    (∃ s : State, s.loader.built = true ∧ s.otp.owners.length < 4) ∧ (∃ v : Word, v ≠ 0xA5 ∧ v ≠ 0x5A) ∧
    (∃ s : State, s.loader.built = false) :=
  ⟨⟨{ State.reset with loader := { state := .check, built := true } }, by decide +kernel⟩,
   ⟨{ State.reset with loader := { state := .check, source := 1 } }, by decide +kernel⟩,
   ⟨{ State.reset with loader := { state := .apply } }, by decide +kernel⟩,
   ⟨regs [(Reg.structRegionBusy, 6)] { State.reset with loader := { state := .apply, image := List.replicate 18 0 ++ [1, 0] } }, 2,
     by decide +kernel⟩,
   ⟨{ State.reset with loader := { built := true } }, by decide⟩, ⟨0, by decide⟩, State.reset, by decide⟩

/-! ### Witnesses: resets, test port and faults -/

theorem wit_ResetsAndStartup :
    (∃ ns : Nat, ns ≤ 1000) ∧ (∃ ns : Nat, 1000 < ns ∧ ns < 5000) ∧ (∃ s : State, s.running = true ∧ s.ready = false) ∧ (∃ s : State, s.running = false) ∧
    (∃ s : State, s.ready = true ∧ s.tested = false ∧ s.fld Reg.keysStatus Fld.keysStatus_LOCKED = 0) :=
  ⟨⟨1000, by decide⟩, ⟨1001, by decide⟩, ⟨{ State.reset with running := true }, by decide⟩, ⟨State.reset, by decide⟩,
   { State.reset with ready := true }, by decide +kernel⟩

theorem wit_TestPortZeroizesButForIdcodeAndBypass : ∃ code : Byte, 7 ≤ code.toNat ∧ code.toNat < 255 := ⟨7, by decide⟩

theorem wit_FaultEventsLatchAndClear :
    (∃ s : State, (∀ e ∈ s.fault.strobes, e.1 < 48 ∧ e.1 ∉ [6, 15, 17, 18, 19, 33, 39, 43] ∧ s.bit (Reg.faultCfg e.1) 2 = false ∧
      s.bit (Reg.faultCfg e.1) 3 = false) ∧ s.fault.strobes.length = 2) ∧
    (∃ s : State, s.fault.strobes = [(43, 5, false)] ∧ s.bit (Reg.faultCfg 43) 2 = false ∧ s.bit (Reg.faultCfg 43) 3 = false) ∧
    (∃ s : State, s.fault.strobes = [(16, 5, false)] ∧ s.bit (Reg.faultCfg 16) 2 = false ∧ s.bit (Reg.faultCfg 16) 3 = false ∧
      s.faultLatched 16 = false ∧ s.bit (Reg.faultCfg 16) 1 = true ∧ s.bit Reg.faultFirst 31 = false) ∧
    (∃ s : State, s.fault.strobes = [(47, 5, false)] ∧ s.bit (Reg.faultCfg 47) 2 = false ∧ s.bit (Reg.faultCfg 47) 3 = false ∧
      s.faultLatched 47 = true) ∧
    (∃ n : Nat, n < 48 ∧ n ∉ [6, 15, 17, 18, 19, 33, 39, 43]) :=
  ⟨⟨regs [(Reg.faultCfg 16, 3), (Reg.faultCfg 47, 3)] { State.reset with fault := { strobes := [(16, 5, false), (47, 65535, true)] } }, by decide +kernel⟩,
   ⟨regs [(Reg.faultCfg 43, 1)] { State.reset with fault := { strobes := [(43, 5, false)] } }, by decide +kernel⟩,
   ⟨regs [(Reg.faultCfg 16, 3)] { State.reset with fault := { strobes := [(16, 5, false)] } }, by decide +kernel⟩,
   ⟨regs [(Reg.faultStatusHi, 0x8000)] { State.reset with fault := { strobes := [(47, 5, false)] } }, by decide +kernel⟩, 47, by decide⟩

theorem wit_ForcedFaultsAndFaultPins :
    (∃ s : State, s.fault.armed = some 0 ∧ s.edges ≤ 0 + 625000) ∧ (∃ s : State, s.fault.armed = none) ∧ (∃ v : Word, v ≠ 0x33) ∧
    (∃ s : State, s.fault.nmiMin = true ∧ s.fault.nmiEnd ≤ s.edges) ∧ (∃ s : State, s.fault.nmiMin = true ∧ s.edges < s.fault.nmiEnd) ∧
    (∃ s : State, s.fault.nmiMin = false) ∧
    (∃ s : State, (∀ n ∈ [15, 17, 18, 19, 33, 39, 43], s.faultLatched n = false) ∧ s.running = true ∧ s.fault.errMin = false) ∧
    (∃ s : State, (∀ n ∈ [15, 17, 18, 19, 33, 39, 43], s.faultLatched n = false) ∧ s.fault.errMin = true ∧ s.fault.errEnd ≤ s.edges) ∧
    (∃ s : State, s.fault.errMin = true ∧ s.edges < s.fault.errEnd) :=
  ⟨⟨{ State.reset with fault := { armed := some 0 }, edges := 625000 }, by decide⟩, ⟨State.reset, by decide⟩, ⟨0, by decide⟩,
   ⟨{ State.reset with edges := 625, fault := { nmiMin := true, nmiEnd := 625 } }, by decide⟩,
   ⟨{ State.reset with edges := 624, fault := { nmiMin := true, nmiEnd := 625 } }, by decide⟩, ⟨State.reset, by decide⟩,
   ⟨{ State.reset with running := true }, by decide +kernel⟩,
   ⟨{ State.reset with edges := 625, fault := { errMin := true, errEnd := 625 } }, by decide +kernel⟩,
   { State.reset with edges := 624, fault := { errMin := true, errEnd := 625 } }, by decide⟩

theorem wit_SoftFaultsFollowR533 : ∃ s : State, s.fault.strobes = [] ∧ s.bit (Reg.faultCfg 47) 3 = false :=
  ⟨State.reset, by decide +kernel⟩

/-! ### Witnesses: references, holdover and synthesis -/

theorem wit_ReferencesTodAndOscillators :
    (∃ s : State, s.refState 3 = 5) ∧ (∃ s : State, s.refState 3 ≠ 5 ∧ s.refState 3 ≠ 4) ∧ (∃ s : State, s.refState 3 = 4) ∧
    (∃ (s : State) (value : Word), (s.wr Reg.selCtrl (value &&& 0x1F23)).choice ≠ s.selected ∧
      min 2 (s.fld Reg.selCtrl Fld.selCtrl_MODE) ≠ min 2 ((s.wr Reg.selCtrl (value &&& 0x1F23)).fld Reg.selCtrl Fld.selCtrl_MODE)) ∧
    (∃ s : State, s.lossDue 3 = true ∧ s.refState 3 ∈ [1, 2, 3, 4]) ∧ (∃ s : State, s.lossDue 3 = true ∧ s.refState 3 = 0) ∧
    (∃ s : State, s.lossDue 3 = false) ∧
    (∃ s : State, s.refState 3 = 1 ∧ s.rdn (Reg.refWtrLeft 3) % 65536 ≤ 1 ∧ s.failsPhase 3 = false) ∧
    (∃ s : State, s.refState 3 = 1 ∧ s.rdn (Reg.refWtrLeft 3) % 65536 ≤ 1 ∧ s.failsPhase 3 = true) ∧
    (∃ s : State, (s.ref 3).tod.length < 256) ∧ (∃ s : State, 256 ≤ (s.ref 3).tod.length) ∧
    (∃ (s : State) (o : Nat) (os : List Nat), (s.ref 3).tod = o :: os) ∧ (∃ s : State, (s.ref 3).tod = []) ∧
    (∃ s : State, s.selected = none ∧ s.bit Reg.oscStatus 0 = false ∧ s.bit Reg.oscStatus 1 = false ∧ s.bit Reg.oscStatus 2 = false ∧
      s.bit Reg.oscCtrl 1 = true ∧ s.noOsc = false) ∧ (∃ s : State, s.bit Reg.oscStatus 1 = true) :=
  ⟨⟨flds [(Reg.refState 3, Fld.refState_STATE, 5)], by decide +kernel⟩, ⟨flds [(Reg.refState 3, Fld.refState_STATE, 2)], by decide +kernel⟩,
   ⟨flds [(Reg.refState 3, Fld.refState_STATE, 4)], by decide +kernel⟩,
   ⟨flds [(Reg.selStatus, Fld.selStatus_SELECTED_ID, 3), (Reg.refState 3, Fld.refState_STATE, 3)], 2, by decide +kernel⟩,
   ⟨flds [(Reg.refState 3, Fld.refState_STATE, 2)] { State.reset with refs := [(3, { lastAct := some (-(secondTicks + 65536000000)) })] }, by decide +kernel⟩,
   ⟨flds [(Reg.refState 3, Fld.refState_STATE, 0)] { State.reset with refs := [(3, { lastAct := some (-(secondTicks + 65536000000)) })] }, by decide +kernel⟩, ⟨{ State.reset with refs := [(3, { lastAct := some 0 })] }, by decide +kernel⟩,
   ⟨flds [(Reg.refState 3, Fld.refState_STATE, 1)], by decide +kernel⟩,
   ⟨flds [(Reg.refState 3, Fld.refState_STATE, 1), (Reg.holdStatus, Fld.holdStatus_EVER_LOCKED, 1)]
      (regs [(Reg.refPhaseLo 3 + 4, 0x40000000)]), by decide +kernel⟩,
   ⟨State.reset, by decide⟩, ⟨{ State.reset with refs := [(3, { tod := List.replicate 256 0 })] }, by decide +kernel⟩,
   ⟨{ State.reset with refs := [(3, { tod := [65] })] }, 65, [], by decide⟩, ⟨State.reset, by decide⟩,
   ⟨flds [(Reg.selStatus, Fld.selStatus_SELECTED_ID, 31)] (regs [(Reg.oscCtrl, 2), (Reg.oscStatus, 0)]), by decide +kernel⟩,
   regs [(Reg.oscStatus, 2)], by decide +kernel⟩

/-- Lane 255 is a GNSS_LOOP lane. -/
def gnssLane : State := { State.reset with loader := { built := true, params := [⟨0x30, 255, [0x20]⟩] }, facet := { lanes := [(255, { role := 2 })] } }

theorem wit_PhaseSamplesAreKept :
    (∃ s : State, (s.ref 11).evt = some (some 0, 5) ∧ s.refState 11 ≠ 5 ∧ s.rdn (Reg.refPhaseHit 11) % 2 ^ 24 = 0) ∧
    (∃ s : State, (s.ref 11).evt = some (none, 5) ∧ s.refState 11 ≠ 5) ∧
    (∃ s : State, (s.ref 11).evt = some (some 0, 5) ∧ s.refState 11 = 5) ∧ (∃ s : State, (s.ref 11).evt = none ∧ (s.ref 3).evt = none) ∧
    (∃ s : State, (s.ref 3).evt = some (some 0, 5) ∧ s.refState 3 ≠ 5 ∧ s.rdn (Reg.refPhaseHit 3) % 2 ^ 24 = 0 ∧
      (s.ref 3).labelWritten = false ∧ (s.ref 3).lastLabel = some 8 ∧
      (s.ref 3).unlabelled + 1 < s.fld (Reg.refTodCfg 3) Fld.refTodCfg_TIMEOUT) ∧
    (∃ s : State, (s.ref 3).evt = some (some 0, 5) ∧ s.refState 3 ≠ 5 ∧ s.rdn (Reg.refPhaseHit 3) % 2 ^ 24 = 0 ∧
      (s.ref 3).labelWritten = true) ∧
    (∃ n : Fin 8, n.val ∉ [4, 7]) ∧ (∃ s : State, s.hasGnssLane = true) ∧
    (∃ s : State, s.hasGnssLane = false ∧ ofsVerdict (s.tick 0) (s.rd64 (Reg.refOfsTimeLo 16)) = 0 ∧
      ofsVerdict (s.tick 0) (s.rd64 (Reg.refOfsTimeLo 19)) = 0) ∧
    (∃ s : State, (s.ref 19).waiting = none) ∧ (∃ s : State, 1024 ≤ (s.ref 19).takes) ∧
    (∃ (s : State) (w : OfsWait), (s.ref 19).waiting = some w ∧ (s.ref 19).takes < 1024 ∧ s.refState 19 ≠ 5 ∧
      s.rdn (Reg.refPhaseHit 19) % 2 ^ 24 = 0) :=
  ⟨⟨flds [(Reg.refState 11, Fld.refState_STATE, 0)] (regs [(Reg.refPhaseHit 11, 0)] { State.reset with refs := [(11, { evt := some (some 0, 5) })] }),
     by decide +kernel⟩,
   ⟨flds [(Reg.refState 11, Fld.refState_STATE, 2)] { State.reset with refs := [(11, { evt := some (none, 5) })] }, by decide +kernel⟩,
   ⟨flds [(Reg.refState 11, Fld.refState_STATE, 5)] { State.reset with refs := [(11, { evt := some (some 0, 5) })] }, by decide +kernel⟩,
   ⟨State.reset, by decide⟩,
   ⟨flds [(Reg.refState 3, Fld.refState_STATE, 2), (Reg.refTodCfg 3, Fld.refTodCfg_TIMEOUT, 3)]
      (regs [(Reg.refPhaseHit 3, 0)] { State.reset with refs := [(3, { evt := some (some 0, 5), lastLabel := some 8, unlabelled := 1 })] }),
     by decide +kernel⟩,
   ⟨flds [(Reg.refState 3, Fld.refState_STATE, 2)]
      (regs [(Reg.refPhaseHit 3, 0)] { State.reset with refs := [(3, { evt := some (some 0, 5), labelWritten := true })] }), by decide +kernel⟩,
   ⟨5, by decide⟩, ⟨gnssLane, by decide +kernel⟩, ⟨State.reset, by decide +kernel⟩, ⟨State.reset, by decide⟩,
   ⟨{ State.reset with refs := [(19, { takes := 1024 })] }, by decide⟩,
   flds [(Reg.refState 19, Fld.refState_STATE, 2)] <| regs [(Reg.refPhaseHit 19, 0)]
     { State.reset with refs := [(19, { waiting := some ⟨1, 0, 0⟩, takes := 1023 })] }, ⟨1, 0, 0⟩, by decide +kernel⟩

theorem wit_SynthesisersFollowTheirStates :
    (∃ s : State, s.noOsc = false ∧ s.synState 2 = 1 ∧ s.synBands 2 ≠ []) ∧
    (∃ (s : State) (worst : BitVec 16), s.noOsc = false ∧ s.synState 2 = 3 ∧ worst.toNat ≤ max 1 (s.fld (Reg.synLoop 2) Fld.synLoop_LOCK_TOL) ∧
      s.synPull 2 = (s.synE 2).goal) ∧
    (∃ s : State, s.noOsc = false ∧ s.synState 2 = 5 ∧ s.synPull 2 ≠ (s.synE 2).goal) ∧
    (∃ s : State, s.noOsc = false ∧ s.synState 2 ∉ [3, 5]) ∧
    (∃ (s : State) (worst : BitVec 16), s.noOsc = false ∧ max 1 (s.fld (Reg.synLoop 2) Fld.synLoop_LOCK_TOL) < worst.toNat) ∧
    (∃ s : State, s.noOsc = false ∧ s.synState 2 = 4) ∧
    (∃ (s : State) (least : BitVec 16), s.noOsc = false ∧ s.synState 2 = 4 ∧
      10 * max 1 (s.fld (Reg.synLoop 2) Fld.synLoop_UNLOCK_TOL) < least.toNat) ∧
    (∃ (s : State) (least : BitVec 16), s.noOsc = false ∧ least.toNat ≤ 10 * max 1 (s.fld (Reg.synLoop 2) Fld.synLoop_UNLOCK_TOL)) ∧
    (∃ s : State, s.noOsc = false ∧ s.synState 2 = 5 ∧ s.synWaited 2 5 = true) ∧
    (∃ (s : State) (centres : List (BitVec 24)), s.noOsc = false ∧ s.synState 2 = 2 ∧ ∀ c ∈ centres, c = 0) ∧
    (∃ (s : State) (centres : List (BitVec 24)) (i : Fin 64), s.noOsc = false ∧ s.synState 2 = 2 ∧ centres.length = 64 ∧
      (synBandRange 2).2.1 ≤ (centres.getD i 0).toNat ∧ (centres.getD i 0).toNat ≤ (synBandRange 2).2.2) ∧
    (∃ s : State, s.noOsc = false ∧ s.synState 2 = 3 ∧ (s.synE 2).failed = false ∧ s.synWaited 2 5 = true) ∧
    (∃ s : State, s.noOsc = false ∧ s.synState 2 = 3 ∧ (s.synE 2).failed = true ∧ s.synWaited 2 1000 = true) ∧
    (∃ (s : State) (v : BitVec 32), s.noOsc = false ∧ s.synState 2 = 4 ∧
      (v.toInt - s.rdi (Reg.synFlock 2)).natAbs * 1000000000 ≤ 100000 * (1000000000 + s.rdi (Reg.synFlock 2)) ∧
      (v.toInt - (s.synE 2).target.getD (s.rdi (Reg.synFlock 2))).natAbs * 1000000000 ≤
        10000 * (1000000000 + (s.synE 2).target.getD (s.rdi (Reg.synFlock 2)))) ∧
    (∃ (s : State) (v : BitVec 32), s.noOsc = false ∧ s.synState 2 = 4 ∧
      100000 * (1000000000 + s.rdi (Reg.synFlock 2)) < (v.toInt - s.rdi (Reg.synFlock 2)).natAbs * 1000000000) ∧
    (∃ s : State, (s.outE 11).fed = []) ∧ (∃ s : State, s.outOn 11 = true ∧ s.inputMode 11 = true ∧ (s.outE 11).fed = [5]) ∧
    (∃ s : State, s.outOn 11 = true ∧ s.inputMode 11 = true ∧ 7 ≤ (s.outE 11).missing) ∧ (∃ s : State, s.outOn 11 = false) ∧
    (∃ s : State, s.inputMode 11 = false) :=
  ⟨⟨flds [(Reg.synStatus 2, Fld.synStatus_STATE, 1)] (regs [(Reg.synBand 2 0, 0x80000001)]), by decide +kernel⟩,
   ⟨flds [(Reg.synStatus 2, Fld.synStatus_STATE, 3), (Reg.synLoop 2, Fld.synLoop_LOCK_TOL, 0)], 1, by decide +kernel⟩,
   ⟨flds [(Reg.synStatus 2, Fld.synStatus_STATE, 5), (Reg.synCtrl 2, Fld.synCtrl_PULL, 4)], by decide +kernel⟩,
   ⟨flds [(Reg.synStatus 2, Fld.synStatus_STATE, 4)], by decide +kernel⟩,
   ⟨flds [(Reg.synLoop 2, Fld.synLoop_LOCK_TOL, 0)], 2, by decide +kernel⟩,
   ⟨flds [(Reg.synStatus 2, Fld.synStatus_STATE, 4)], by decide +kernel⟩,
   ⟨flds [(Reg.synStatus 2, Fld.synStatus_STATE, 4), (Reg.synLoop 2, Fld.synLoop_UNLOCK_TOL, 1)], 11, by decide +kernel⟩,
   ⟨flds [(Reg.synLoop 2, Fld.synLoop_UNLOCK_TOL, 1)], 10, by decide +kernel⟩,
   ⟨flds [(Reg.synStatus 2, Fld.synStatus_STATE, 5)] { State.reset with synth := { syn := [(2, { since := -5000 * usTicks })] } }, by decide +kernel⟩,
   ⟨flds [(Reg.synStatus 2, Fld.synStatus_STATE, 2)], List.replicate 64 0, by decide +kernel, by decide +kernel,
     fun _ h => List.eq_of_mem_replicate h⟩,
   ⟨flds [(Reg.synStatus 2, Fld.synStatus_STATE, 2)], List.replicate 64 (BitVec.ofNat 24 (synBandRange 2).2.2), 63, by decide +kernel⟩,
   ⟨flds [(Reg.synStatus 2, Fld.synStatus_STATE, 3)] { State.reset with synth := { syn := [(2, { since := -5000 * usTicks })] } }, by decide +kernel⟩,
   ⟨flds [(Reg.synStatus 2, Fld.synStatus_STATE, 3)] { State.reset with synth := { syn := [(2, { failed := true, since := -1000000 * usTicks })] } },
     by decide +kernel⟩,
   ⟨flds [(Reg.synStatus 2, Fld.synStatus_STATE, 4)], 10000, by decide +kernel⟩,
   ⟨flds [(Reg.synStatus 2, Fld.synStatus_STATE, 4)], 100001, by decide +kernel⟩, ⟨State.reset, by decide +kernel⟩,
   ⟨regs [(Reg.outCtrl 11, 1), (Reg.outAlign 11, 1)] { State.reset with synth := { out := [(11, { fed := [5] })] } }, by decide +kernel⟩,
   ⟨regs [(Reg.outCtrl 11, 1), (Reg.outAlign 11, 1)] { State.reset with synth := { out := [(11, { missing := 7 })] } }, by decide +kernel⟩,
   ⟨regs [(Reg.outCtrl 11, 0)], by decide +kernel⟩, regs [(Reg.outAlign 11, 0)], by decide +kernel⟩

theorem wit_OutputsAlignIdleAndFail :
    (∃ s : State, s.outOn 7 = true ∧ s.padMode 7 ≠ 0 ∧ s.outTooFast 7 = false ∧ s.fld (Reg.outCtrl 7) Fld.outCtrl_SRC ≠ 3 ∧
      s.synState (s.fld (Reg.outCtrl 7) Fld.outCtrl_SRC) = 4 ∧ s.bit (Reg.outStatus 7) 2 = false ∧ s.inputMode 7 = false ∧ s.alignDue 7 = true) ∧
    (∃ s : State, s.alignDue 7 = false) ∧ (∃ s : State, s.fld (Reg.outAlign 7) Fld.outAlign_SLEW = 0) ∧
    (∃ s : State, s.outOn 11 = true ∧ s.padMode 11 ≠ 0 ∧ s.fld (Reg.outAlign 11) Fld.outAlign_SLEW = 0 ∧ s.pulseDue 11 = some 0 ∧
      (s.outE 11).pulsed ≠ some 0 ∧ (s.outE 11).high = false ∧ (s.outE 11).ended = some (-65536000) ∧ -65536000 + usTicks ≤ s.monitorNow) ∧
    (∃ s : State, s.outOn 11 = true ∧ s.padMode 11 ≠ 0 ∧ s.pulseDue 11 = some 0 ∧ (s.outE 11).pulsed ≠ some 0 ∧ (s.outE 11).high = true) ∧
    (∃ (s : State) (x : Int), s.outOn 11 = true ∧ s.padMode 11 ≠ 0 ∧ s.pulseDue 11 = some 0 ∧ (s.outE 11).pulsed ≠ some 0 ∧
      (s.outE 11).ended = some x ∧ s.monitorNow < x + usTicks) ∧
    (∃ s : State, s.outOn 11 = false) ∧
    (∃ s : State, (s.outE 11).high = true ∧ (s.outE 11).since + s.pulseWidth 11 * usTicks ≤ s.monitorNow) ∧
    (∃ s : State, s.monitorNow < (s.outE 11).since + s.pulseWidth 11 * usTicks) ∧
    (∃ s : State, s.bit (Reg.outStatus 7) 0 = true ∧ s.bit (Reg.outStatus 7) 4 = false ∧ s.bit (Reg.outStatus 7) 3 = true) ∧
    (∃ (s : State) (count : Word), s.bit (Reg.outStatus 7) 0 = true ∧ s.bit (Reg.outStatus 7) 4 = false ∧ s.bit (Reg.outStatus 7) 3 = false ∧
      count.toNat = (s.outFreq 7).1 / (1000 * (s.outFreq 7).2)) :=
  ⟨⟨flds [(Reg.synStatus 0, Fld.synStatus_STATE, 4), (Reg.outPad 7, Fld.outPad_MODE, 3), (Reg.outCtrl 7, Fld.outCtrl_SRC, 0)]
      (regs [(Reg.outCtrl 7, 1), (Reg.outDiv 7, 1000)]), by decide +kernel⟩,
   ⟨{ State.reset with time := { tb := [(0, { t := 2 ^ 62 })] } }, by decide +kernel⟩,
   ⟨flds [(Reg.outAlign 7, Fld.outAlign_SLEW, 0)], by decide +kernel⟩,
   ⟨flds [(Reg.outPad 11, Fld.outPad_MODE, 1)]
      (regs [(Reg.outCtrl 11, 1), (Reg.outAlign 11, 0)] { State.reset with synth := { out := [(11, { ended := some (-65536000) })] } }),
     by decide +kernel⟩,
   ⟨flds [(Reg.outPad 11, Fld.outPad_MODE, 1)] (regs [(Reg.outCtrl 11, 1)] { State.reset with synth := { out := [(11, { high := true })] } }),
     by decide +kernel⟩,
   ⟨flds [(Reg.outPad 11, Fld.outPad_MODE, 1)] (regs [(Reg.outCtrl 11, 1)] { State.reset with synth := { out := [(11, { ended := some (1 - 65536000) })] } }),
     1 - 65536000, by decide +kernel⟩, ⟨regs [(Reg.outCtrl 11, 0)], by decide +kernel⟩,
   ⟨regs [(Reg.outWidth 11, 0)] { State.reset with synth := { out := [(11, { high := true, since := -65536000 })] } }, by decide +kernel⟩,
   ⟨regs [(Reg.outWidth 11, 0)] { State.reset with synth := { out := [(11, { high := true, since := 1 - 65536000 })] } }, by decide +kernel⟩,
   ⟨regs [(Reg.outStatus 7, 9)], by decide +kernel⟩,
   flds [(Reg.outCtrl 7, Fld.outCtrl_SRC, 3)] (regs [(Reg.outStatus 7, 1), (Reg.outDiv 7, 1000)]), 10, by decide +kernel⟩

theorem wit_TemperatureAndSnapshotCommands :
    (∃ s : State, s.on Reg.holdTempCfg Fld.holdTempCfg_EN = true) ∧ (∃ s : State, s.on Reg.holdTempCfg Fld.holdTempCfg_EN = false) ∧
    (∃ s : State, s.on Reg.holdSnapStatus Fld.holdSnapStatus_BUSY = false ∧ s.on Reg.keysStatus Fld.keysStatus_ID_OK = true) ∧
    (∃ s : State, s.on Reg.holdSnapStatus Fld.holdSnapStatus_BUSY = false ∧ s.on Reg.keysStatus Fld.keysStatus_ID_OK = false) ∧
    (∃ s : State, s.restoreCheck ∈ [3, 4, 5, 6]) ∧
    (∃ s : State, s.on Reg.holdSnapStatus Fld.holdSnapStatus_BUSY = true ∧ s.hold.restoring = false) ∧
    (∃ s : State, s.on Reg.holdSnapStatus Fld.holdSnapStatus_BUSY = true ∧ s.hold.restoring = true) :=
  ⟨⟨flds [(Reg.holdTempCfg, Fld.holdTempCfg_EN, 1)], by decide +kernel⟩, ⟨flds [(Reg.holdTempCfg, Fld.holdTempCfg_EN, 0)], by decide +kernel⟩,
   ⟨flds [(Reg.keysStatus, Fld.keysStatus_ID_OK, 1)], by decide +kernel⟩, ⟨flds [(Reg.keysStatus, Fld.keysStatus_ID_OK, 0)], by decide +kernel⟩,
   ⟨State.reset, by decide +kernel⟩,
   ⟨flds [(Reg.holdSnapStatus, Fld.holdSnapStatus_BUSY, 1)], by decide +kernel⟩,
   flds [(Reg.holdSnapStatus, Fld.holdSnapStatus_BUSY, 1)] { State.reset with hold := { restoring := true } }, by decide +kernel⟩

/-! ### Witnesses: the Loupe -/

/-- A channel with its mode and its gate state. -/
def loupe (mode gate : Nat) (s : State := State.reset) : State :=
  flds [(Reg.synStatus 0, Fld.synStatus_STATE, 4), (Reg.synStatus 0, Fld.synStatus_BYPASS, 0), (Reg.refState 11, Fld.refState_STATE, 5),
    (Reg.loupeCfg 11, Fld.loupeCfg_MODE, mode), (Reg.loupeStatus 11, ⟨0, 3⟩, gate)] s

theorem wit_LoupeGateFollowsR187 :
    (∃ s : State, s.loupeMode 11 = 2 ∧ s.gridBypass = false ∧ s.gateState 11 ∈ [0, 4]) ∧
    (∃ s : State, s.loupeMode 11 = 2 ∧ s.gridBypass = true ∧ s.gateState 11 ∈ [0, 4]) ∧
    (∃ s : State, s.loupeMode 11 = 2 ∧ s.gateState 11 = 1 ∧ s.toArm 11 ≤ 4000 * 65536) ∧ (∃ s : State, 4000 * 65536 < s.toArm 11) ∧
    (∃ s : State, s.loupeMode 11 = 2 ∧ s.gateState 11 = 2 ∧ (s.lch 11).gateCal = true ∧
      s.fld (Reg.loupeStatus 11) Fld.loupeStatus_LATE = 0 ∧ s.toArm 11 ≤ 0) ∧
    (∃ s : State, s.loupeMode 11 = 2 ∧ s.gateState 11 = 2 ∧ (s.lch 11).gateCal = true ∧
      s.fld (Reg.loupeStatus 11) Fld.loupeStatus_LATE = 1 ∧ (s.lch 11).opened + 2500 ≤ s.edges) ∧
    (∃ s : State, s.loupeMode 11 = 2 ∧ s.gateState 11 = 3 ∧ s.rdn (Reg.loupeGate 11) ≠ 0 ∧
      (s.lch 11).opened + 625 * s.rdn (Reg.loupeGate 11) ≤ s.edges) ∧
    (∃ s : State, s.loupeMode 11 = 2 ∧ s.gateState 11 = 3 ∧ s.rdn (Reg.loupeCount 11) % 65536 ≠ 0 ∧
      s.rdn (Reg.loupeCount 11) % 65536 ≤ (s.lch 11).taken) ∧
    (∃ s : State, s.loupeMode 11 ≠ 2) ∧ (∃ s : State, s.refState 11 = 5 ∧ s.gateState 11 ∈ [1, 2, 3]) ∧
    (∃ s : State, s.refState 11 = 5 ∧ s.gateState 11 ∉ [1, 2, 3]) ∧ (∃ s : State, s.refState 11 ≠ 5) :=
  ⟨⟨flds [(Reg.synStatus 0, Fld.synStatus_BYPASS, 0)] (loupe 2 0), by decide +kernel⟩,
   ⟨flds [(Reg.synStatus 0, Fld.synStatus_BYPASS, 1)] (loupe 2 4), by decide +kernel⟩,
   ⟨regs [(Reg.loupeArmLo 11, 262144000)] (loupe 2 1), by decide +kernel⟩, ⟨regs [(Reg.loupeArmLo 11, 262144001)], by decide +kernel⟩,
   ⟨loupe 2 2 { State.reset with loupe := { ch := [(11, { gateCal := true })] } }, by decide +kernel⟩,
   ⟨flds [(Reg.loupeStatus 11, Fld.loupeStatus_LATE, 1)]
      (loupe 2 2 { State.reset with edges := 2500, loupe := { ch := [(11, { gateCal := true })] } }), by decide +kernel⟩,
   ⟨regs [(Reg.loupeGate 11, 1)] (loupe 2 3 { State.reset with edges := 625 }), by decide +kernel⟩,
   ⟨regs [(Reg.loupeCount 11, 1)] (loupe 2 3 { State.reset with loupe := { ch := [(11, { taken := 1 })] } }), by decide +kernel⟩,
   ⟨loupe 3 0, by decide +kernel⟩, ⟨loupe 2 3, by decide +kernel⟩, ⟨loupe 2 4, by decide +kernel⟩,
   flds [(Reg.refState 11, Fld.refState_STATE, 0)], by decide +kernel⟩

theorem wit_LoupeStampsGuestsAndFifo :
    (∃ s : State, s.loupeSees 11 21 false = true ∧ s.loupeDiv 11 ≤ (s.lch 11).pre + 1 ∧ s.loupeCaptures 11 = true ∧
      (s.lch 11).calFrom = none ∧ (s.lch 11).calOk = true ∧ (s.lch 11).lastAt = some (-900) ∧ 2500 ≤ s.edgeAt 11 0 - (-900)) ∧
    (∃ s : State, s.loupeSees 11 0 false = true ∧ s.loupeDiv 11 ≤ (s.lch 11).pre + 1 ∧ s.loupeCaptures 11 = true ∧
      (s.lch 11).calFrom = some 0) ∧
    (∃ s : State, s.loupeSees 11 0 false = true ∧ (s.lch 11).pre + 1 < s.loupeDiv 11) ∧ (∃ s : State, s.loupeSees 11 0 true = false) ∧
    (∃ s : State, s.loupeMode 11 = 3 ∧ s.gridBypass = false ∧ (s.lch 11).calFrom = none ∧ (s.lch 11).since + 625000 ≤ s.edges) ∧
    (∃ s : State, s.loupeMode 11 = 2 ∧ s.gateState 11 = 3 ∧ s.gridBypass = false ∧ (s.lch 11).calFrom = none ∧
      (s.lch 11).since + 625000 ≤ s.edges) ∧
    (∃ s : State, s.edges < (s.lch 11).since + 625000) ∧
    (Config.loupeGain < 2 ^ 32 → Config.loupeNonlin ≤ 160 →
      ∃ (s : State) (gain offset : BitVec 32), s.calDue 11 = true ∧ calPasses gain.toNat (s.calRes 11 offset.toInt) = true) ∧
    (∃ (s : State) (gain offset : BitVec 32), s.calDue 11 = true ∧ calPasses gain.toNat (s.calRes 11 offset.toInt) = false) ∧
    (∃ s : State, s.calDue 11 = false) ∧
    (∃ (s : State) (c : Nat), s.guestDue 11 = true ∧ s.guestChannel = some c ∧ s.on (Reg.loupeCfg c) Fld.loupeCfg_FIFO = false) ∧
    (∃ (s : State) (c : Nat), s.guestDue 15 = true ∧ s.guestChannel = some c) ∧
    (∃ s : State, s.guestDue 11 = true ∧ s.guestChannel = none) ∧ (∃ s : State, s.guestDue 15 = false) ∧
    (∃ (s : State) (w0 w1 w2 w3 : Word) (es : List (List Word)), s.loupe.fifo.entries = [w0, w1, w2, w3] :: es) ∧
    (∃ s : State, s.loupe.fifo.entries = []) :=
  ⟨⟨flds [(Reg.loupeCfg 11, Fld.loupeCfg_SRC, 21)] (loupe 3 0 { State.reset with loupe := { ch := [(11, { calOk := true, lastAt := some (-900) })] } }),
     by decide +kernel⟩,
   ⟨loupe 3 0 { State.reset with loupe := { ch := [(11, { calFrom := some 0 })] } }, by decide +kernel⟩,
   ⟨regs [(Reg.loupePrescale 11, 1)] (loupe 3 0), by decide +kernel⟩, ⟨loupe 3 0, by decide +kernel⟩,
   ⟨loupe 3 0 { State.reset with edges := 625000 }, by decide +kernel⟩, ⟨loupe 2 3 { State.reset with edges := 625000 }, by decide +kernel⟩,
   ⟨State.reset, by decide +kernel⟩,
   fun g l => ⟨loupe 3 0 { State.reset with edges := 2500, loupe := { ch := [(11, { calFrom := some 0 })] } }, BitVec.ofNat 32 Config.loupeGain, 0,
     by decide +kernel, by
       have o : ((loupe 3 0 { State.reset with edges := 2500, loupe := { ch := [(11, { calFrom := some 0 })] } }).lch 11).offset = none := by decide +kernel
       simp [calPasses, calRes, o] <;> omega⟩,
   ⟨loupe 3 0 { State.reset with edges := 2500, loupe := { ch := [(11, { calFrom := some 0, offset := some 161 })] } }, 0, 0, by decide +kernel, by
       have o : ((loupe 3 0 { State.reset with edges := 2500, loupe := { ch := [(11, { calFrom := some 0, offset := some 161 })] } }).lch 11).offset =
         some 161 := by decide +kernel
       simp [calPasses, calRes, o] <;> omega⟩,
   ⟨loupe 3 0 { State.reset with edges := 2499, loupe := { ch := [(11, { calFrom := some 0 })] } }, by decide +kernel⟩,
   ⟨flds [(Reg.loupeCfg 11, Fld.loupeCfg_GUEST, 1), (Reg.loupeCfg 11, Fld.loupeCfg_FIFO, 0)] (regs [(Reg.outCtrl 11, 1), (Reg.outStatus 11, 0)] (loupe 0 0)),
     11, by decide +kernel⟩,
   ⟨flds [(Reg.loupeCfg 11, Fld.loupeCfg_GUEST, 1)] (loupe 0 0 { State.reset with chain := { sides := [(1, { up := true })] } }), 11, by decide +kernel⟩,
   ⟨regs [(Reg.outCtrl 11, 1), (Reg.outStatus 11, 0)] (loupe 0 0), by decide +kernel⟩, ⟨loupe 0 0, by decide +kernel⟩,
   ⟨{ State.reset with loupe := { fifo := { entries := [[1, 2, 3, 4]] } } }, 1, 2, 3, 4, [], by decide⟩, State.reset, by decide⟩

theorem wit_DeadTimeFollowsR182 :
    ∃ s : State, (s.lch 11).lastAt = some (-899) ∧ s.edgeAt 11 0 - (-899) < 2500 ∧ s.loupeSees 11 0 false = true ∧
      s.loupeDiv 11 ≤ (s.lch 11).pre + 1 ∧ s.loupeCaptures 11 = true ∧ (s.lch 11).calOk = true :=
  ⟨loupe 3 0 { State.reset with loupe := { ch := [(11, { calOk := true, lastAt := some (-899) })] } }, by decide +kernel⟩

/-! ### Witnesses: GNSS baseband -/

/-- The baseband listening, its sample clock running, and channel 95 in a state. -/
def gnss (ch : Nat) (s : State := State.reset) : State :=
  flds [(Reg.chStatus 95, Fld.chStatus_STATE, ch)] (regs [(Reg.gnssCtrl, 5), (Reg.gnssStatus, 1)] s)

theorem wit_GnssInputsRecordsAndAntenna :
    (∃ (s : State) (phases : List (BitVec 16)), s.gnssOn = true ∧ s.sclkMode = 2 ∧ phases ≠ [] ∧
      ∀ p ∈ phases, (p.toInt * phases.length - (phases.map (·.toInt)).foldl (· + ·) 0).natAbs ≤ 20 * phases.length) ∧
    (∃ s : State, s.gnssOn = false) ∧
    (∃ s : State, s.sclkMode = 2 ∧ s.sclkRuns = true ∧ s.acqState ∉ [1, 2] ∧ (∀ c, c < 96 → s.chState c = 0) ∧
      s.gnss.dump.entries.length < 2048) ∧
    (∃ s : State, s.sclkMode ≠ 1 ∧ s.sclkRuns = true ∧ s.chState 95 = 2) ∧
    (∃ s : State, s.sclkMode = 1 ∧ s.synLocked 0 = true) ∧
    (∃ (s : State) (balls : List (BitVec 16)), s.ifOn 3 = true ∧ balls ≠ [] ∧ s.ifStuck 3 balls = true ∧
      s.fld (Reg.gnssIfStatus 3) Fld.gnssIfStatus_STUCK = 0) ∧ (∃ s : State, s.ifOn 3 = false) ∧
    (∃ (s : State) (f : Nat), s.chFormat 95 = some f ∧ s.fld (Reg.chStatus 95) Fld.chStatus_NAV_STATE = 2 ∧
      (navSize f).1 + (navSize f).2.2 ≤ (s.gch 95).navSyms.length ∧ s.gnss.nav.entries.length < 256) ∧
    (∃ (s : State) (f : Nat), s.chFormat 95 = some f ∧ (s.gch 95).navSyms.length < (navSize f).1 + (navSize f).2.2) ∧
    (∃ (s : State) (w : Word) (ws : List Word) (es : List (List Word)), s.laneReads = false ∧
      s.gnss.dump.entries = (w :: ws) :: es ∧ ws.length = 9) ∧ (∃ s : State, s.laneReads = true) ∧
    (∃ (s : State) (w : Word) (ws : List Word) (es : List (List Word)), s.laneReads = false ∧
      s.gnss.nav.entries = (w :: ws) :: es ∧ ws.length = 15) ∧
    (∃ s : State, s.bit Reg.gnssAntCtrl 1 = true) ∧ (∃ s : State, s.bit Reg.gnssAntCtrl 1 = false) ∧
    (∃ s : State, s.bit Reg.gnssAntStatus 2 = true ∧ s.antRetryDue = true ∧ s.bit Reg.gnssAntStatus 1 = false) ∧
    (∃ s : State, s.bit Reg.gnssAntStatus 2 = true ∧ s.antRetryDue = true ∧ s.bit Reg.gnssAntStatus 1 = true) ∧
    (∃ s : State, s.antRetryDue = false) ∧ (∃ s : State, s.bit Reg.gnssAntCtrl 2 = true) :=
  ⟨⟨gnss 0, [65516, 20], by decide +kernel, by decide +kernel, by decide, by simp⟩, ⟨regs [(Reg.gnssCtrl, 4)], by decide +kernel⟩, ⟨gnss 0, by decide +kernel⟩,
   ⟨gnss 2, by decide +kernel⟩,
   ⟨flds [(Reg.synStatus 0, Fld.synStatus_STATE, 4)] (regs [(Reg.gnssCtrl, 3)]), by decide +kernel⟩,
   ⟨flds [(Reg.gnssIfCfg 3, Fld.gnssIfCfg_EN, 1)] (gnss 0), [0], by decide +kernel⟩,
   ⟨flds [(Reg.gnssIfCfg 3, Fld.gnssIfCfg_EN, 0)] (gnss 0), by decide +kernel⟩,
   ⟨flds [(Reg.chStatus 95, Fld.chStatus_NAV_STATE, 2)]
      (regs [(Reg.chSig 95, 0)] (gnss 2 { State.reset with gnss := { ch := [(95, { navSyms := List.replicate 300 {} })] } })), 0,
     by decide +kernel⟩,
   ⟨regs [(Reg.chSig 95, 0)] (gnss 2 { State.reset with gnss := { ch := [(95, { navSyms := List.replicate 299 {} })] } }), 0,
     by decide +kernel⟩,
   ⟨{ State.reset with gnss := { dump := { entries := [List.replicate 10 7] } } }, 7, List.replicate 9 7, [], by decide +kernel⟩,
   ⟨regs [(Reg.gnssCtrl, 8)] gnssLane, by decide +kernel⟩,
   ⟨{ State.reset with gnss := { nav := { entries := [List.replicate 16 7] } } }, 7, List.replicate 15 7, [], by decide +kernel⟩,
   ⟨regs [(Reg.gnssAntCtrl, 2)], by decide +kernel⟩, ⟨regs [(Reg.gnssAntCtrl, 0)], by decide +kernel⟩,
   ⟨regs [(Reg.gnssAntStatus, 4), (Reg.gnssAntCtrl, 0x10000)] { State.reset with gnss := { tripped := -1000000 * usTicks } }, by decide +kernel⟩,
   ⟨regs [(Reg.gnssAntStatus, 6), (Reg.gnssAntCtrl, 0)] { State.reset with gnss := { tripped := -1000000 * usTicks } }, by decide +kernel⟩,
   ⟨regs [(Reg.gnssAntCtrl, 0x20000)] { State.reset with gnss := { tripped := -1000000 * usTicks } }, by decide +kernel⟩,
   regs [(Reg.gnssAntCtrl, 4)], by decide +kernel⟩

/-- Channel 95 on GPS L1 C/A of input 3, in a state, with the input on. -/
def gnssCh (ch : Nat) (c : GnssCh := {}) : State :=
  flds [(Reg.gnssIfCfg 3, Fld.gnssIfCfg_EN, 1)] (regs [(Reg.chSig 95, 0x00130000)] (gnss ch { State.reset with gnss := { ch := [(95, c)] } }))

theorem wit_GnssChannelsRunAndStop :
    (∃ s : State, s.chState 95 = 0 ∧ s.gnssOn = true ∧ s.sclkRuns = true ∧ (s.chSig? 95).isSome = true) ∧
    (∃ s : State, s.chState 95 = 0 ∧ s.gnssOn = true ∧ s.sclkRuns = true ∧ (s.chSig? 95).isSome = false) ∧
    (∃ (s : State) (edge : BitVec 64) (g : GnssSig), gnssSig (s.chSigNo 95) = some g ∧ s.chState 95 = 1 ∧ s.ifOn (s.chIf 95) = true ∧
      0 ≤ tickDiff (s.sampleTime (s.chIf 95) edge.toNat) (s.rd64 (Reg.chStartLo 95))) ∧
    (∃ s : State, s.chState 95 ≠ 0) ∧
    (∃ (s : State) (g : GnssSig), gnssSig (s.chSigNo 95) = some g ∧ s.chState 95 = 2 ∧ s.ifOn (s.chIf 95) = true ∧
      (s.gch 95).code + (s.gch 95).codeInc.toNat < g.chips * 2 ^ 32) ∧
    (∃ (s : State) (g : GnssSig), gnssSig (s.chSigNo 95) = some g ∧ s.chState 95 = 2 ∧ s.ifOn (s.chIf 95) = true ∧
      g.chips * 2 ^ 32 ≤ (s.gch 95).code + (s.gch 95).codeInc.toNat ∧
      (s.rdn (Reg.chEpochs 95) + 1) % 2 ^ 32 % max 1 (min 20 ((s.gch 95).dump.toNat % 32)) ≠ (s.gch 95).dump.toNat / 256 % 32) ∧
    (∃ (s : State) (g : GnssSig), gnssSig (s.chSigNo 95) = some g ∧ s.chState 95 = 2 ∧ s.ifOn (s.chIf 95) = true ∧
      g.chips * 2 ^ 32 ≤ (s.gch 95).code + (s.gch 95).codeInc.toNat ∧ s.gnss.dump.entries.length < 2048 ∧
      (s.rdn (Reg.chEpochs 95) + 1) % 2 ^ 32 % max 1 (min 20 ((s.gch 95).dump.toNat % 32)) = (s.gch 95).dump.toNat / 256 % 32) :=
  ⟨⟨regs [(Reg.chSig 95, 0x00100000)] (gnss 0), by decide +kernel⟩, ⟨regs [(Reg.chSig 95, 0)] (gnss 0), by decide +kernel⟩,
   ⟨gnssCh 1, 2 ^ 62, ⟨0, 1023, 1, 1, 32, some 0⟩, by decide +kernel⟩, ⟨gnss 1, by decide +kernel⟩,
   ⟨gnssCh 2 { code := 1023 * 2 ^ 32 - 2, codeInc := 1 }, ⟨0, 1023, 1, 1, 32, some 0⟩, by decide +kernel⟩,
   ⟨gnssCh 2 { code := 1023 * 2 ^ 32 - 1, codeInc := 1, dump := 2 }, ⟨0, 1023, 1, 1, 32, some 0⟩, by decide +kernel⟩,
   gnssCh 2 { code := 1023 * 2 ^ 32 - 1, codeInc := 1, dump := 1 }, ⟨0, 1023, 1, 1, 32, some 0⟩, by decide +kernel⟩

theorem wit_GnssAcquisitionSequence :
    (∃ s : State, s.gnssOn = true ∧ ∀ j, j < 16 → s.jobState j ∉ [1, 2]) ∧ (∃ s : State, s.gnssOn = false) ∧
    (∃ (s : State) (edge : BitVec 64), s.acqState = 1 ∧ s.ifOn (s.fld Reg.gnssAcqCtrl Fld.gnssAcqCtrl_IF) = true ∧
      0 ≤ tickDiff (s.sampleTime (s.fld Reg.gnssAcqCtrl Fld.gnssAcqCtrl_IF) edge.toNat) (s.rd64 Reg.gnssAcqStartLo)) ∧
    (∃ (s : State) (balls : List (BitVec 16)), s.acqState = 2 ∧ s.ifOn (s.fld Reg.gnssAcqCtrl Fld.gnssAcqCtrl_IF) = true ∧
      s.gnss.capCount < 2 ^ s.acqDecim ∧ s.gnss.capN < captureSamples s.acqDecim ∧
      s.gnss.capN * 2 ^ s.acqDecim + s.gnss.capCount + balls.length < captureSamples s.acqDecim * 2 ^ s.acqDecim) ∧
    (∃ (s : State) (balls : List (BitVec 16)), s.acqState = 2 ∧ s.ifOn (s.fld Reg.gnssAcqCtrl Fld.gnssAcqCtrl_IF) = true ∧
      s.gnss.capCount < 2 ^ s.acqDecim ∧ s.gnss.capN < captureSamples s.acqDecim ∧
      captureSamples s.acqDecim * 2 ^ s.acqDecim ≤ s.gnss.capN * 2 ^ s.acqDecim + s.gnss.capCount + balls.length) ∧
    (∃ s : State, s.acqState ∈ [1, 2] ∧ ∀ j, j < 16 → s.jobState j ∉ [1, 2]) ∧
    (∃ s : State, s.jobState 15 ∉ [1, 2] ∧ s.jobError 15 = 0 ∧ s.acqState ≠ 4) ∧
    (∃ s : State, s.jobState 15 ∉ [1, 2] ∧ s.jobError 15 ≠ 0) ∧ (∃ s : State, s.jobState 15 ∉ [1, 2] ∧ s.jobError 15 = 0 ∧ s.acqState = 4) ∧
    (∃ s : State, s.jobState 15 ∈ [1, 2]) :=
  ⟨⟨gnss 0, by decide +kernel⟩, ⟨regs [(Reg.gnssCtrl, 4)], by decide +kernel⟩,
   ⟨flds [(Reg.gnssIfCfg 0, Fld.gnssIfCfg_EN, 1)] (regs [(Reg.gnssAcqStatus, 1)] (gnss 0)), 2 ^ 62, by decide +kernel⟩,
   ⟨flds [(Reg.gnssIfCfg 0, Fld.gnssIfCfg_EN, 1)] (regs [(Reg.gnssAcqStatus, 2)] (gnss 0 { State.reset with gnss := { capN := 524286 } })), [0],
     by decide +kernel⟩,
   ⟨flds [(Reg.gnssIfCfg 0, Fld.gnssIfCfg_EN, 1)] (regs [(Reg.gnssAcqStatus, 2)] (gnss 0 { State.reset with gnss := { capN := 524287 } })), [0],
     by decide +kernel⟩,
   ⟨regs [(Reg.gnssAcqStatus, 2)] (gnss 0), by decide +kernel⟩, ⟨gnss 0, by decide +kernel⟩,
   ⟨regs [(Reg.jobCfg 15, 0xFFFFFFFF)] (gnss 0), by decide +kernel⟩, ⟨regs [(Reg.gnssAcqStatus, 4)] (gnss 0), by decide +kernel⟩,
   regs [(Reg.jobStatus 15, 2)], by decide +kernel⟩

/-! ### Witnesses: line ports and queues -/

/-- Port 3 in a link state, with SYN_G LOCKED and a structure that gives it personality 1. -/
def port3 (link : Nat) (s : State := State.reset) : State :=
  flds [(Reg.synStatus 0, Fld.synStatus_STATE, 4), (Reg.lineStatus 3, Fld.lineStatus_LINK_STATE, link)]
    { s with loader := { built := true, params := [⟨0x10, 3, [1]⟩] } }

theorem wit_LineLinksFollowR261 :
    (∃ s : State, s.personality 3 ≠ 0 ∧ s.portBusy 3 = false ∧ s.pgUp 19 = true ∧ s.synLocked 0 = true ∧ s.linkState 3 ≤ 1) ∧
    (∃ s : State, s.linkState 3 = 2) ∧
    (∃ s : State, s.linkState 3 = 3 ∧ (s.lineAt 3).lockAt + 625000 ≤ s.edges ∧ s.negotiates 3 = false) ∧
    (∃ s : State, s.linkState 3 = 3 ∧ (s.lineAt 3).lockAt + 625000 ≤ s.edges ∧ s.negotiates 3 = true ∧ (s.lineAt 3).anRun = true ∧
      s.personality 3 = 1) ∧
    (∃ (s : State) (speed : Fin 4), s.linkState 3 = 3 ∧ (s.lineAt 3).lockAt + 625000 ≤ s.edges ∧ s.negotiates 3 = true ∧
      (s.lineAt 3).anRun = true ∧ s.personality 3 = 2 ∧ speed.val = 2) ∧
    (∃ s : State, s.edges < (s.lineAt 3).lockAt + 625000) ∧ (∃ s : State, s.linkState 3 = 4) ∧
    (∃ s : State, s.linkState 3 = 3 ∧ s.on (Reg.lineStatus 3) Fld.lineStatus_MODE_BAD = true ∧ (s.lineAt 3).badAt + 625000000 ≤ s.edges) ∧
    (∃ s : State, s.on (Reg.lineStatus 3) Fld.lineStatus_PAUSED = true ∧ (s.lineAt 3).pauseEnd ≤ s.edges * 160) :=
  ⟨⟨port3 0, by decide +kernel⟩, ⟨port3 2, by decide +kernel⟩,
   ⟨flds [(Reg.lineAn 3, Fld.lineAn_AN_EN, 0)] (port3 3 { State.reset with edges := 625000 }), by decide +kernel⟩,
   ⟨flds [(Reg.lineAn 3, Fld.lineAn_AN_EN, 1)] (port3 3 { State.reset with edges := 625000, line := [(3, { anRun := true })] }), by decide +kernel⟩,
   ⟨flds [(Reg.lineAn 3, Fld.lineAn_AN_EN, 1)]
      { port3 3 { State.reset with edges := 625001, line := [(3, { anRun := true, lockAt := 1 })] } with
        loader := { built := true, params := [⟨0x10, 3, [2]⟩] } }, 2, by decide +kernel⟩,
   ⟨{ State.reset with edges := 624999 }, by decide +kernel⟩, ⟨port3 4, by decide +kernel⟩,
   ⟨flds [(Reg.lineStatus 3, Fld.lineStatus_MODE_BAD, 1)] (port3 3 { State.reset with edges := 625000000 }), by decide +kernel⟩,
   flds [(Reg.lineStatus 3, Fld.lineStatus_PAUSED, 1)] { State.reset with edges := 1, line := [(3, { pauseEnd := 160 })] }, by decide +kernel⟩

/-- A frame of 60 octets to the broadcast address, with its FCS. -/
def bcast : List Byte := wireFrame (List.replicate 6 0xFF)

/-- A MAC control frame: PAUSE with a quanta field of 1, with its FCS. -/
def pause1 : List Byte := wireFrame [1, 0x80, 0xC2, 0, 0, 1, 0, 0, 0, 0, 0, 0, 0x88, 8, 0, 1, 0, 1]

/-- What makes a frame clean at a port (R268). -/
abbrev Clean (s : State) (frame : List Byte) : Prop :=
  64 ≤ frame.length ∧ frame.length ≤ s.maxFrame 3 ∧ leAt frame (frame.length - 4) 4 = crc32 (frame.take (frame.length - 4))

theorem wit_FramesAtTheLinePorts :
    (∃ s : State, s.lineUp 3 = false) ∧ (∃ s : State, s.lineUp 3 = true ∧ s.personality 3 = 5) ∧
    (∃ (s : State) (frame : List Byte), s.lineUp 3 = true ∧ frame.length < 64) ∧
    (∃ (s : State) (frame : List Byte), s.lineUp 3 = true ∧ 64 ≤ frame.length ∧ frame.length ≤ s.maxFrame 3 ∧
      leAt frame (frame.length - 4) 4 ≠ crc32 (frame.take (frame.length - 4))) ∧
    (∃ (s : State) (frame : List Byte), s.lineUp 3 = true ∧ Clean s frame ∧ (parseEth (frame.take (frame.length - 4))).type ≠ 0x8808 ∧
      s.macAccepts 3 (parseEth (frame.take (frame.length - 4))).dst = true ∧ s.ptpTakes (parseEth (frame.take (frame.length - 4))) = false ∧
      parseUdp (parseEth (frame.take (frame.length - 4))) = none ∧ s.streamMatches 3 (parseEth (frame.take (frame.length - 4))) = false) ∧
    (∃ (s : State) (frame : List Byte), s.lineUp 3 = true ∧ Clean s frame ∧ (parseEth (frame.take (frame.length - 4))).type ≠ 0x8808 ∧
      s.macAccepts 3 (parseEth (frame.take (frame.length - 4))).dst = false) ∧
    (∃ (s : State) (frame : List Byte), let e := parseEth (frame.take (frame.length - 4))
      s.lineUp 3 = true ∧ Clean s frame ∧ e.type = 0x8808 ∧ e.tag = none ∧ beAt e.body 0 2 = 1 ∧ e.dst = 0x0180C2000001 ∧
      beAt e.body 2 2 ≠ 0 ∧ s.on (Reg.linePause 3) Fld.linePause_OBEY = true ∧ ∀ q < 4, s.onWire 3 q = false) ∧
    (∃ (s : State) (f : TxFrame), s.lineUp 3 = true ∧ (∀ q < 4, s.onWire 3 q = false) ∧ s.nextEngine 3 = some f) ∧
    (∃ (s : State) (q k : Nat) (frame : List Byte), s.lineUp 3 = true ∧ (∀ r < 4, s.onWire 3 r = false) ∧ s.nextEngine 3 = none ∧
      s.on (Reg.lineStatus 3) Fld.lineStatus_PAUSED = false ∧ s.dmaOk = true ∧
      (List.range 4).find? (fun r => (s.txReady r 3).isSome) = some q ∧ s.txReady q 3 = some k ∧
      frame.length = txTotal ((s.txq q).descs.take k)) :=
  ⟨⟨State.reset, by decide +kernel⟩, ⟨{ port3 4 with loader := { built := true, params := [⟨0x10, 3, [5]⟩] } }, by decide +kernel⟩,
   ⟨port3 4, List.replicate 63 0, by decide +kernel⟩, ⟨port3 4, List.replicate 64 0, by decide +kernel⟩,
   ⟨flds [(Reg.lineFilter 3, Fld.lineFilter_BCAST, 1)] (port3 4), bcast, by decide +kernel⟩,
   ⟨flds [(Reg.lineFilter 3, Fld.lineFilter_BCAST, 0)] (port3 4), bcast, by decide +kernel⟩,
   ⟨flds [(Reg.linePause 3, Fld.linePause_OBEY, 1)] (port3 4), pause1, by decide +kernel⟩,
   ⟨port3 4 { State.reset with line := [(3, { wait := [⟨1, [], 0⟩] })] }, ⟨1, [], 0⟩, by decide +kernel⟩,
   regs [(Reg.queueCtrl, 1), (Reg.txqCtrl 2, 1)] (port3 4 { State.reset with host := { linkUp := true, busMaster := true },
                                                                             queue := { tx := [(2, { descs := [⟨0, 60, 0x33, 0⟩] })] } }),
   2, 1, List.replicate 60 0, by decide +kernel⟩

/-- Queue 3 with a frame of one descriptor on the wire of port 0, and no queue running. -/
def onWire3 (up : Bool) : State :=
  { State.reset with host := { linkUp := up, busMaster := true }, queue := { tx := [(3, { descs := [⟨0, 64, 3, 0⟩], wire := some (0, 0, []) })] } }

theorem wit_HostQueuesMoveBuffersAndDescriptors :
    (∃ (s : State) (v : BitVec 16) (addrs : List (BitVec 64)),
      addrs.length = (v.toNat % s.ringSize Reg.poolSize + s.ringSize Reg.poolSize - s.rdn Reg.poolTail % s.ringSize Reg.poolSize) %
        s.ringSize Reg.poolSize ∧ addrs ≠ []) ∧
    (∃ s : State, s.bit Reg.queueStatus 0 = false) ∧
    (∃ (s : State) (x : Nat), (s.rxq 3).unann = some x ∧ s.fld (Reg.rxqCtrl 3) ⟨8, 8⟩ ≠ 0 ∧ x + 625 * s.fld (Reg.rxqCtrl 3) ⟨8, 8⟩ ≤ s.edges ∧
      s.rxqUsed 3 ≤ s.fld (Reg.rxqCtrl 3) ⟨16, 16⟩) ∧ (∃ s : State, (s.rxq 3).unann = none) ∧
    (∃ (s : State) (v : BitVec 16) (descs : List (BitVec 128)),
      s.txqRuns 0 = false ∧ s.txqRuns 1 = false ∧ s.txqRuns 2 = false ∧ s.txqRuns 3 = false ∧
      descs.length = (v.toNat % s.ringSize (Reg.txqSize 3) + s.ringSize (Reg.txqSize 3) - s.rdn (Reg.txqTail 3) % s.ringSize (Reg.txqSize 3)) %
        s.ringSize (Reg.txqSize 3) ∧ descs ≠ []) ∧
    (∃ (s : State) (w : Nat × Nat × List Byte) (k : Nat), (s.txq 3).wire = some w ∧ txHead (s.txq 3).descs = .frame k ∧
      (s.txq 3).descs.length = k ∧ s.dmaOk = true ∧ (s.lineAt w.1).pauseNext = none ∧ ∀ r : Fin 4, r ≠ 3 → s.txqRuns r = false) ∧
    (∃ (s : State) (w : Nat × Nat × List Byte), (s.txq 3).wire = some w ∧ s.dmaOk = false) ∧ (∃ s : State, (s.txq 3).wire = none) :=
  ⟨⟨State.reset, 1, [64], by decide +kernel⟩, ⟨State.reset, by decide +kernel⟩,
   ⟨regs [(Reg.rxqCtrl 3, 0x40100)] { State.reset with edges := 625, queue := { rx := [(3, { unann := some 0 })] } }, 0, by decide +kernel⟩,
   ⟨State.reset, by decide +kernel⟩, ⟨State.reset, 1, [64], by decide +kernel⟩, ⟨onWire3 true, (0, 0, []), 1, by decide +kernel⟩,
   ⟨onWire3 false, (0, 0, []), by decide +kernel⟩, State.reset, by decide +kernel⟩

/-! ### Witnesses: keys and NTS -/

theorem wit_MasterKeyRingAndBlobs :
    (∃ (s : State) (m : MasterKey), s.rdn Reg.ntsRotLeft = 30 ∧ s.keys.pend = none ∧ s.keys.cur = some m ∧ s.drawsPending = true ∧
      s.canGenerate = true) ∧
    (∃ (s : State) (m : MasterKey), s.rdn Reg.ntsRotLeft = 0 ∧ s.keys.pend = some m ∧ s.bit Reg.ntsRotStatus 4 = true) ∧
    (∃ s : State, s.rdn Reg.ntsRotLeft = 0 ∧ s.keys.pend = none) ∧
    (∃ s : State, s.rdn Reg.ntsRotLeft ≠ 30 ∧ s.rdn Reg.ntsRotLeft ≠ 0 ∧ s.bit Reg.ntsRotStatus 4 = false) ∧
    (∃ s : State, s.rdn Reg.ntsRotLeft = 30 ∧ s.keys.pend ≠ none) ∧
    (∃ s : State, s.blobBusy = true ∧ s.keys.op = 1) ∧ (∃ s : State, s.blobBusy = true ∧ s.keys.op = 2) ∧
    (∃ s : State, s.blobBusy = false ∧ s.on Reg.keysStatus Fld.keysStatus_ID_OK = true) ∧
    (∃ s : State, s.on Reg.keysStatus Fld.keysStatus_ID_OK = false) ∧ (∃ s : State, s.ntsAbsent = true) ∧ (∃ s : State, s.keysLocked = true) ∧
    (∃ (s : State) (b : List Byte), s.ntsAbsent = false ∧ s.keysLocked = false ∧ s.blobCheck = (4, b)) :=
  ⟨⟨regs [(Reg.ntsRotLeft, 30)] { State.reset with keys := { cur := some ⟨1, 0⟩ } }, ⟨1, 0⟩, by decide +kernel⟩,
   ⟨regs [(Reg.ntsRotLeft, 0), (Reg.ntsRotStatus, 16)] { State.reset with keys := { pend := some ⟨1, 0⟩ } }, ⟨1, 0⟩, by decide +kernel⟩,
   ⟨regs [(Reg.ntsRotLeft, 0)], by decide +kernel⟩, ⟨regs [(Reg.ntsRotLeft, 29), (Reg.ntsRotStatus, 0)], by decide +kernel⟩,
   ⟨regs [(Reg.ntsRotLeft, 30)] { State.reset with keys := { pend := some ⟨1, 0⟩ } }, by decide +kernel⟩,
   ⟨regs [(Reg.keysBlobStatus, 0x40000)] { State.reset with keys := { op := 1 } }, by decide +kernel⟩,
   ⟨regs [(Reg.keysBlobStatus, 0x40000)] { State.reset with keys := { op := 2 } }, by decide +kernel⟩,
   ⟨flds [(Reg.keysStatus, Fld.keysStatus_ID_OK, 1)], by decide +kernel⟩, ⟨flds [(Reg.keysStatus, Fld.keysStatus_ID_OK, 0)], by decide +kernel⟩,
   ⟨{ State.reset with loader := { built := true, params := [⟨0x70, 21, [2]⟩] } }, by decide +kernel⟩,
   ⟨flds [(Reg.keysStatus, Fld.keysStatus_LOCKED, 1)], by decide +kernel⟩, State.reset, [], by decide +kernel⟩

/-- A blob's first octets stand in the window. -/
def blobS : State := { State.reset with keys := { window := SMap.ofList 0 0 [0x54, 0x53, 0x4B, 0x42, 1, 0, 64, 0] } }

/-- The blob that passes: what AES-SIV answers is not the model's, so it is a premise. -/
theorem wit_MasterKeyRingAndBlobs_restore (body : List Byte)
    (h : Config.sivOpen blobS.wrapKey [(SMap.slurp 0 blobS.keys.window 0 1360).take 64] ((SMap.slurp 0 blobS.keys.window 0 1360).drop 64) =
      some body) : ∃ b, blobS.ntsAbsent = false ∧ blobS.keysLocked = false ∧ blobS.blobCheck = (0, b) := by
  refine ⟨leBytes 1 (leAt (SMap.slurp 0 blobS.keys.window 0 1360) 0x19 1) ++ body, by decide +kernel, by decide +kernel, ?_⟩
  simp only [blobCheck]
  rw [if_neg (by decide +kernel), if_neg (by decide +kernel), if_neg (by decide +kernel), h]

theorem wit_KeysAreLoadedClearedAndZeroized :
    (∃ s : State, s.keysLocked = false ∧ s.ntsAbsent = false) ∧ (∃ s : State, s.keysLocked = true) ∧
    (∃ s : State, s.keysLocked = false ∧ s.ntsAbsent = true) ∧ (∃ (s : State) (target : Fin 32), s.keysLocked = false ∧ 16 < target.val) ∧
    (∃ target : Fin 32, target.val < 16) ∧ (∃ s : State, s.faultLatched 20 = true) ∧ (∃ v : Word, v ≠ 0xC3) ∧
    (∃ s : State, s.faultLatched 20 = false) :=
  ⟨⟨State.reset, by decide +kernel⟩, ⟨flds [(Reg.keysStatus, Fld.keysStatus_LOCKED, 1)], by decide +kernel⟩,
   ⟨{ State.reset with loader := { built := true, params := [⟨0x70, 21, [2]⟩] } }, by decide +kernel⟩, ⟨State.reset, 17, by decide +kernel⟩,
   ⟨15, by decide⟩, ⟨regs [(Reg.faultStatusLo, 0x100000)], by decide +kernel⟩, ⟨0, by decide⟩, State.reset, by decide +kernel⟩

/-- A plain NTP request over IPv4 to 10.0.0.2. -/
def ntpFrame : List Byte :=
  List.replicate 12 2 ++ [8, 0, 0x45, 0, 0, 76, 0, 0, 0, 0, 64, 17, 0, 0, 10, 0, 0, 1, 10, 0, 0, 2, 0, 123, 0, 123, 0, 56, 0, 0, 0x23] ++
    List.replicate 47 0

/-- Its datagram. -/
def ntpUdp : Udp := ⟨false, 0x0A000001, 0x0A000002, 64, 123, 123, 0x23 :: List.replicate 47 0, true⟩

/-- The responder enabled at 10.0.0.2 on port 3, which is UP. -/
def ntsS (s : State := State.reset) : State :=
  flds [(Reg.ntsCtrl, Fld.ntsCtrl_EN, 1), (Reg.ntsCtrl, Fld.ntsCtrl_PLAIN, 1), (Reg.ntsRateCfg, ⟨0, 16⟩, 0),
    (Reg.lineStatus 3, Fld.lineStatus_LINK_STATE, 4)] (regs [(Reg.ntsIpv4 3, 0x0A000002)] s)

theorem wit_NtsAnswersInOrder :
    (∃ (s : State) (f : List Byte) (u : Udp), parseUdp (parseEth f) = some u ∧ s.ntsTakes 3 (parseEth f) u = true ∧ s.mayTransmit = false) ∧
    (∃ (s : State) (f : List Byte) (u : Udp), parseUdp (parseEth f) = some u ∧ s.ntsTakes 3 (parseEth f) u = true ∧ s.mayTransmit = true ∧
      u.payload.length = 48 ∧ (beAt u.payload 0 1 = 0x23 ∨ beAt u.payload 0 1 = 0x1B) ∧ s.on Reg.ntsCtrl Fld.ntsCtrl_PLAIN = true ∧
      s.fld Reg.ntsRateCfg ⟨0, 16⟩ = 0 ∧ s.ntsFull = false) ∧
    (∃ f : List Byte, parseUdp (parseEth f) = none) ∧
    (∃ (s : State) (f : List Byte) (u : Udp), parseUdp (parseEth f) = some u ∧ s.ntsTakes 3 (parseEth f) u = false) ∧
    (∃ (s : State) (r : NtsReply), s.nts.queue.find? (·.port == 3) = some r ∧ (s.fullTicks 0 : Int) < r.due) ∧
    (∃ s : State, s.nts.queue.find? (·.port == 3) = none) ∧
    (∃ (s : State) (r : NtsReply), s.nts.queue.find? (·.port == 3) = some r ∧ r.due ≤ s.fullTicks 0 ∧ s.lineUp 3 = true ∧
      s.on (Reg.lineStatus 3) Fld.lineStatus_PAUSED = false ∧ r.cnt = Reg.ntsRespPlain) ∧
    (∃ s : State, s.bit Reg.ntsMintStatus 3 = false ∧ s.keys.cur = none) ∧ (∃ s : State, s.bit Reg.ntsMintStatus 3 = true) :=
  ⟨⟨ntsS { State.reset with loader := { built := true, params := [⟨0x60, 0, [1]⟩] } }, ntpFrame, ntpUdp, by decide +kernel⟩,
   ⟨ntsS, ntpFrame, ntpUdp, by decide +kernel⟩, ⟨[], by decide +kernel⟩,
   ⟨regs [(Reg.ntsIpv4 3, 0x0A000003)] ntsS, ntpFrame, ntpUdp, by decide +kernel⟩,
   ⟨ntsS { State.reset with nts := { queue := [⟨3, [], Reg.ntsRespPlain, 1⟩] } }, ⟨3, [], Reg.ntsRespPlain, 1⟩, by decide +kernel⟩,
   ⟨ntsS { State.reset with nts := { queue := [⟨2, [], Reg.ntsRespPlain, 0⟩] } }, by decide +kernel⟩,
   ⟨ntsS { State.reset with nts := { queue := [⟨3, [], Reg.ntsRespPlain, 0⟩] } }, ⟨3, [], Reg.ntsRespPlain, 0⟩, by decide +kernel⟩,
   ⟨State.reset, by decide +kernel⟩, regs [(Reg.ntsMintStatus, 8)], by decide +kernel⟩

/-! ### Witnesses: PTP -/

/-- A PTP message of version 2 from identity 0x01000000000000000001, sequenceId 7. -/
def pmsg (type dom flags : Nat) (body : List Byte) : List Byte :=
  [BitVec.ofNat 8 type, 2, 0, BitVec.ofNat 8 (34 + body.length), BitVec.ofNat 8 dom, 0, BitVec.ofNat 8 (flags / 256), 0] ++
    List.replicate 12 0 ++ [1, 0, 0, 0, 0, 0, 0, 0, 0, 1, 0, 7, 0, 0] ++ body

/-- The message as received at port 3, from IPv4 address 0. -/
def prx (type dom flags : Nat) (body : List Byte) : PtpRx := ⟨3, pmsg type dom flags body, 0, 1, 0, 0, false, false, []⟩

/-- The engine on, port 3 UP with M in domain 0 in a state and a profile, and the follower in domain 1. -/
def ptpS (mst profile : Nat) (port : PtpPort := {}) : State :=
  flds [(Reg.ptpMCfg 3, Fld.ptpMCfg_PROFILE, profile), (Reg.ptpMCfg 3, Fld.ptpMCfg_ENABLE, 1), (Reg.ptpMCfg 3, Fld.ptpMCfg_ROLE, 2),
    (Reg.ptpMCfg 3, Fld.ptpMCfg_UC, 1), (Reg.ptpMCfg 3, Fld.ptpMCfg_MCAST, 1), (Reg.ptpMCfg 3, Fld.ptpMCfg_TRANSPORT, 1),
    (Reg.ptpMCfg 3, Fld.ptpMCfg_DOMAIN, 0), (Reg.ptpSCfg 3, Fld.ptpSCfg_DOMAIN, 1), (Reg.ptpSCfg 3, Fld.ptpSCfg_ENABLE, 1),
    (Reg.ptpSCfg 3, Fld.ptpSCfg_UC, 1), (Reg.lineStatus 3, Fld.lineStatus_LINK_STATE, 4)]
    (regs [(Reg.ptpCtrl, 1), (Reg.ptpClockIdLo, 5), (Reg.ptpMState 3, mst)] { State.reset with ptp := { ports := [(3, port)] } })

/-- The identity of pmsg's sender. -/
def peer : Nat := 0x01000000000000000001

/-- What an accepted message's check answers. -/
theorem accepted {s : State} {m : PtpRx} {ks : List Nat} (h : (s.ptpAccept m ks).1 = some (ptpHdr m.msg)) :
    ∃ u, s.ptpAccept m ks = (some (ptpHdr m.msg), u) := ⟨_, Prod.ext h rfl⟩

/-- The check of message types `ks` accepts `m` in `s`. -/
abbrev Accepts (s : State) (m : PtpRx) (ks : List Nat) : Prop := ∃ u, s.ptpAccept m ks = (some (ptpHdr m.msg), u)

set_option maxRecDepth 10000 in
theorem wit_PtpReceivesAsR293ToR313 :
    (∃ (s u : State) (m : PtpRx), ∀ ks ∈ [[11], [0], [8], [1], [9], [2], [3], [10], [12], [12, 13]], s.ptpAccept m ks = (none, u)) ∧
    (∃ s m, Accepts s m [11] ∧ s.role m.port ≠ 1) ∧
    (∃ s m, Accepts s m [11] ∧ s.role m.port = 1 ∧ (ptpHdr m.msg).dom = s.domM m.port ∧ s.on (Reg.ptpMCfg m.port) Fld.ptpMCfg_ENABLE = true) ∧
    (∃ s m, Accepts s m [0] ∧ s.fromParent m.port (ptpHdr m.msg) = true ∧ (ptpHdr m.msg).flags / 512 % 2 = 1) ∧
    (∃ s m, Accepts s m [0] ∧ s.fromParent m.port (ptpHdr m.msg) = true ∧ ¬ (ptpHdr m.msg).flags / 512 % 2 = 1 ∧ (s.pport m.port).dwin = []) ∧
    (∃ s m, Accepts s m [0] ∧ s.fromParent m.port (ptpHdr m.msg) = false) ∧
    (∃ s m, Accepts s m [8] ∧ s.fromParent m.port (ptpHdr m.msg) = true ∧ (s.pport m.port).sync = some ((ptpHdr m.msg).seq, 9, 0) ∧
      (s.pport m.port).syncOld = false ∧ (s.pport m.port).dwin = []) ∧
    (∃ s m, Accepts s m [8] ∧ s.fromParent m.port (ptpHdr m.msg) = true ∧ (s.pport m.port).sync = some ((ptpHdr m.msg).seq, 9, 0) ∧
      (s.pport m.port).syncOld = true) ∧
    (∃ s m, Accepts s m [8] ∧ (s.pport m.port).sync = none) ∧
    (∃ s m, Accepts s m [1] ∧ s.forM m.port (ptpHdr m.msg) = true ∧ s.mState m.port = 2 ∧ s.p2p m.port = false ∧
      (ptpHdr m.msg).flags / 1024 % 2 = 0) ∧
    (∃ s m, Accepts s m [1] ∧ s.forM m.port (ptpHdr m.msg) = true ∧ s.mState m.port = 2 ∧ s.p2p m.port = false ∧
      (ptpHdr m.msg).flags / 1024 % 2 = 1 ∧ s.ucFind m.port (ptpHdr m.msg).src m.kind m.addr.toNat = some 5 ∧ (s.ucEntry 5).dresp ≠ none) ∧
    (∃ s m, Accepts s m [1] ∧ s.mState m.port ≠ 2) ∧
    (∃ s m, Accepts s m [9] ∧ (s.pport m.port).dreq = some ((ptpHdr m.msg).seq, 9) ∧ (s.pport m.port).fwd = some 3 ∧
      s.fromParent m.port (ptpHdr m.msg) = true ∧ beAt m.msg 44 10 = s.identity m.port true ∧ s.p2p m.port = false) ∧
    (∃ s m, Accepts s m [9] ∧ (s.pport m.port).dreq = none) ∧
    (∃ s m, Accepts s m [2] ∧ s.p2p m.port = true ∧ s.mState m.port ≠ 0 ∧ s.mState m.port ≠ 5) ∧
    (∃ s m, Accepts s m [2] ∧ s.p2p m.port = false) ∧
    (∃ s m, Accepts s m [3] ∧ (s.pport m.port).pdOpen = some ((ptpHdr m.msg).seq, 9) ∧ beAt m.msg 44 10 = s.identity m.port false ∧
      (ptpHdr m.msg).flags / 512 % 2 = 1) ∧
    (∃ s m, Accepts s m [3] ∧ (s.pport m.port).pdOpen = some ((ptpHdr m.msg).seq, 9) ∧ beAt m.msg 44 10 = s.identity m.port false ∧
      ¬ (ptpHdr m.msg).flags / 512 % 2 = 1) ∧
    (∃ s m, Accepts s m [3] ∧ (s.pport m.port).pdOpen = none) ∧
    (∃ s m, Accepts s m [10] ∧ (s.pport m.port).pdOpen = some ((ptpHdr m.msg).seq, 9) ∧ (s.pport m.port).pdResp = some (1, 2, 3) ∧
      beAt m.msg 44 10 = s.identity m.port false) ∧
    (∃ s m, Accepts s m [10] ∧ (s.pport m.port).pdOpen = none) ∧
    (∃ s m, Accepts s m [12, 13] ∧ (ptpHdr m.msg).type = 13) ∧
    (∃ s m, Accepts s m [12, 13] ∧ (ptpHdr m.msg).type = 12 ∧ (tlvsOf m.msg).all (fun x => x.1 < 4 || 7 < x.1) = true) :=
  ⟨⟨State.reset, State.reset, prx 0 0 0 [], by
     have h (ks) : State.reset.ptpAccept (prx 0 0 0 []) ks = (none, State.reset) := by
       unfold State.ptpAccept; rw [if_pos (by rw [show State.reset.ptpOn = false by decide +kernel]; rfl)]
     exact fun ks _ => h ks⟩,
   ⟨ptpS 2 0, prx 11 0 0 (List.replicate 30 0), accepted (by decide +kernel), by decide +kernel⟩,
   ⟨flds [(Reg.ptpMCfg 3, Fld.ptpMCfg_ROLE, 1)] (ptpS 2 0), prx 11 0 0 (List.replicate 30 0), accepted (by decide +kernel), by decide +kernel⟩,
   ⟨ptpS 2 0 { parent := some peer }, prx 0 1 512 (List.replicate 10 0), accepted (by decide +kernel), by decide +kernel⟩,
   ⟨ptpS 2 0 { parent := some peer }, prx 0 1 0 (List.replicate 10 0), accepted (by decide +kernel), by decide +kernel⟩,
   ⟨ptpS 2 0, prx 0 1 0 (List.replicate 10 0), accepted (by decide +kernel), by decide +kernel⟩,
   ⟨ptpS 2 0 { parent := some peer, sync := some (7, 9, 0) }, prx 8 1 0 (List.replicate 10 0), accepted (by decide +kernel),
     by decide +kernel⟩,
   ⟨ptpS 2 0 { parent := some peer, sync := some (7, 9, 0), syncOld := true }, prx 8 1 0 (List.replicate 10 0),
     accepted (by decide +kernel), by decide +kernel⟩,
   ⟨ptpS 2 0, prx 8 1 0 (List.replicate 10 0), accepted (by decide +kernel), by decide +kernel⟩,
   ⟨ptpS 2 0, prx 1 0 0 (List.replicate 10 0), accepted (by decide +kernel), by decide +kernel⟩,
   ⟨{ ptpS 2 0 with ptp := { uc := [(5, { port := 3, src := peer, kind := 1, dresp := some {} })] } }, prx 1 0 1024 (List.replicate 10 0),
     accepted (by decide +kernel), by decide +kernel⟩,
   ⟨ptpS 1 0, prx 1 0 0 (List.replicate 10 0), accepted (by decide +kernel), by decide +kernel⟩,
   ⟨ptpS 2 0 { parent := some peer, dreq := some (7, 9), fwd := some 3 },
     prx 9 1 0 (List.replicate 10 0 ++ beBytes 10 ((ptpS 2 0).identity 3 true)), accepted (by decide +kernel), by decide +kernel⟩,
   ⟨ptpS 2 0, prx 9 1 0 (List.replicate 20 0), accepted (by decide +kernel), by decide +kernel⟩,
   ⟨ptpS 2 1, prx 2 0 0 (List.replicate 20 0), accepted (by decide +kernel), by decide +kernel⟩,
   ⟨ptpS 2 0, prx 2 0 0 (List.replicate 20 0), accepted (by decide +kernel), by decide +kernel⟩,
   ⟨ptpS 2 1 { pdOpen := some (7, 9) }, prx 3 0 512 (List.replicate 10 0 ++ beBytes 10 ((ptpS 2 1).identity 3 false)),
     accepted (by decide +kernel), by decide +kernel⟩,
   ⟨ptpS 2 1 { pdOpen := some (7, 9) }, prx 3 0 0 (List.replicate 10 0 ++ beBytes 10 ((ptpS 2 1).identity 3 false)),
     accepted (by decide +kernel), by decide +kernel⟩,
   ⟨ptpS 2 1, prx 3 0 0 (List.replicate 20 0), accepted (by decide +kernel), by decide +kernel⟩,
   ⟨ptpS 2 1 { pdOpen := some (7, 9), pdResp := some (1, 2, 3) },
     prx 10 0 0 (List.replicate 10 0 ++ beBytes 10 ((ptpS 2 1).identity 3 false)), accepted (by decide +kernel), by decide +kernel⟩,
   ⟨ptpS 2 1, prx 10 0 0 (List.replicate 20 0), accepted (by decide +kernel), by decide +kernel⟩,
   ⟨ptpS 2 0, prx 13 0 0 (List.replicate 14 0), accepted (by decide +kernel), by decide +kernel⟩,
   ptpS 2 0, prx 12 0 0 (List.replicate 10 0), accepted (by decide +kernel), by decide +kernel⟩

/-- A state of the follower of port 3, which takes unicast over IPv4. -/
def ucS (p : PtpPort) : State := flds [(Reg.ptpMCfg 3, Fld.ptpMCfg_TRANSPORT, 1)] (ptpS 2 0 p)

theorem wit_PtpGrantsProfilesAndTimeouts :
    (∃ s m, Accepts s m [12] ∧ s.forM m.port (ptpHdr m.msg) = true ∧ s.mState m.port = 2 ∧
      s.on (Reg.ptpMCfg m.port) Fld.ptpMCfg_UC = true) ∧
    (∃ s m, Accepts s m [12] ∧ s.mState m.port ≠ 2) ∧
    (∃ s m c, Accepts s m [12] ∧ s.forM m.port (ptpHdr m.msg) = true ∧ (tlvsOf m.msg).filter (·.1 == 6) = [c] ∧
      kindOf (beAt m.msg (c.2.1 + 4) 1 / 16) = some 0 ∧ s.ucFind m.port (ptpHdr m.msg).src m.kind m.addr.toNat = some 5) ∧
    (∃ s m, Accepts s m [12] ∧ (tlvsOf m.msg).filter (·.1 == 6) = [] ∧ (tlvsOf m.msg).filter (·.1 == 5) = []) ∧
    (∃ s m g, Accepts s m [12] ∧ (tlvsOf m.msg).filter (·.1 == 5) = [g] ∧ (ptpHdr m.msg).dom = s.domS m.port ∧
      s.followOn m.port = true ∧ s.on (Reg.ptpSCfg m.port) Fld.ptpSCfg_UC = true ∧ m.kind.val = 1 ∧
      m.addr.toNat = s.rdn (Reg.ptpSUcIp m.port) ∧ kindOf (beAt m.msg (g.2.1 + 4) 1 / 16) = some 0 ∧ beAt m.msg (g.2.1 + 6) 4 ≠ 0) ∧
    (∃ s m g, Accepts s m [12] ∧ (tlvsOf m.msg).filter (·.1 == 5) = [g] ∧ (ptpHdr m.msg).dom = s.domS m.port ∧
      s.followOn m.port = true ∧ s.on (Reg.ptpSCfg m.port) Fld.ptpSCfg_UC = true ∧ m.kind.val = 1 ∧
      m.addr.toNat = s.rdn (Reg.ptpSUcIp m.port) ∧ kindOf (beAt m.msg (g.2.1 + 4) 1 / 16) = some 0 ∧ beAt m.msg (g.2.1 + 6) 4 = 0) ∧
    (∃ (s : State) (g : Grant), grantOf (s.ucEntry 5) 0 = some g ∧ g.upto ≤ s.monitorNow) ∧
    (∃ s : State, ∀ g, grantOf (s.ucEntry 5) 0 = some g → s.monitorNow < g.upto) ∧
    (∃ s : State, s.negotiatesUc 3 = true ∧ (s.pport 3).ucAsked = none ∧ (s.pport 3).ucRetry = none ∧
      ∃ k < 3, (s.pport 3).ucUpto.get 0 k ≤ s.monitorNow + (30 * (1000000 * usTicks) : Nat)) ∧
    (∃ s : State, ∀ k < 3, s.monitorNow + (30 * (1000000 * usTicks) : Nat) < (s.pport 3).ucUpto.get 0 k) ∧
    (∃ (s : State) (t0 : Int), s.negotiatesUc 3 = true ∧ (s.pport 3).ucAsked = some t0 ∧ t0 + (1000000 * usTicks : Nat) ≤ s.monitorNow) ∧
    (∃ (s : State) (t0 : Int), s.negotiatesUc 3 = true ∧ (s.pport 3).ucAsked = none ∧ (s.pport 3).ucRetry = some t0 ∧ t0 ≤ s.monitorNow) ∧
    (∃ s : State, s.negotiatesUc 3 = false) ∧ (∃ profile : Fin 8, profile.val ∉ [2, 3, 4]) ∧
    (∃ s : State, s.mState 3 = 1 ∧ s.bestIn 3 (s.domM 3) = none ∧
      (s.pport 3).listenFrom + (max 2 (s.rdn (Reg.ptpMIntv 3) % 16) * intervalTicks (s.annLog 3) : Nat) ≤ s.monitorNow) ∧
    (∃ s : State, s.mState 3 = 1 ∧ s.bestIn 3 (s.domM 3) = none ∧
      ¬ (s.pport 3).listenFrom + (max 2 (s.rdn (Reg.ptpMIntv 3) % 16) * intervalTicks (s.annLog 3) : Nat) ≤ s.monitorNow) ∧
    (∃ (s : State) (w0 w1 w2 w3 : Word) (es : List (List Word)), s.ptp.ts.entries = [w0, w1, w2, w3] :: es) ∧
    (∃ s : State, s.ptp.ts.entries = []) :=
  ⟨⟨ptpS 2 0, prx 12 0 0 (List.replicate 10 0), accepted (by decide +kernel), by decide +kernel⟩,
   ⟨ptpS 1 0, prx 12 0 0 (List.replicate 10 0), accepted (by decide +kernel), by decide +kernel⟩,
   ⟨{ ptpS 2 0 with ptp := { uc := [(5, { port := 3, src := peer, kind := 1 })] } },
     prx 12 0 0 (List.replicate 10 0 ++ [0, 6, 0, 2, 0xB0, 0]), (6, 44, 2), accepted (by decide +kernel), by decide +kernel⟩,
   ⟨ptpS 2 0, prx 12 0 0 (List.replicate 10 0), accepted (by decide +kernel), by decide +kernel⟩,
   ⟨ptpS 2 0, prx 12 1 0 (List.replicate 10 0 ++ [0, 5, 0, 8, 0xB0, 0, 0, 0, 1, 44, 0, 1]), (5, 44, 8), accepted (by decide +kernel),
     by decide +kernel⟩,
   ⟨ptpS 2 0, prx 12 1 0 (List.replicate 10 0 ++ [0, 5, 0, 8, 0xB0, 0, 0, 0, 0, 0, 0, 1]), (5, 44, 8), accepted (by decide +kernel),
     by decide +kernel⟩,
   ⟨{ State.reset with ptp := { uc := [(5, { ann := some {} })] } }, {}, by decide +kernel⟩,
   ⟨{ State.reset with ptp := { uc := [(5, { ann := some { upto := 1 } })] } }, fun g h => by
     have e : grantOf (({ State.reset with ptp := { uc := [(5, { ann := some { upto := 1 } })] } } : State).ucEntry 5) 0 = some { upto := 1 } := by
       decide +kernel
     obtain rfl := Option.some.inj (e.symm.trans h); decide +kernel⟩,
   ⟨ucS { ucUpto := [(0, (30 * (1000000 * usTicks) : Nat))] }, by decide +kernel, by decide +kernel, by decide +kernel, 0, by decide +kernel⟩,
   ⟨ucS { ucUpto := [(0, (30 * (1000000 * usTicks) + 1 : Nat)), (1, (30 * (1000000 * usTicks) + 1 : Nat)), (2, (30 * (1000000 * usTicks) + 1 : Nat))] },
     by decide +kernel⟩,
   ⟨ucS { ucAsked := some (-65536000000000) }, -65536000000000, by decide +kernel⟩, ⟨ucS { ucRetry := some 0 }, 0, by decide +kernel⟩,
   ⟨State.reset, by decide +kernel⟩, ⟨7, by decide⟩,
   ⟨regs [(Reg.ptpMIntv 3, 3)] (ptpS 1 0 { listenFrom := -3 * (1000000 * usTicks : Nat) }), by decide +kernel⟩,
   ⟨regs [(Reg.ptpMIntv 3, 3)] (ptpS 1 0 { listenFrom := 1 - 3 * (1000000 * usTicks : Nat) }), by decide +kernel⟩,
   ⟨{ State.reset with ptp := { ts := { entries := [[1, 2, 3, 4]] } } }, 1, 2, 3, 4, [], by decide +kernel⟩, State.reset, by decide +kernel⟩

/-- Port 3 is UP and not held, and its messages carry no authentication or have their key. -/
abbrev Sends (s : State) : Prop :=
  s.lineUp 3 = true ∧ s.on (Reg.lineStatus 3) Fld.lineStatus_PAUSED = false ∧
    (s.bit (Reg.ptpAuth 3) 1 = false ∨ (s.keyTx (s.fld (Reg.ptpAuth 3) ⟨16, 4⟩) = true ∧ s.ptpKey (s.fld (Reg.ptpAuth 3) ⟨16, 4⟩) ≠ none))

/-- Port 3 sends to the group. -/
abbrev Groups (s : State) : Prop := s.mSends 3 = true ∧ s.on (Reg.ptpMCfg 3) Fld.ptpMCfg_MCAST = true

/-- The engine at a time of TB_0 in 2^-48 ns. -/
def ptpT (t : Nat) (port : PtpPort := {}) (uc : SMap UcEntry := []) : State :=
  regs [(Reg.ptpMIntv 3, 3)]
    { ptpS 2 0 port with ptp := { ports := [(3, port)], uc := uc }, time := { tb := [(0, { t := t })] } }

/-- A client's entry at port 3 with both grants. -/
def client (g : Grant) : SMap UcEntry := [(4095, { port := 3, ann := some g, sync := some g })]

/-- Port 3 in a state owes a reply of each kind to a request of a time. -/
def owes (st : Nat) (got : Int) : State := ptpS st 0 { replies := [3, 8, 9, 10].map fun k => { kind := k, got := got } }

theorem wit_PtpSendsAsR298ToR301 :
    (∃ s : State, let i := s.lastInstant (s.annLog 3) (50000 * 2 ^ 48)
      Groups s ∧ Sends s ∧ (s.pport 3).annSent ≠ some i.1 ∧ i.2.2 = false) ∧
    (∃ s : State, let i := s.lastInstant (s.annLog 3) (50000 * 2 ^ 48)
      Groups s ∧ s.lineUp 3 = true ∧ (s.pport 3).annSent ≠ some i.1 ∧ i.2.2 = true) ∧
    (∃ s : State, let i := s.lastInstant (s.annLog 3) (50000 * 2 ^ 48)
      Groups s ∧ s.lineUp 3 = true ∧ s.bit (Reg.ptpAuth 3) 1 = true ∧ s.keyTx (s.fld (Reg.ptpAuth 3) ⟨16, 4⟩) = false ∧
        (s.pport 3).annSent ≠ some i.1 ∧ i.2.2 = false) ∧
    (∃ s : State, Sends s ∧ s.bit (Reg.ptpAuth 3) 1 = true) ∧
    (∃ s : State, let i := s.lastInstant (s.syncLog 3) 0
      Groups s ∧ Sends s ∧ (s.pport 3).syncSent ≠ some i.1 ∧ i.2.2 = false ∧ s.oneStep 3 = false) ∧
    (∃ s : State, let i := s.lastInstant (s.syncLog 3) 0
      Groups s ∧ s.lineUp 3 = true ∧ (s.pport 3).syncSent ≠ some i.1 ∧ i.2.2 = true) ∧
    (∃ s : State, ¬ Groups s) ∧ (∃ s : State, (s.pport 3).annSent = some (s.lastInstant (s.annLog 3) (50000 * 2 ^ 48)).1) ∧
    (∃ s : State, (s.pport 3).syncSent = some (s.lastInstant (s.syncLog 3) 0).1) ∧
    (∃ (s : State) (g : Grant), s.mSends 3 = true ∧ Sends s ∧ s.grantRuns 3 4095 0 = some g ∧ s.grantRuns 3 4095 1 = some g ∧
      g.sent ≠ some (s.lastInstant g.log (clientOffset g.log 4095)).1 ∧ (s.lastInstant g.log (clientOffset g.log 4095)).2.2 = false) ∧
    (∃ (s : State) (g : Grant), s.mSends 3 = true ∧ s.lineUp 3 = true ∧ s.grantRuns 3 4095 0 = some g ∧ s.grantRuns 3 4095 1 = some g ∧
      g.sent ≠ some (s.lastInstant g.log (clientOffset g.log 4095)).1 ∧ (s.lastInstant g.log (clientOffset g.log 4095)).2.2 = true) ∧
    (∃ (s : State) (g : Grant), s.ptpOn = true ∧ s.on (Reg.ptpMCfg 3) Fld.ptpMCfg_ENABLE = true ∧ s.role 3 ≠ 0 ∧ s.lineUp 3 = false ∧
      s.grantRuns 3 4095 0 = some g ∧ s.grantRuns 3 4095 1 = some g ∧ g.sent ≠ some (s.lastInstant g.log (clientOffset g.log 4095)).1) ∧
    (∃ s : State, s.grantRuns 3 4095 0 = none ∧ s.grantRuns 3 4095 1 = none) ∧
    (∀ k ∈ [3, 8, 9, 10],
      (∃ s : State, (s.pport 3).replies.find? (·.kind == k) = none) ∧
      (∃ s : State, ((s.pport 3).replies.find? (·.kind == k)).isSome = true ∧ ¬ (repliesIn k (s.mState 3) = true ∧ s.mayTransmit = true)) ∧
      (∃ s : State, ((s.pport 3).replies.find? (·.kind == k)).any s.replyLate = true ∧ repliesIn k (s.mState 3) = true ∧ s.mayTransmit = true) ∧
      (∃ s : State, ((s.pport 3).replies.find? (·.kind == k)).any (!s.replyLate ·) = true ∧ repliesIn k (s.mState 3) = true ∧
        s.mayTransmit = true ∧ Sends s)) ∧
    (∃ (s : State) (f : Foreign), Sends s ∧ s.mayFollow 3 = true ∧ s.p2p 3 = false ∧
      (s.pport 3).dreqSlot ≠ some (s.monitorNow / intervalTicks ((s.pport 3).dlog.getD (s.delayLog 3))) ∧
      (s.pport 3).parent = some peer ∧ s.parentOf 3 = some f) ∧ (∃ s : State, (s.pport 3).parent = none) ∧
    (∃ (s : State) (t0 : Int), Sends s ∧ s.p2p 3 = true ∧ s.mOn 3 = true ∧ s.mState 3 ≠ 0 ∧ s.mState 3 ≠ 5 ∧ s.mayTransmit = true ∧
      (s.pport 3).pdAt = some t0 ∧ t0 + intervalTicks (s.delayLog 3) ≤ s.monitorNow) ∧ (∃ s : State, s.p2p 3 = false) :=
  ⟨⟨ptpT (50000 * 2 ^ 48), by decide +kernel⟩, ⟨ptpT (1050000 * 2 ^ 48 + 1), by decide +kernel⟩,
   ⟨regs [(Reg.ptpAuth 3, 2)] (ptpT (1050000 * 2 ^ 48)), by decide +kernel⟩,
   ⟨flds [(Reg.keysPtpCfg 0, Fld.keysPtpCfg_TX_EN, 1)] (regs [(Reg.ptpAuth 3, 2)] { ptpT 0 with keys := { ptp := [(0, some 1)] } }), by decide +kernel⟩,
   ⟨flds [(Reg.ptpMCfg 3, Fld.ptpMCfg_TWO_STEP, 1)] (ptpT (1000000 * 2 ^ 48)), by decide +kernel⟩,
   ⟨ptpT (1000000 * 2 ^ 48 + 1), by decide +kernel⟩,
   ⟨flds [(Reg.ptpMCfg 3, Fld.ptpMCfg_MCAST, 0)] (ptpT 0), by decide +kernel⟩, ⟨ptpT (50000 * 2 ^ 48) { annSent := some 0 }, by decide +kernel⟩,
   ⟨ptpT 0 { syncSent := some 0 }, by decide +kernel⟩,
   ⟨ptpT (secondFine * 4095 / 4096 : Nat) {} (client { upto := 2 ^ 60 }), { upto := 2 ^ 60 }, by decide +kernel⟩,
   ⟨ptpT (1000000 * 2 ^ 48) {} (client { upto := 2 ^ 60 }), { upto := 2 ^ 60 }, by decide +kernel⟩,
   ⟨regs [(Reg.lineStatus 3, 0)] (ptpT 0 {} (client { upto := 2 ^ 60 })), { upto := 2 ^ 60 }, by decide +kernel⟩,
   ⟨ptpT 0, by decide +kernel⟩,
   by
     intro k h
     simp only [List.mem_cons, List.not_mem_nil, or_false] at h
     rcases h with rfl | rfl | rfl | rfl <;>
       exact ⟨⟨State.reset, by decide +kernel⟩, ⟨owes 5 0, by decide +kernel⟩, ⟨owes 2 (-65536000001), by decide +kernel⟩,
         owes 2 (-65536000000), by decide +kernel⟩,
   ⟨ptpS 2 0 { parent := some peer, foreign := [{ dom := 1, src := peer, kind := 1 }] }, { dom := 1, src := peer, kind := 1 },
     by decide +kernel⟩, ⟨State.reset, by decide +kernel⟩,
   ⟨regs [(Reg.ptpMIntv 3, 3)] (ptpS 2 1 { pdAt := some (-65536000000000) }), -65536000000000, by decide +kernel⟩, State.reset, by decide +kernel⟩

/-! ### Witnesses: audio transport -/

/-- A structure is built with these parameters. -/
def built (ps : List Param) (s : State := State.reset) : State := { s with loader := { built := true, params := ps } }

/-- Domain A used, B unused, pin 47 an AES3 input of domain A. -/
def audioS (s : State := State.reset) : State := built [⟨1, 0, [1]⟩, ⟨2, 0, [3]⟩, ⟨3, 0, [2]⟩, ⟨0x20, 47, [3]⟩] s

/-- Pin 47 an AES3 input of domain X, the source of ASRC channel 1, with a state. -/
def pinX (st : Nat) (a : AudioSt := {}) : State :=
  regs [(Reg.saStatus 47, st), (Reg.asrcCfg 1, 0x02F00000)] (built [⟨1, 0, [1]⟩, ⟨3, 0, [2]⟩, ⟨0x20, 47, [0x23]⟩] { State.reset with audio := a })

theorem wit_SerialPinsLockBufferAndLaunch :
    (∃ s : State, ((s.saAt 47).enabled = true ∧ (s.saAt 47).locked = true ∧ s.saIn 47 = true) ∧ s.saDom 47 ≠ 2 ∧ (s.saAt 47).buffer.length = 1) ∧
    (∃ s : State, ((s.saAt 47).enabled = true ∧ (s.saAt 47).locked = true ∧ s.saIn 47 = true) ∧ s.saDom 47 ≠ 2 ∧ (s.saAt 47).buffer.length = 2) ∧
    (∃ s : State, ((s.saAt 47).enabled = true ∧ (s.saAt 47).locked = true ∧ s.saIn 47 = true) ∧ s.saDom 47 = 2) ∧
    (∃ s : State, ¬ ((s.saAt 47).enabled = true ∧ (s.saAt 47).locked = true ∧ s.saIn 47 = true)) ∧
    (∃ s : State, (s.saAt 47).enabled = true ∧ s.saIn 47 = true ∧ s.saState 47 = 1) ∧
    (∃ s : State, (s.saAt 47).enabled = true ∧ s.saIn 47 = true ∧ s.saState 47 = 0 ∧ s.saDom 47 = 2) ∧
    (∃ s : State, (s.saAt 47).enabled = false) ∧ (∃ s : State, (s.saAt 47).locked = true ∧ s.saIn 47 = true) ∧
    (∃ s : State, (s.saAt 47).locked = false) ∧
    (∃ s : State, s.domUsed 0 = true ∧ (s.saAt 46).enabled = true ∧ s.saOut 46 = true ∧ s.saDom 46 = 0) ∧ (∃ s : State, s.domUsed 1 = false) :=
  let on (n : Nat) : State :=
    audioS { State.reset with audio := { sa := [(47, { enabled := true, locked := true, buffer := List.replicate n ⟨0, [], false⟩ })] } }
  ⟨⟨on 1, by decide +kernel⟩, ⟨on 2, by decide +kernel⟩, ⟨pinX 2 { sa := [(47, { enabled := true, locked := true })] }, by decide +kernel⟩,
   ⟨audioS, by decide +kernel⟩,
   ⟨regs [(Reg.saStatus 47, 1)] (audioS { State.reset with audio := { sa := [(47, { enabled := true })] } }), by decide +kernel⟩,
   ⟨pinX 0 { sa := [(47, { enabled := true })] }, by decide +kernel⟩, ⟨audioS, by decide +kernel⟩, ⟨on 0, by decide +kernel⟩,
   ⟨audioS, by decide +kernel⟩,
   ⟨built [⟨1, 0, [1]⟩, ⟨3, 0, [2]⟩, ⟨0x20, 46, [4]⟩] { State.reset with audio := { sa := [(46, { enabled := true })] } }, by decide +kernel⟩,
   audioS, by decide +kernel⟩

/-- A UDP datagram of no payload over IPv4 to 224.0.0.1, port 5,004. -/
def streamFrame : List Byte :=
  List.replicate 12 2 ++ [8, 0, 0x45, 0, 0, 28, 0, 0, 0, 0, 64, 17, 0, 0, 10, 0, 0, 1, 224, 0, 0, 1, 0x13, 0x8C, 0x13, 0x8C, 0, 8, 0, 0]

/-- Receive entry 255 waits for packets of that group on port 0. -/
def streamS : State :=
  regs [(Reg.streamCtrl, 1), (Reg.rxStatus 255, 1), (Reg.rxCtrl 255 + 0x10, 0xE0000001), (Reg.rxCtrl 255 + 0x30, 0x1000138C)] audioS

/-- A receive entry 255 with a source last heard at count 0 at a count of its domain. -/
def heard0 (n : Nat) : State :=
  { State.reset with audio := { dom := [(0, { n := n })], rx := [(255, { lane0 := { sources := [⟨1, 5, 0, 0⟩] } })] } }

theorem wit_StreamsAndConvertersFollowTheirEntries :
    (∃ s : State, s.streamEn = false) ∧ (∃ (s : State) (f : List Byte), s.streamEn = true ∧ ∀ j < 256, s.rxMatch j 1 (parseEth f) = none) ∧
    (∃ (s : State) (f : List Byte) (p : Nat) (u : Udp), s.streamEn = true ∧ s.rxMatch 255 0 (parseEth f) = some p ∧
      (∀ j < 256, j ≠ 255 → s.rxMatch j 0 (parseEth f) = none) ∧ s.fmtProf (Reg.rxCtrl 255) ≠ 2 ∧ parseUdp (parseEth f) = some u ∧
      parseRtp s.claimId u.payload = none) ∧
    (∃ (s : State) (r : RxSource), r ∈ (s.rxE 255).sources ∧ 64 ≤ (s.rxNow 255).1 - r.heard) ∧
    (∃ s : State, (s.rxE 255).sources ≠ [] ∧ ∀ r ∈ (s.rxE 255).sources ++ (s.rxE 255).refused, (s.rxNow 255).1 - r.heard < 64) ∧
    (∃ s : State, s.rxState 255 = 0 ∧ (s.putBit (Reg.rxCtrl 255) 0 true).rxCfgOk 255 = true ∧
      (8 * 2 ^ (s.rdn (Reg.rxPlayout 255) % 16) * s.fmtCh (Reg.rxCtrl 255) + 4095) / 4096 ≤ s.poolFree) ∧
    (∃ s : State, s.rxState 255 = 0 ∧ (s.putBit (Reg.rxCtrl 255) 0 true).rxCfgOk 255 = false) ∧
    (∃ s : State, s.rxState 255 = 0 ∧ (s.putBit (Reg.rxCtrl 255) 0 true).rxCfgOk 255 = true ∧
      s.poolFree < (8 * 2 ^ (s.rdn (Reg.rxPlayout 255) % 16) * s.fmtCh (Reg.rxCtrl 255) + 4095) / 4096) ∧ (∃ s : State, s.rxState 255 ≠ 0) ∧
    (∃ s : State, s.txState 255 = 0 ∧ (s.putBit (Reg.txCtrl 255) 0 true).txCfgOk 255 = true ∧
      (s.putBit (Reg.txCtrl 255) 0 true).txMay 255 = true) ∧
    (∃ s : State, s.txState 255 = 0 ∧ (s.putBit (Reg.txCtrl 255) 0 true).txCfgOk 255 = true ∧
      (s.putBit (Reg.txCtrl 255) 0 true).txMay 255 = false) ∧
    (∃ s : State, s.txState 255 = 0 ∧ (s.putBit (Reg.txCtrl 255) 0 true).txCfgOk 255 = false) ∧ (∃ s : State, s.txState 255 = 2) ∧
    (∃ (s : State) (rate : BitVec 24), s.asrcGroup 47 ≠ [] ∧ s.asrcFed false 47 = true ∧ s.audio.groups.get 0 47 = 0 ∧
      1920000 ≤ rate.toNat ∧ rate.toNat ≤ 12800000) ∧
    (∃ s : State, s.asrcGroup 47 = []) ∧ (∃ s : State, s.asrcFed false 47 = false) ∧ (∃ rate : BitVec 24, rate.toNat < 1920000) ∧
    (∃ rate : BitVec 24, 12800000 < rate.toNat) ∧
    (∃ (s : State) (rate : BitVec 24), s.audio.groups.get 0 47 ≠ 0 ∧ s.asrcStrays 47 rate.toNat = true ∧ rate ≠ 0) ∧
    (∃ (s : State) (rate : BitVec 24), s.audio.groups.get 0 47 ≠ 0 ∧ rate ≠ 0 ∧ s.asrcStrays 47 rate.toNat = false) :=
  ⟨⟨State.reset, by decide +kernel⟩, ⟨streamS, streamFrame, by decide +kernel⟩,
   ⟨streamS, streamFrame, 0, ⟨false, 0x0A000001, 0xE0000001, 64, 5004, 5004, [], true⟩, by decide +kernel⟩,
   ⟨heard0 64, ⟨1, 5, 0, 0⟩, by decide +kernel⟩, ⟨heard0 63, by decide +kernel⟩,
   ⟨regs [(Reg.storePool, 0xFFFF0000)] audioS, by decide +kernel⟩, ⟨regs [(Reg.rxPlayout 255, 0)] audioS, by decide +kernel⟩,
   ⟨regs [(Reg.storePool, 0), (Reg.rxCtrl 255 + 4, 0x0100)] audioS, by decide +kernel⟩, ⟨regs [(Reg.rxStatus 255, 1)], by decide +kernel⟩,
   ⟨audioS, by decide +kernel⟩,
   ⟨built [⟨1, 0, [1]⟩, ⟨2, 0, [3]⟩, ⟨3, 0, [2]⟩, ⟨0x60, 0, [1]⟩], by decide +kernel⟩,
   ⟨regs [(Reg.txCtrl 255 + 4, 0)] audioS, by decide +kernel⟩, ⟨regs [(Reg.txStatus 255, 2)], by decide +kernel⟩,
   ⟨pinX 2 { asrc := [(1, { enabled := true })] }, 1920000, by decide +kernel⟩, ⟨audioS, by decide +kernel⟩, ⟨audioS, by decide +kernel⟩,
   ⟨1919999, by decide⟩, ⟨12800001, by decide⟩,
   ⟨pinX 2 { groups := [(47, 1920000)] }, 1919999, by decide +kernel⟩,
   pinX 2 { groups := [(47, 1920000)], rates := [(47, [(0, 1921921)])] }, 1920000, by decide +kernel⟩

/-! ### Witnesses: store and boundaries -/

/-- Domain A at 192 kHz, `n` enabled terms of bus 0, which is off, and the write that starts it in the window. -/
def mixFull (n : Nat) : State :=
  regs [(Reg.tblSel, 0x20000000), (Reg.tblData 0, 0x80000000)]
    (built [⟨1, 0, [2]⟩, ⟨2, 0, [3]⟩, ⟨0x39, 0, [1]⟩] { State.reset with store := { terms := List.replicate n (0, { w0 := 0x80000000 }) } })

/-- The bus of more terms than R397's figure allows is refused. -/
theorem mix_full_refuses :
    (((mixFull 32769).wr Reg.tblStatus 1).applyWrite (tblWriteOf (mixFull 32769) (tblSelected (mixFull 32769)).1 (tblSelected (mixFull 32769)).2)).2 =
      true := by
  have e : tblWriteOf (mixFull 32769) (tblSelected (mixFull 32769)).1 (tblSelected (mixFull 32769)).2 = ⟨2, 0, [0x80000000, 0, 0, 0]⟩ := by
    decide +kernel
  have t (u : State) (n : Nat) (h : u.store.terms = List.replicate n (0, { w0 := 0x80000000 })) (d : Nat) : u.countedTerms d =
      if busRuns (u.busE 0) && u.slotDom (dstOfW (u.busE 0).w0) == d && u.domUsed d then n else 0 := by
    rw [countedTerms, h, List.filter_replicate, show enOfW 0x80000000 = true by decide]
    simp only [Bool.true_and]; split <;> simp_all
  have a : ((mixFull 32769).wr Reg.tblStatus 1).mixLoad = 0 := by
    rw [mixLoad, (t _ 32769 rfl 0).trans (if_neg (by decide +kernel)), (t _ 32769 rfl 1).trans (if_neg (by decide +kernel)), Nat.zero_mul,
      Nat.zero_mul]
  have b : (((mixFull 32769).wr Reg.tblStatus 1).putWrite ⟨2, 0, [0x80000000, 0, 0, 0]⟩).mixLoad = 32769 * 192000 := by
    rw [mixLoad, (t _ 32769 rfl 0).trans (if_pos (by decide +kernel)), (t _ 32769 rfl 1).trans (if_neg (by decide +kernel)),
      if_pos (by decide +kernel), show nominalRate _ 0 = 192000 by decide +kernel, Nat.zero_mul]
  rw [e, applyWrite, a, b]; rfl

theorem wit_TableWindowFollowsR401 :
    (∃ s : State, s.tableBusy (tblSelected s).1 = true) ∧
    (∃ s : State, s.tableBusy (tblSelected s).1 = false ∧ s.bit Reg.tblStatus 0 = true) ∧
    (∃ s : State, (s.tableBusy (tblSelected s).1 = false ∧ s.bit Reg.tblStatus 0 = false) ∧ s.tableSize (tblSelected s).1 ≤ (tblSelected s).2) ∧
    (∃ s : State, (s.tableBusy (tblSelected s).1 = false ∧ s.bit Reg.tblStatus 0 = false) ∧ (tblSelected s).2 < s.tableSize (tblSelected s).1 ∧
      (tblSelected s).1 ≠ 4 ∧ ((s.wr Reg.tblStatus 1).applyWrite (tblWriteOf s (tblSelected s).1 (tblSelected s).2)).2 = false ∧
      s.store.staged.length < 1024) ∧
    (∃ s : State, (s.tableBusy (tblSelected s).1 = false ∧ s.bit Reg.tblStatus 0 = false) ∧ (tblSelected s).2 < s.tableSize (tblSelected s).1 ∧
      (tblSelected s).1 ≠ 4 ∧ ((s.wr Reg.tblStatus 1).applyWrite (tblWriteOf s (tblSelected s).1 (tblSelected s).2)).2 = true) ∧
    (∃ s : State, (s.tableBusy (tblSelected s).1 = false ∧ s.bit Reg.tblStatus 0 = false) ∧ (tblSelected s).2 < s.tableSize (tblSelected s).1 ∧
      (tblSelected s).1 ≠ 4 ∧ 1024 ≤ s.store.staged.length) ∧
    (∃ s : State, (s.tableBusy (tblSelected s).1 = false ∧ s.bit Reg.tblStatus 0 = false) ∧ (tblSelected s).1 = 4 ∧
      (tblSelected s).2 < s.tableSize 4) :=
  ⟨⟨regs [(Reg.tblSel, 0), (Reg.structRegionBusy, 0x10000)], by decide +kernel⟩, ⟨regs [(Reg.tblStatus, 1)], by decide +kernel⟩,
   ⟨regs [(Reg.tblSel, 0x30000800)], by decide +kernel⟩, ⟨regs [(Reg.tblSel, 0x300007FF)], by decide +kernel⟩,
   ⟨mixFull 32769, by decide +kernel, by decide +kernel, by decide +kernel, mix_full_refuses⟩,
   ⟨regs [(Reg.tblSel, 0x30000000)] { State.reset with store := { staged := List.replicate 1024 ⟨0, 0, []⟩ } }, by decide +kernel⟩,
   regs [(Reg.tblSel, 0x40001FFF)], by decide +kernel⟩

theorem wit_StoreCommitsAndBoundaries :
    (∃ s : State, s.commitBusy = true) ∧ (∃ s : State, s.commitBusy = false ∧ s.store.commitDom.isSome = true) ∧
    (∃ s : State, s.commitBusy = false ∧ s.store.commitDom = none ∧
      (0 ∈ (s.store.staged.map s.writeDom).filter s.domUsed ∧ 1 ∈ (s.store.staged.map s.writeDom).filter s.domUsed ∧ s.exactRatio = false)) ∧
    (∃ s : State, s.commitBusy = false ∧ s.store.commitDom = none ∧
      ¬ (0 ∈ (s.store.staged.map s.writeDom).filter s.domUsed ∧ 1 ∈ (s.store.staged.map s.writeDom).filter s.domUsed ∧ s.exactRatio = false)) ∧
    (∃ s : State, s.domUsed 1 = false) ∧ (∃ s : State, (s.domAt 0).meterN < s.meterPeriod 0) ∧
    (∃ s : State, s.domUsed 0 = true ∧ s.meterPeriod 0 ≤ (s.domAt 0).meterN ∧ s.meteredSlots 0 ≠ []) ∧
    (∃ s : State, ¬ (0 < min 60 (s.rdn Reg.meterCfg / 2 ^ 24) ∧
      (min 60 (s.rdn Reg.meterCfg / 2 ^ 24) * secondTicks : Nat) ≤ s.monitorNow - (s.meter 8191).rose)) ∧
    (∃ s : State, 0 < min 60 (s.rdn Reg.meterCfg / 2 ^ 24) ∧
      (min 60 (s.rdn Reg.meterCfg / 2 ^ 24) * secondTicks : Nat) ≤ s.monitorNow - (s.meter 8191).rose) ∧
    (∃ s : State, (s.lineE 2047).st = 2 ∧ s.store.lines.any (fun e => e.2.st == 2) = true) ∧
    (∃ s : State, (s.lineE 2047).st ≠ 2 ∧ s.store.lines.any (fun e => e.2.st == 2) = false) ∧
    (∃ (s : State) (v : BitVec 14), ∀ i ∈ s.slotsNamed, ¬ (min s.split (min 8192 v.toNat) ≤ i ∧ i < max s.split (min 8192 v.toNat))) ∧
    (∃ (s : State) (v : BitVec 14) (i : Nat), i ∈ s.slotsNamed ∧ min s.split (min 8192 v.toNat) ≤ i ∧
      i < max s.split (min 8192 v.toNat)) ∧
    (∃ s : State, s.rxState 255 ≠ 0) ∧
    (∃ s : State, s.domUsed 0 = true ∧ (s.domAt 0).run = true ∧ (s.synE 1).pull = (s.domAt 0).pull ∧ s.pair.writes = []) :=
  ⟨⟨regs [(Reg.structRegionBusy, 0x20000)], by decide +kernel⟩, ⟨{ State.reset with store := { commitDom := some 0 } }, by decide +kernel⟩,
   ⟨regs [(Reg.storeSplit, 4096)] (built [⟨1, 0, [1]⟩, ⟨2, 0, [1]⟩] { State.reset with
      store := { staged := [⟨0, 0, [0]⟩, ⟨0, 0, [8191]⟩] }, synth := { syn := [(2, { pull := 4 })] } }), by decide +kernel⟩,
   ⟨State.reset, by decide +kernel⟩, ⟨audioS, by decide +kernel⟩, ⟨audioS, by decide +kernel⟩,
   ⟨audioS { State.reset with store := { meters := [(9, { peak := 1 })] }, audio := { dom := [(0, { meterN := 48000 })] } }, by decide +kernel⟩,
   ⟨regs [(Reg.meterCfg, 0x01000000)] { State.reset with store := { meters := [(8191, { rose := 1 - secondTicks })] } }, by decide +kernel⟩,
   ⟨regs [(Reg.meterCfg, 0x01000000)] { State.reset with store := { meters := [(8191, { rose := -secondTicks })] } }, by decide +kernel⟩,
   ⟨{ State.reset with store := { lines := [(2047, { st := 2 })] } }, by decide +kernel⟩, ⟨State.reset, by decide +kernel⟩,
   ⟨regs [(Reg.storeSplit, 4096)] { State.reset with store := { owner := [(4096, .rx 0)] } }, 4097 - 1, by decide +kernel⟩,
   ⟨regs [(Reg.storeSplit, 4096)] { State.reset with store := { owner := [(4096, .rx 0)] } }, 4097, 4096, by decide +kernel⟩,
   ⟨regs [(Reg.rxStatus 255, 1)], by decide +kernel⟩, audioS { State.reset with audio := { dom := [(0, { run := true })] } }, by decide +kernel⟩

/-! ### Witnesses: Facet lanes and scheduler -/

/-- A task of domain A whose home and lane is 3. -/
def tsk : TaskSt :=
  { dom := 0, entry := 2, budget := 10, codeLen := 4, pinned := false, banks := true, xBase := 0, xLen := 8, yBase := 0, yLen := 8,
    nIn := 0, nOut := 0, bankLen := 4, ownFlags := false, descErr := false, ins := [], outs := [], lane := 3 }

/-- Lane 3 with its state and that task as its word 0, lane 4 an empty AUDIO lane. -/
def laneS (l : LaneSt) (f : FacetSt := {}) : State :=
  audioS { State.reset with facet := { f with lanes := [(3, l), (4, { role := 0 })], tasks := [(48, some tsk)] } }

theorem wit_LaneCommandsOfTheHost :
    (∃ (s : State) (x : TaskSt), (s.laneF 3).role = 2 ∧ s.task? 48 = some x) ∧ (∃ s : State, (s.laneF 3).role = 2 ∧ s.task? 48 = none) ∧
    (∃ s : State, (s.laneF 3).role ≠ 2) ∧
    (∃ (s : State) (x : TaskSt), s.task? 48 = some x ∧ x.pinned = false ∧ s.eligible' x x.lane 4 = true ∧
      s.budgetSum 4 + x.budget ≤ s.taskBudget x.dom ∧ s.facet.mig = none ∧ s.facet.causes = [] ∧ x.banks = true ∧
      s.rdn (Reg.facetTaskSel 3) % 16 = 0) ∧
    (∃ (s : State) (x : TaskSt), s.task? 48 = some x ∧ x.pinned = true ∧ s.facet.mig = none ∧ s.facet.causes = []) ∧
    (∃ (s : State) (x : TaskSt), s.task? 48 = some x ∧ x.pinned = false ∧ s.eligible' x x.lane 3 = false) ∧
    (∃ s : State, s.task? 49 = none) ∧ (∃ (s : State) (x : TaskSt), s.task? 48 = some x ∧ x.banks = false) ∧
    (∃ s : State, (s.laneF 3).mailIn.length = 63) ∧ (∃ s : State, 64 ≤ (s.laneF 3).mailIn.length) ∧
    (∃ (s : State) (v : Word) (vs : List Word), (s.laneF 3).mailOut = v :: vs) ∧ (∃ s : State, (s.laneF 3).mailOut = []) ∧
    (∃ s : State, s.task? (16 * 3 + s.rdn (Reg.facetTaskSel 3) % 16) = none) ∧
    (∃ s : State, (s.laneF (s.windowLane 3 fun x => inRegion x false 8191)).order = []) ∧
    (∃ s : State, (s.laneF (s.windowLane 3 fun x => inRegion x true 7)).order ≠ [] ∧
      (s.laneF (s.windowLane 3 fun x => inRegion x true 7)).role = 2) ∧
    (∃ s : State, (s.laneF (s.windowLane 3 fun x => inRegion x true 7)).order ≠ [] ∧
      (s.laneF (s.windowLane 3 fun x => inRegion x true 7)).role ≠ 2) ∧
    (∃ s : State, (s.laneTasks (s.windowLane 3 fun x => inCode x 2047)).any (fun x => inCode x 2047) = false) ∧
    (∃ s : State, (s.laneTasks (s.windowLane 3 fun x => inCode x 7)).any (fun x => inCode x 7) = true) ∧
    (∃ off : BitVec 17, 0x4000 ≤ off.toNat ∧ off.toNat < 0x8000) :=
  ⟨⟨laneS { role := 2 }, tsk, by decide +kernel⟩, ⟨{ State.reset with facet := { lanes := [(3, { role := 2 })] } }, by decide +kernel⟩,
   ⟨laneS { role := 0 }, by decide +kernel⟩, ⟨regs [(Reg.facetTaskSel 3, 0)] (laneS { role := 0, order := [48] }), tsk, by decide +kernel⟩,
   ⟨{ State.reset with facet := { tasks := [(48, some { tsk with pinned := true })] } }, { tsk with pinned := true }, by decide +kernel⟩,
   ⟨laneS { role := 0, order := [48] }, tsk, by decide +kernel⟩, ⟨laneS {}, by decide +kernel⟩,
   ⟨{ State.reset with facet := { tasks := [(48, some { tsk with banks := false })] } }, { tsk with banks := false }, by decide +kernel⟩,
   ⟨laneS { mailIn := List.replicate 63 0 }, by decide +kernel⟩, ⟨laneS { mailIn := List.replicate 64 0 }, by decide +kernel⟩,
   ⟨laneS { mailOut := [1] }, 1, [], by decide +kernel⟩, ⟨laneS {}, by decide +kernel⟩,
   ⟨regs [(Reg.facetTaskSel 3, 1)] (laneS {}), by decide +kernel⟩, ⟨laneS {}, by decide +kernel⟩,
   ⟨laneS { role := 2, order := [48] }, by decide +kernel⟩, ⟨laneS { role := 0, order := [48] }, by decide +kernel⟩,
   ⟨laneS { role := 0, order := [48] }, by decide +kernel⟩, ⟨laneS { role := 0, order := [48] }, by decide +kernel⟩, 0x4000, by decide⟩

theorem wit_TasksDeadlinesAndMigration :
    (∃ (s : State) (k : Nat) (ks : List Nat) (x : TaskSt), (s.laneF 3).todo = k :: ks ∧ (s.laneF 3).window = true ∧ (s.laneF 3).cur = none ∧
      s.task? k = some x) ∧
    (∃ s : State, (s.laneF 3).todo = []) ∧ (∃ s : State, (s.laneF 3).todo ≠ [] ∧ (s.laneF 3).window = false) ∧
    (∃ s : State, (s.laneF 3).todo ≠ [] ∧ (s.laneF 3).cur ≠ none) ∧
    (∃ s : State, (s.laneF 3).window = true ∧ (s.laneF 3).cur = none ∧ (s.laneF 3).todo = [] ∧ s.bit Reg.schedCfg 5 = false) ∧
    (∃ s : State, (s.laneF 3).window = true ∧ (s.laneF 3).cur = none ∧ (s.laneF 3).todo = [] ∧ s.facet.mig.isSome = true) ∧
    (∃ (s : State) (k : Nat), (s.laneF 3).window = true ∧ (s.laneF 3).cur = some k ∧ s.bit Reg.schedCfg 5 = false) ∧
    (∃ s : State, (s.laneF 3).window = true ∧ (s.laneF 3).todo ≠ [] ∧ s.facet.mig.isSome = true) ∧
    (∃ (s : State) (m : Migration) (k : Nat) (x : TaskSt), s.facet.mig = some m ∧ m.copied = false ∧ m.tasks = [k] ∧ s.task? k = some x) ∧
    (∃ (s : State) (m : Migration), s.facet.mig = some m ∧ m.copied = false ∧ m.tasks = [] ∧ m.reason = 3 ∧ s.facet.causes = []) ∧
    (∃ s : State, s.facet.mig = none) ∧ (∃ (s : State) (m : Migration), s.facet.mig = some m ∧ m.copied = true) ∧
    (∃ (s : State) (l : Nat), s.rdn Reg.schedCfg / 65536 ≠ 0 ∧ s.rdn Reg.schedCfg / 65536 ≤ s.facet.rotWait ∧ s.bit Reg.schedStatus 2 = false ∧
      s.facet.testing = none ∧ s.facet.mig = none ∧ s.facet.causes = [] ∧ s.rotNext s.spareLane = some l) ∧
    (∃ s : State, s.rdn Reg.schedCfg / 65536 = 0) ∧ (∃ s : State, s.facet.rotWait < s.rdn Reg.schedCfg / 65536) ∧
    (∃ s : State, s.bit Reg.schedStatus 2 = true) ∧
    (∃ s : State, s.facet.testing = some 3) ∧ (∃ s : State, s.facet.testing = none) ∧ (∃ s : State, s.nextJob = none) ∧
    (∃ s : State, s.lendable 3 = false) ∧ (∃ (s : State) (j : Nat), s.nextJob = some j ∧ s.lendable 3 = true) :=
  ⟨⟨laneS { role := 0, order := [48], todo := [48], window := true }, 48, [], tsk, by decide +kernel⟩,
   ⟨laneS {}, by decide +kernel⟩, ⟨laneS { todo := [48] }, by decide +kernel⟩, ⟨laneS { todo := [48], cur := some 49 }, by decide +kernel⟩,
   ⟨regs [(Reg.schedCfg, 0)] (laneS { role := 0, window := true }), by decide +kernel⟩,
   ⟨laneS { role := 0, window := true } { mig := some ⟨[48], 3, 4, 4, false⟩ }, by decide +kernel⟩,
   ⟨regs [(Reg.schedCfg, 0)] (laneS { role := 0, window := true, cur := some 48 }), 48, by decide +kernel⟩,
   ⟨laneS { role := 0, window := true, todo := [48] } { mig := some ⟨[48], 3, 4, 4, false⟩ }, by decide +kernel⟩,
   ⟨laneS { role := 0 } { mig := some ⟨[48], 3, 4, 4, false⟩ }, ⟨[48], 3, 4, 4, false⟩, 48, tsk, by decide +kernel⟩,
   ⟨laneS { role := 0 } { mig := some ⟨[], 3, 4, 3, false⟩ }, ⟨[], 3, 4, 3, false⟩, by decide +kernel⟩,
   ⟨laneS {}, by decide +kernel⟩, ⟨laneS { role := 0 } { mig := some ⟨[48], 3, 4, 4, true⟩ }, ⟨[48], 3, 4, 4, true⟩, by decide +kernel⟩,
   ⟨regs [(Reg.schedCfg, 0x10000), (Reg.schedStatus, 0x05000000)] (laneS { role := 0, order := [48] } { rotWait := 1 }), 3, by decide +kernel⟩,
   ⟨regs [(Reg.schedCfg, 0xFFFF)], by decide +kernel⟩, ⟨regs [(Reg.schedCfg, 0x10000)], by decide +kernel⟩,
   ⟨regs [(Reg.schedStatus, 4)], by decide +kernel⟩,
   ⟨laneS {} { testing := some 3 }, by decide +kernel⟩, ⟨laneS {}, by decide +kernel⟩, ⟨State.reset, by decide +kernel⟩,
   ⟨State.reset, by decide +kernel⟩,
   regs [(Reg.schedCfg, 64), (Reg.gnssAcqStatus, 3), (Reg.jobStatus 15, 1), (Reg.schedLendSp, 1)]
     (built [⟨0x30, 3, [0x101]⟩] { State.reset with facet := { lanes := [(3, { role := 0, lendRun := 1 })] } }), 15, by decide +kernel⟩

/-! ### Witnesses: the Facet instruction set -/

/-- Lane 3, a CPLX lane, about to issue bundle `b` at address 4 for its pinned task. -/
def runS (b : Nat) (c : Ctx := {}) (l : LaneSt → LaneSt := id) : State :=
  built [⟨0x30, 3, [1]⟩] { State.reset with
    facet := { lanes := [(3, l { role := 0, order := [48], cur := some 48, window := true, ctx := { c with pc := 4 } })],
               tasks := [(48, some { tsk with pinned := true })], prog := [(3 * 2048 + 4, BitVec.ofNat 64 b)],
               y := [(3 * 8192, 0xA5000000)] } }

/-- What runs there. -/
def w48 : Who := .task 48 true

/-- Bundle `b` of a format issues with no cause of R458 and no transfer waits. -/
def Runs (fmt b : Nat) (c : Ctx := {}) (l : LaneSt → LaneSt := id) : Prop :=
  (runS b c l).Issues 3 w48 b 0 ∧ bundleFormat b = fmt ∧ ((runS b c l).ctxOf 3 w48).xfer = []

/-- With no transfer waiting, no transfer takes place and the task goes on. -/
theorem bare {c : Ctx} (h : c.xfer = []) : c.Quiet ∧ c.Keeps := by simp [Ctx.Quiet, Ctx.Keeps, h]

/-- Nothing runs on lane 3, or it is stalled. -/
theorem wit_lanes_that_issue_nothing : (∃ s : State, s.whoRuns 3 = none) ∧ (∃ s : State, s.whoRuns 3 ≠ none ∧ (s.laneF 3).stalled = true) :=
  ⟨⟨State.reset, by decide +kernel⟩, runS 0 {} (fun x => { x with stalled := true }), by decide +kernel⟩

/-- A format A bundle from its slots. -/
def bundA (mac x y : Nat) : Nat := mac * 2 ^ 40 + x * 2 ^ 20 + y

/-- A format B bundle of a control slot. -/
def bundB (ctl : Nat) : Nat := 2 ^ 63 + ctl

/-- A format C bundle of an integer slot. -/
def bundC (i : Nat) : Nat := 2 ^ 63 + 2 ^ 62 + i

/-- A MAC in the second delay slot of a transfer. -/
def slotS : State := runS (bundA (macWord 2 3 6 6 0) 0 0) { xfer := [(1, .jump 4)] }

theorem wit_MacOperationsFollowR446 :
    (∀ k ∈ [1, 2, 3, 4, 5, 6, 8, 9, 10], Runs 0 (bundA (macWord k 2 6 6 0) 0 0) ∧ macSlot (bundA (macWord k 2 6 6 0) 0 0) = macWord k 2 6 6 0) ∧
    (∀ k ∈ [(16, 0, 0), (17, 3, 0), (18, 3, 0), (19, 3, 0), (20, 3, 0), (21, 3, 0), (22, 3, 5), (24, 3, 0), (25, 3, 0)],
      Runs 0 (bundA (accWord k.1 3 k.2.1 k.2.2) 0 0) ∧ macSlot (bundA (accWord k.1 3 k.2.1 k.2.2) 0 0) = accWord k.1 3 k.2.1 k.2.2) ∧
    (Runs 0 (bundA (macWord 0x17 3 6 0 0) 0 0) ∧ macSlot (bundA (macWord 0x17 3 6 0 0) 0 0) = macWord 0x17 3 6 0 0) ∧
    (∃ (p : MacOp), Runs 0 0 { macs := [some p, none] } ∧ noOperation 0 = true ∧
      ((runS 0 { macs := [some p, none] }).ctxOf 3 w48).macs = [some p, none]) ∧
    (slotS.Issues 3 w48 (bundA (macWord 2 3 6 6 0) 0 0) 0 ∧ (slotS.ctxOf 3 w48).Keeps) ∧
    (∃ (k : Ctx) (p : MacOp), k.acc.length = 4 ∧ p.d = 3) := by
  have k : (slotS.ctxOf 3 w48).xfer = [(1, .jump 4)] := by decide +kernel
  unfold Runs State.Issues
  exact ⟨by decide +kernel, by decide +kernel, by decide +kernel, ⟨⟨1, 3, 0, 0, 2, 0, 3, 0, 0⟩, by decide +kernel⟩,
    ⟨by decide +kernel, fun e h => .inr ⟨4, .inl (by rw [k, List.mem_singleton] at h; rw [h])⟩⟩,
    { acc := [1, 2, 3, 4] }, ⟨1, 3, 0, 0, 2, 0, 3, 0, 0⟩, by decide⟩

theorem wit_MovesFollowR447 :
    (∀ y ∈ [false, true], ∀ k ∈ [1, 2, 3, 4, 5, 6],
      let m := moveWord k 0 0 2 false (if k < 5 then 0 else 3)
      let b := if y then bundA 0 0 m else bundA 0 m 0
      Runs 0 b ∧ moveSlot y b = m ∧ moveSlot (!y) b = 0) ∧
    (∀ k ∈ [1, 2], let b := bundA 0 (moveWord k 0 0 2 false 0) 0
      (runS b).whoRuns 3 = some w48 ∧ ((runS b).laneF 3).stalled = false ∧ (runS b).badFetch w48 ((runS b).ctxOf 3 w48).pc = false ∧
      ((runS b).progAt 3 ((runS b).ctxOf 3 w48).pc).toNat = b ∧ moveSlot false b = moveWord k 0 0 2 false 0 ∧
      lowest ((runS b).bundleCauses 3 w48 ((runS b).ctxOf 3 w48) b 2) = 13) := by
  unfold Runs State.Issues
  decide +kernel

theorem wit_IntegerOperationsFollowR450 :
    (∀ p ∈ [(1, 0, 5), (2, 3, 0), (3, 3, 5), (4, 3, 0), (5, 3, 0), (6, 3, 5), (7, 3, 5), (8, 3, 5), (9, 3, 5), (10, 3, 5), (11, 3, 5),
        (12, 3, 0), (13, 3, 0)], ∀ dst ∈ [7, 11, 21],
      Runs 2 (bundC (intWord p.1 dst p.2.1 p.2.2)) ∧ intSlot (bundC (intWord p.1 dst p.2.1 p.2.2)) = intWord p.1 dst p.2.1 p.2.2) := by
  unfold Runs State.Issues
  decide +kernel

theorem wit_ControlFollowsR451 :
    (∀ k ∈ [(1, brOps 1 false 3 5), (2, brOps 1 true 3 5), (3, brOps 0 false 0 0), (5, 0 * 2 ^ 17 + 7), (5, 65535 * 2 ^ 17 + 7),
        (6, 3 * 2 ^ 23 + 7), (7, 0), (8, 0), (9, 0), (10, 0), (11, 0)],
      Runs 1 (bundB (ctlWord k.1 k.2)) { loops := if k.1 = 7 then [⟨1, 2, 9⟩] else [] } ∧ ctlSlot (bundB (ctlWord k.1 k.2)) = ctlWord k.1 k.2) ∧
    (Runs 1 (bundB (ctlWord 4 0)) { ih := true } ∧ ctlSlot (bundB (ctlWord 4 0)) = ctlWord 4 0) ∧
    (∀ x ∈ [.jump 5, .pop, .rti 5 0], (runS 0 { xfer := [(1, x)] }).Issues 3 w48 0 0 ∧ noOperation 0 = true ∧
      ((runS 0 { xfer := [(1, x)] }).ctxOf 3 w48).xfer = [(1, x)]) ∧
    ((runS (bundB (ctlWord 8 0)) { xfer := [(2, .jump 5)] }).Issues 3 w48 (bundB (ctlWord 8 0)) 0 ∧
      ∀ e ∈ ((runS (bundB (ctlWord 8 0)) { xfer := [(2, .jump 5)] }).ctxOf 3 w48).xfer, 2 ≤ e.1) := by
  unfold Runs State.Issues
  decide +kernel

/-- PIN of the mailbox, POUT of the mailbox and of a channel, LSAVE, LREST. -/
def portB : List Nat := [ctlWord 14 (portOps 0 0 true 0), ctlWord 15 (portOps 0 0 true 1), ctlWord 15 (portOps 0 0 true 0x20), ctlWord 12 0, ctlWord 13 0]

/-- A GNSS_LOOP lane and a lent lane about to issue a POUT of a port. -/
def portS (port : Nat) : State :=
  let b := bundB (ctlWord 15 (portOps 0 0 true port))
  if port < 0x60 then runS b {} (fun x => { x with loopRun := true })
  else runS b {} (fun x => { x with cur := none, lent := some 9, bg := { pc := 4 }, results := [7] })

/-- What runs there. -/
def portW (port : Nat) : Who := if port < 0x60 then .loop else .lent 9

/-- A lane that executes a TRAP as some part of it. -/
def trapS (l : LaneSt → LaneSt) : State := runS (bundB (ctlWord 16 255)) {} l

theorem wit_PortsTrapsAndInterruptsOfALane :
    (∀ k ∈ portB, Runs 1 (bundB k) { ih := true } (fun x => { x with mailIn := [9] }) ∧ ctlSlot (bundB k) = k) ∧
    ((runS (bundB (ctlWord 14 (portOps 0 0 true 0))) {} (fun x => { x with mailIn := [9] })).portRead 3 w48 0).isSome = true ∧
    ((runS 0 {} (fun x => { x with stalled := true })).laneF 3).stalled = true ∧
    (((runS (bundB (ctlWord 14 (portOps 0 0 true 0))) {} (fun x => { x with mailIn := [9], stalled := true })).setLaneF 3
      fun x => { x with stalled := false }).Issues 3 w48 (bundB (ctlWord 14 (portOps 0 0 true 0))) 0) ∧
    (readRecord ((List.range 7).map fun i => (runS 0).memRd 3 true i)).isSome = true ∧
    (Runs 1 (bundB (ctlWord 14 (portOps 0 0 true 0))) ∧ (runS (bundB (ctlWord 14 (portOps 0 0 true 0)))).portRead 3 w48 0 = none) ∧
    (∀ port ∈ [0x50, 0x54, 0x69, 0x6B], (portS port).Issues 3 (portW port) (bundB (ctlWord 15 (portOps 0 0 true port))) 0 ∧
      ((portS port).ctxOf 3 (portW port)).xfer = [] ∧ ((portS port).laneF 3).results.length < 2) ∧
    (∀ p ∈ [(trapS id, w48), (trapS fun x => { x with loopRun := true }, .loop),
        (trapS fun x => { x with cur := none, lent := some 9, bg := { pc := 4 } }, .lent 9)],
      p.1.whoRuns 3 = some p.2 ∧ (p.1.laneF 3).stalled = false ∧ p.1.badFetch p.2 (p.1.ctxOf 3 p.2).pc = false ∧
      (p.1.progAt 3 (p.1.ctxOf 3 p.2).pc).toNat = bundB (ctlWord 16 255) ∧ hasCtl (ctlWord 16 255) (bundB (ctlWord 16 255)) = true ∧
      lowest (p.1.bundleCauses 3 p.2 (p.1.ctxOf 3 p.2) (bundB (ctlWord 16 255)) 0) = 12) ∧
    (∃ s : State, (s.laneF 3).stalled = false) ∧ (∃ s : State, s.whoRuns 3 = some w48 ∧ (s.ctxOf 3 w48).ie = false) ∧
    (∃ s : State, s.whoRuns 3 = some w48 ∧ w48.open_ = true ∧ (s.ctxOf 3 w48).ie = true ∧
      s.ipend 3 &&& (s.laneF 3).ien.toNat ≠ 0 ∧ (s.ctxOf 3 w48).xfer = [] ∧ (s.laneF 3).stalled = false) := by
  unfold Runs State.Issues
  exact ⟨by decide +kernel, by decide +kernel, by decide +kernel, by decide +kernel, by decide +kernel, by decide +kernel, by decide +kernel,
    by decide +kernel, ⟨State.reset, by decide +kernel⟩, ⟨runS 0, by decide +kernel⟩,
    runS 0 { ie := true } (fun x => { x with softPend := true, ien := 16 }), by decide +kernel⟩

/-! ### Witnesses: the pair and the chain -/

/-- A unit of a pair in a state, holding or not, with its link up or down and SYN_G LOCKED. -/
def pairS (st hold up : Nat) (p : PairSt := {}) : State :=
  flds [(Reg.pairStatus, Fld.pairStatus_STATE, st), (Reg.pairStatus, Fld.pairStatus_HOLDING, hold), (Reg.pairStatus, Fld.pairStatus_LINK_UP, up),
    (Reg.synStatus 0, Fld.synStatus_STATE, 4), (Reg.pairCtrl, ⟨0, 1⟩, 1)] (built [⟨0x60, 0, [1]⟩] { State.reset with pair := p })

/-- A HELLO message of no data words and its CRC. -/
def goodMsg : List Byte := let b : List Byte := [1, 0, 0, 0, 0, 0, 0]; [0x78] ++ b ++ [0x87] ++ beBytes 4 (crc32 b) ++ [0, 0, 0]

theorem wit_IvernLinkTrainsAndIsLost :
    (∃ s : State, s.mayTrain = false) ∧ (∃ s : State, s.mayTrain = true ∧ s.pair.lock1 = false) ∧
    (∃ s : State, s.mayTrain = true ∧ s.pair.lock0 = true ∧ s.pair.lock1 = true) ∧
    (∃ s : State, (s.mayTrain = true ∧ s.pair.deskew = true) ∧ s.pair.hello = false ∧
      ∀ x, s.pair.helloAt = some x → (secondTicks : Int) ≤ (s.monitorNow - x) * 1000) ∧
    (∃ (s : State) (x : Int), (s.mayTrain = true ∧ s.pair.deskew = true) ∧ s.pair.hello = false ∧ s.pair.helloAt = some x ∧
      ¬ (secondTicks : Int) ≤ (s.monitorNow - x) * 1000) ∧
    (∃ s : State, (s.mayTrain = true ∧ s.pair.deskew = true) ∧ s.pair.hello = true) ∧ (∃ s : State, s.pair.deskew = false ∧ s.pair.hello = false) ∧
    (∃ s : State, (s.mayTrain = true ∧ s.pair.hello = true) ∧ s.ivernUp = false) ∧
    (∃ s : State, (s.mayTrain = true ∧ s.pair.hello = true) ∧ s.ivernUp = true ∧ s.pair.timeAt = some ((s.tb 0).t * 16 / secondFine)) ∧
    (∃ s : State, (s.mayTrain = true ∧ s.pair.hello = true) ∧ s.ivernUp = true ∧ s.pair.timeAt ≠ some ((s.tb 0).t * 16 / secondFine)) ∧
    (∃ (s : State) (w2 : BitVec 64), (s.mayTrain = true ∧ s.pair.hello = true) ∧
      s.pair.timeSent.find? (fun x => x.1 == w2.toNat % 65536) = none) ∧
    (∃ (s : State) (w2 : BitVec 64) (e : Nat × Nat), (s.mayTrain = true ∧ s.pair.hello = true) ∧ s.ivernUp = false ∧ s.pair.times < 15 ∧
      s.pair.timeSent.find? (fun x => x.1 == w2.toNat % 65536) = some e) ∧
    (∃ (s : State) (w0 w1 w2 : BitVec 64) (e : Nat × Nat), (s.mayTrain = true ∧ s.pair.hello = true) ∧ s.ivernUp = false ∧ 15 ≤ s.pair.times ∧
      s.pair.timeSent.find? (fun x => x.1 == w2.toNat % 65536) = some e ∧
      (tickDiff (s.captured 0 0 % 2 ^ 64).toNat w0.toNat + tickDiff w1.toNat e.2) / 2 = 900 * 65536) ∧
    (∃ (s : State) (w0 w1 w2 : BitVec 64) (e : Nat × Nat), (s.mayTrain = true ∧ s.pair.hello = true) ∧ s.ivernUp = false ∧ 15 ≤ s.pair.times ∧
      s.pair.timeSent.find? (fun x => x.1 == w2.toNat % 65536) = some e ∧
      (tickDiff (s.captured 0 0 % 2 ^ 64).toNat w0.toNat + tickDiff w1.toNat e.2) / 2 = 900 * 65536 + 1) ∧
    (∃ s : State, s.ivernUp = true ∧ s.pairState ≠ 3) ∧ (∃ s : State, s.ivernUp = false) ∧
    (∃ msg : List Byte, messageGood msg = true) ∧ (∃ msg : List Byte, messageGood msg = false) :=
  ⟨⟨State.reset, by decide +kernel⟩, ⟨pairS 2 0 0 { lock0 := true }, by decide +kernel⟩,
   ⟨pairS 2 0 0 { lock0 := true, lock1 := true }, by decide +kernel⟩,
   ⟨pairS 2 0 0 { deskew := true, helloAt := some (-65536000000) }, by decide +kernel, by decide +kernel, fun x h => by
     have e : (pairS 2 0 0 { deskew := true, helloAt := some (-65536000000) }).pair.helloAt = some (-65536000000) := by decide +kernel
     obtain rfl := Option.some.inj (e.symm.trans h); decide +kernel⟩,
   ⟨pairS 2 0 0 { deskew := true, helloAt := some (-65535999999) }, -65535999999, by decide +kernel⟩,
   ⟨pairS 2 0 0 { deskew := true, hello := true }, by decide +kernel⟩, ⟨pairS 2 0 0, by decide +kernel⟩,
   ⟨pairS 2 0 0 { hello := true }, by decide +kernel⟩, ⟨pairS 2 0 1 { hello := true, timeAt := some 0 }, by decide +kernel⟩,
   ⟨pairS 2 0 1 { hello := true, timeAt := some 15 }, by decide +kernel⟩, ⟨pairS 2 0 0 { hello := true }, 9, by decide +kernel⟩,
   ⟨pairS 2 0 0 { hello := true, times := 14, timeSent := [(9, 100)] }, 9, (9, 100), by decide +kernel⟩,
   ⟨pairS 2 0 0 { hello := true, times := 15, timeSent := [(9, 100)] }, 0, 100 + 117964800, 9, (9, 100), by decide +kernel⟩,
   ⟨pairS 2 0 0 { hello := true, times := 15, timeSent := [(9, 100)] }, 0, 100 + 117964802, 9, (9, 100), by decide +kernel⟩,
   ⟨pairS 4 1 1, by decide +kernel⟩, ⟨State.reset, by decide +kernel⟩, ⟨goodMsg, by decide +kernel⟩, goodMsg.set 2 1, by decide +kernel⟩

theorem wit_LockstepMessagesAndJoins :
    (∃ n : BitVec 16, 2046 < n.toNat) ∧ (∃ n : BitVec 16, n.toNat ≤ 2046 ∧ 0 < n.toNat) ∧
    (∃ (s : State) (b : BitVec 32) (d : BitVec 64), s.inLockstep = true ∧ s.pair.digests.find? (fun x => x.1 == 1 && x.2.1 == b.toNat) = some (1, 4, 9) ∧
      s.spSince 1 b.toNat = 32 ∧ 9 = d.toNat) ∧
    (∃ (s : State) (b : BitVec 32) (d : BitVec 64), s.inLockstep = true ∧ s.pair.digests.find? (fun x => x.1 == 1 && x.2.1 == b.toNat) = some (1, 4, 9) ∧
      s.spSince 1 b.toNat ≤ 32 ∧ 9 ≠ d.toNat) ∧
    (∃ s : State, s.inLockstep = false) ∧
    (∃ (s : State) (b : BitVec 32), s.inLockstep = true ∧ s.pair.digests.find? (fun x => x.1 == 1 && x.2.1 == b.toNat) = none ∧
      s.spSince 1 b.toNat = 0) ∧
    (∃ (s : State) (b : BitVec 32), s.inLockstep = true ∧ s.pair.digests.find? (fun x => x.1 == 1 && x.2.1 == b.toNat) = none ∧
      s.spSince 1 b.toNat < 0) ∧
    (∃ (s : State) (b : BitVec 32), s.inLockstep = true ∧ 32 ≤ s.spSince 1 b.toNat ∧
      s.pair.digests.any (fun x => x.1 == 1 && x.2.1 == b.toNat) = true ∧ s.pair.missRun < 7) ∧
    (∃ (s : State) (b : BitVec 32), s.inLockstep = true ∧ s.spSince 1 b.toNat = 31) ∧
    (∃ s : State, s.keys.pair = none) ∧ (∃ s : State, s.keys.pair = some 5) ∧ (∃ s : State, s.pairState = 3) ∧ (∃ s : State, s.pairState ≠ 3) ∧
    (∃ s : State, s.pairMode = false) ∧ (∃ s : State, s.pairMode = true ∧ s.holdsBit = true ∧ s.pairState = 2) ∧
    (∃ s : State, s.pair.source = true ∧ s.pair.lockAt = []) ∧ (∃ s : State, s.pair.source = true ∧ s.pair.lockAt ≠ []) :=
  let at_ (count : Nat) (p : PairSt) : State := { pairS 5 0 1 p with audio := { dom := [(1, { count := count })] } }
  ⟨⟨2047, by decide⟩, ⟨2046, by decide⟩, ⟨at_ 36 { digests := [(1, 4, 9)] }, 4, 9, by decide +kernel⟩,
   ⟨at_ 4 { digests := [(1, 4, 9)] }, 4, 8, by decide +kernel⟩, ⟨State.reset, by decide +kernel⟩, ⟨at_ 1 {}, 1, by decide +kernel⟩,
   ⟨at_ 0 {}, 1, by decide +kernel⟩, ⟨at_ 36 { digests := [(1, 4, 9)], missRun := 6 }, 4, by decide +kernel⟩,
   ⟨at_ 35 { digests := [(1, 4, 9)] }, 4, by decide +kernel⟩,
   ⟨State.reset, by decide⟩, ⟨{ State.reset with keys := { pair := some 5 } }, by decide⟩, ⟨pairS 3 0 1, by decide +kernel⟩,
   ⟨pairS 2 0 1, by decide +kernel⟩, ⟨State.reset, by decide +kernel⟩, ⟨pairS 2 1 1, by decide +kernel⟩,
   ⟨pairS 4 1 1 { source := true }, by decide +kernel⟩, pairS 4 1 1 { source := true, lockAt := [(0, some 1)] }, by decide +kernel⟩

/-- A record that opens: what AES-SIV answers is not the model's, so it is a premise. -/
theorem wit_LockstepMessagesAndJoins_key (r : List Byte) (h : Config.sivOpen 5 [[]] [] = some r) :
    ∃ (s : State) (k : BitVec 256) (aux : Byte), s.keys.pair = some k ∧ Config.sivOpen k [[]] [] = some r ∧ aux.toNat < 4 :=
  ⟨{ State.reset with keys := { pair := some 5 } }, 5, 3, rfl, h, by decide⟩

theorem wit_ClaimsHandoversAndDepartures :
    (∃ s : State, s.loader.built = false) ∧ (∃ s : State, s.loader.built = true ∧ s.pair.frameAt = some s.arbFrame) ∧
    (∃ s : State, (s.loader.built = true ∧ s.pair.frameAt ≠ some s.arbFrame) ∧ s.ivernUp = false ∧ s.pairMode = true) ∧
    (∃ s : State, (s.loader.built = true ∧ s.pair.frameAt ≠ some s.arbFrame) ∧ s.ivernUp = true ∧ s.pair.silent = 6 ∧ s.pairMode = true) ∧
    (∃ s : State, (s.loader.built = true ∧ s.pair.frameAt ≠ some s.arbFrame) ∧ s.ivernUp = false ∧ s.pairMode = false) ∧
    (∃ s : State, s.pairMode = true) ∧
    (∃ s : State, s.pairMode = true ∧ s.ivernUp = true ∧ s.holdsBit = false ∧ s.claim ≠ 0 ∧ s.pairState = 5) ∧
    (∃ s : State, s.pairMode = true ∧ s.ivernUp = true ∧ s.holdsBit = false ∧ s.claim ≠ 0 ∧ s.pairState = 7) ∧
    (∃ s : State, s.pairMode = true ∧ s.holdsBit = true ∧ s.ivernUp = true ∧ s.pair.handover = none ∧ s.pair.partnerState = 5 ∧
      s.partnerHealth = 128) ∧
    (∃ s : State, s.pairMode = true ∧ s.holdsBit = true ∧ s.ivernUp = true ∧ s.pair.handover = none ∧ s.pair.partnerState = 5 ∧
      s.partnerHealth = 127) ∧
    (∃ s : State, s.pairState = 4) ∧ (∃ s : State, s.pairState ≠ 4 ∧ s.pairState ≠ 3) ∧
    (∃ s : State, s.pairState = 3 ∧ s.pair.asked = true ∧ s.pair.keyed = false ∧ (secondTicks : Int) ≤ s.monitorNow - s.pair.began) ∧
    (∃ s : State, s.pairState = 3 ∧ s.pair.asked = true ∧ s.pair.keyed = false ∧ ¬ (secondTicks : Int) ≤ s.monitorNow - s.pair.began) ∧
    (∃ s : State, s.pairMode = true ∧ s.holdsBit = false ∧ s.pairState ≠ 1) ∧ (∃ s : State, s.pairMode = true ∧ s.holdsBit = true) :=
  ⟨⟨State.reset, by decide +kernel⟩, ⟨pairS 4 1 1 { frameAt := some 0 }, by decide +kernel⟩, ⟨pairS 2 1 0, by decide +kernel⟩,
   ⟨pairS 4 1 1 { silent := 6 }, by decide +kernel⟩, ⟨built [], by decide +kernel⟩, ⟨pairS 1 0 0, by decide +kernel⟩,
   ⟨regs [(Reg.pairClaim, 0x8000)] (pairS 5 0 1), by decide +kernel⟩, ⟨regs [(Reg.pairClaim, 0x8000)] (pairS 7 0 1), by decide +kernel⟩,
   ⟨regs [(Reg.pairHealth, 0x800000)] (pairS 4 1 1 { partnerState := 5 }), by decide +kernel⟩,
   ⟨regs [(Reg.pairHealth, 0x7F0000)] (pairS 4 1 1 { partnerState := 5 }), by decide +kernel⟩, ⟨pairS 4 1 1, by decide +kernel⟩,
   ⟨pairS 2 1 1, by decide +kernel⟩, ⟨pairS 3 0 1 { asked := true, began := -secondTicks }, by decide +kernel⟩,
   ⟨pairS 3 0 1 { asked := true, began := 1 - secondTicks }, by decide +kernel⟩, ⟨pairS 5 0 1, by decide +kernel⟩, pairS 4 1 1, by decide +kernel⟩

/-- A node of a chain whose sides are as given, following side `f`. -/
def chainS (f : Nat) (c : ChainSt) : State :=
  flds [(Reg.chainStatus, ⟨0, 3⟩, 3), (Reg.chainStatus, ⟨7, 1⟩, f), (Reg.synStatus 0, Fld.synStatus_STATE, 4), (Reg.chainCtrl, ⟨0, 1⟩, 1)]
    (built [⟨0x61, 0, [1]⟩] { State.reset with running := true, chain := c })

/-- A chain frame of 46 octets and its CRC. -/
def goodChain : List Byte := let b : List Byte := 1 :: List.replicate 45 0; b ++ beBytes 2 (crcM 16 0x1021 0xFFFF b)

theorem wit_ChainAndPartners :
    (∃ s : State, s.chainMode = false) ∧ (∃ s : State, s.chainMode = true ∧ (s.cside 1).up = false) ∧
    (∃ frame : List Byte, chainFrameGood frame = true) ∧ (∃ frame : List Byte, chainFrameGood frame = false) ∧
    (∃ s : State, ¬ 8 * (secondTicks : Int) ≤ (s.monitorNow - (s.cside 1).heard) * 48000) ∧
    (∃ s : State, 8 * (secondTicks : Int) ≤ (s.monitorNow - (s.cside 1).heard) * 48000 ∧ (s.cside 1).up = true) ∧
    (∃ s : State, 8 * (secondTicks : Int) ≤ (s.monitorNow - (s.cside 1).heard) * 48000 ∧ (s.cside 1).up = false) ∧
    (∃ s : State, ∃ d, (s.cside 1).tod = some d ∧ 2 * (secondTicks : Int) < s.monitorNow - d.got) ∧
    (∃ s : State, ¬ ∃ d, (s.cside 1).tod = some d ∧ 2 * (secondTicks : Int) < s.monitorNow - d.got) ∧
    (∃ s : State, s.chainRefresh.chainSends = true ∧ s.chain.cycleAt ≠ some ((s.tb 0).t * 48000 / secondFine)) ∧
    (∃ s : State, s.chainRefresh.chainSends = true ∧ s.chain.cycleAt = some ((s.tb 0).t * 48000 / secondFine)) ∧
    (∃ s : State, s.chainRefresh.chainSends = false) ∧
    (∃ (s : State) (k : BitVec 16) (crc : Byte), s.chainMode = true ∧ crcM 8 0x07 0 (beBytes 2 k.toNat) = crc.toNat ∧ 7 ≤ (s.cside 1).run) ∧
    (∃ (k : BitVec 16) (crc : Byte), crcM 8 0x07 0 (beBytes 2 k.toNat) ≠ crc.toNat) ∧
    (∃ (s : State) (claim : BitVec 16) (uid : BitVec 64), (s.chainMode = true ∧ (s.cside 1).up = true) ∧ s.bit Reg.chainCtrl 4 = true ∧
      s.claim ≠ 0 ∧ s.claim = claim.toNat ∧ uid.toNat ≠ s.uid64) ∧
    (∃ (s : State) (cycle : BitVec 16), (s.chainMode = true ∧ (s.cside 1).up = true) ∧ s.chainShownSide ≠ some 1 ∧
      cycle.toNat ≠ s.chain.cycle) ∧
    (∃ (s : State) (ttx trx : BitVec 64), (s.chainMode = true ∧ (s.cside 1).up = true) ∧ s.chainShownSide ≠ some 1 ∧ s.chain.cycle < 65536 ∧
      (s.chainMarks 1).1 ≠ 0 ∧ (s.chainMarks 1).2 ≠ 0 ∧
      (tickDiff (s.chainMarks 1).2 ttx.toNat + tickDiff trx.toNat (s.chainMarks 1).1) / 2 ≤ 5000 * 65536) ∧
    (∃ s : State, (s.chainMode = true ∧ (s.cside 1).up = true) ∧ s.chainShownSide = some 1 ∧ (s.cside 0).queue.length < 32) ∧
    (∃ s : State, (s.chainMode = true ∧ (s.cside 1).up = true) ∧ s.chainShownSide ≠ some 1 ∧ ¬ (s.cside 0).queue.length < 32) ∧
    (∃ (s : State) (uid : BitVec 64) (i : Nat) (p : Partner), s.partnerKind 0 = true ∧ s.partnerAt 0 uid.toNat 0 = some (i, p) ∧
      p.uses = [0] ∧ 3 * (secondTicks : Int) ≤ s.monitorNow - p.heard) ∧
    (∃ (s : State) (uid : BitVec 64) (i : Nat) (p : Partner), s.partnerAt 0 uid.toNat 0 = some (i, p) ∧
      s.monitorNow - p.heard < 3 * (secondTicks : Int)) :=
  let part (h : Int) : State :=
    regs [(Reg.partnerCtrl, 1)] { State.reset with chain := { partners := [(1023, some { kind := 0, key := 7, uses := [0], heard := h })] } }
  let tod (g : Int) : State := chainS 0 { sides := [(1, { tod := some ⟨0, 0, 0, 0, 0, g⟩ })] }
  ⟨⟨State.reset, by decide +kernel⟩, ⟨chainS 0 {}, by decide +kernel⟩, ⟨goodChain, by decide +kernel⟩, ⟨goodChain.set 0 2, by decide +kernel⟩,
   ⟨chainS 0 {}, by decide +kernel⟩,
   ⟨chainS 0 { sides := [(1, { up := true, heard := -10922666667 })] }, by decide +kernel⟩,
   ⟨chainS 0 { sides := [(1, { heard := -10922666667 })] }, by decide +kernel⟩,
   ⟨tod (-(2 * secondTicks + 1)), ⟨0, 0, 0, 0, 0, -(2 * secondTicks + 1)⟩, by decide +kernel⟩,
   ⟨chainS 0 {}, by
     have h : ((chainS 0 {}).cside 1).tod = none := by decide +kernel
     rintro ⟨d, e, -⟩; rw [h] at e; cases e⟩,
   ⟨chainS 1 {}, by decide +kernel⟩, ⟨chainS 1 { cycleAt := some 0 }, by decide +kernel⟩, ⟨State.reset, by decide +kernel⟩,
   ⟨chainS 0 { sides := [(1, { run := 7 })] }, 0, 0, by decide +kernel⟩, ⟨0, 1, by decide +kernel⟩,
   ⟨regs [(Reg.chainCtrl, 0x11), (Reg.pairClaim, 7)] (chainS 0 { sides := [(1, { up := true })] }), 7, 1, by decide +kernel⟩,
   ⟨chainS 0 { sides := [(1, { up := true })], cycle := 65535 }, 0, by decide +kernel⟩,
   ⟨{ chainS 0 { sides := [(1, { up := true })], cycle := 65535 } with loupe := { marks := [(2, 100), (3, 200)] } }, 50, 150, by decide +kernel⟩,
   ⟨chainS 1 { sides := [(1, { up := true })] }, by decide +kernel⟩,
   ⟨chainS 0 { sides := [(0, { queue := List.replicate 32 .hop }), (1, { up := true })] }, by decide +kernel⟩,
   ⟨part (-3 * secondTicks), 7, 1023, { kind := 0, key := 7, uses := [0], heard := -3 * secondTicks }, by decide +kernel⟩,
   part (1 - 3 * secondTicks), 7, 1023, { kind := 0, key := 7, uses := [0], heard := 1 - 3 * secondTicks }, by decide +kernel⟩

/-! ### Witnesses: interrupts -/

/-- Four targets, NESTED or FLAT, the controller enabled, sources 62 and 63 for target 3 in groups 2 and 1, source 63 pending. -/
def irqS (nested : Nat) (t : TargetSt := {}) : State :=
  flds [(Reg.intcSrcCfg 63, Fld.intcSrcCfg_GROUP, 1), (Reg.intcSrcCfg 63, Fld.intcSrcCfg_TARGET, 3), (Reg.intcSrcCfg 63, ⟨15, 1⟩, 1),
    (Reg.intcSrcCfg 62, Fld.intcSrcCfg_GROUP, 2), (Reg.intcTgtCfg 3, ⟨15, 1⟩, 1), (Reg.intcTgtCfg 3, Fld.intcTgtCfg_THRESH, 7),
    (Reg.intcCtrl, ⟨0, 1⟩, 1)]
    (built [⟨0x50, 0, [12 + nested]⟩] { State.reset with intc := { pend := [(63, true)], tgt := [(3, t)] } })

theorem wit_InterruptsArePostedClaimedCompleted :
    (∃ s : State, s.intc.raised = [] ∧ 3 < s.intcTargets ∧ (s.itgt 3).posted = none ∧ (s.itgt 3).stack = [] ∧ s.arbitrate 3 = some 63) ∧
    (∃ s : State, 3 < s.intcTargets ∧ s.intcNested = false ∧ (s.itgt 3).posted = some 63) ∧
    (∃ s : State, s.intcNested = false ∧ (s.itgt 3).posted = none ∧ (s.itgt 3).stack ≠ []) ∧ (∃ s : State, s.intcTargets ≤ 3) ∧
    (∃ s : State, 3 < s.intcTargets ∧ s.intcNested = false ∧ (s.itgt 3).posted = none ∧ (s.itgt 3).stack = [] ∧ s.arbitrate 3 = some 63) ∧
    (∃ s : State, 3 < s.intcTargets ∧ ((s.itgt 3).posted = none ∧ (s.itgt 3).stack = []) ∧ s.arbitrate 3 = none) ∧
    (∃ s : State, 3 < s.intcTargets ∧ s.intcNested = true ∧ s.arbitrate 3 = none) ∧
    (∃ s : State, 3 < s.intcTargets ∧ s.intcNested = true ∧ s.arbitrate 3 = some 63) ∧
    (∃ (s : State) (v : Word), 3 < s.intcTargets ∧ (s.itgt 3).stack = v.toNat % 64 :: []) ∧
    (∃ (s : State) (v : Word), 3 < s.intcTargets ∧ s.intcNested = false ∧ (s.itgt 3).stack.head? ≠ some (v.toNat % 64)) ∧
    (∃ s : State, 3 < s.intcTargets ∧ s.intcNested = true ∧ (s.itgt 3).stack = []) ∧
    (∃ (s : State) (v : Word), 3 < s.intcTargets ∧ s.intcNested = true ∧ (s.itgt 3).stack = 62 :: [] ∧ 62 ≠ v.toNat % 64) :=
  ⟨⟨irqS 0, by decide +kernel⟩, ⟨irqS 0 { posted := some 63 }, by decide +kernel⟩, ⟨irqS 0 { stack := [62] }, by decide +kernel⟩,
   ⟨State.reset, by decide +kernel⟩, ⟨irqS 0, by decide +kernel⟩, ⟨regs [(Reg.intcCtrl, 0)] (irqS 0), by decide +kernel⟩,
   ⟨irqS 1 { stack := [63] }, by decide +kernel⟩, ⟨irqS 1 { stack := [62] }, by decide +kernel⟩, ⟨irqS 1 { stack := [62] }, 62, by decide +kernel⟩,
   ⟨irqS 0 { stack := [62] }, 63, by decide +kernel⟩, ⟨irqS 1, by decide +kernel⟩, irqS 1 { stack := [62] }, 63, by decide +kernel⟩

theorem wit_NestedAdmissionFollowsR546 :
    (∃ s : State, s.intcNested = true ∧ (s.itgt 3).stack = 62 :: [] ∧ s.irqEligible 3 63 = true) ∧
    (∃ s : State, s.intcNested = true ∧ (s.itgt 3).stack = 63 :: [] ∧ s.irqGroup 63 ≤ s.irqGroup 62) ∧
    (∃ s : State, s.intcNested = true ∧ (s.itgt 3).stack = 62 :: List.replicate 15 61 ∧ (List.replicate 15 61).length = 15) :=
  ⟨⟨irqS 1 { stack := [62] }, by decide +kernel⟩, ⟨irqS 1 { stack := [63] }, by decide +kernel⟩,
   irqS 1 { stack := 62 :: List.replicate 15 61 }, by decide +kernel⟩

theorem wit_ArbitrationAndEventFifos :
    (∃ s : State, s.arbitrate 3 = some 63) ∧ (∃ s : State, s.intc.evt.entries = [1, 2] :: []) ∧ (∃ s : State, s.intc.evt.entries = []) ∧
    (∃ s : State, (s.intc.pps.get {} 3).entries = []) ∧
    (∃ s : State, (s.intc.pps.get {} 3).entries = [1, 2, 3] :: List.replicate 127 []) :=
  ⟨⟨irqS 0, by decide +kernel⟩, ⟨{ State.reset with intc := { evt := { entries := [[1, 2]] } } }, by decide⟩, ⟨State.reset, by decide +kernel⟩,
   ⟨State.reset, by decide +kernel⟩,
   { State.reset with intc := { pps := [(3, { entries := [1, 2, 3] :: List.replicate 127 [] })] } }, by decide +kernel⟩

/-! ### Witnesses: power, ageing and external memory -/

theorem wit_PowerGroupsFollowLatencyAndDemand :
    (∃ (s : State) (us : BitVec 24), let u := (s.wrn (Reg.pgLatency 24) us.toNat).pgShow 24
      u.pgState 24 ≤ u.pgChoice 24) ∧
    (∃ (s : State) (us : BitVec 24), let u := (s.wrn (Reg.pgLatency 24) us.toNat).pgShow 24
      u.pgChoice 24 < u.pgState 24) ∧
    (∃ s : State, s.pgState 24 = 0 ∧ s.pgPolicy 24 = 1) ∧ (∃ s : State, s.pgState 24 = 0 ∧ s.pgPolicy 24 ≠ 2) ∧
    (∃ s : State, s.pgState 24 = 1) ∧ (∃ s : State, s.pgState 24 = 2) ∧ (∃ s : State, s.pgState 24 = 3) ∧
    (∃ s : State, s.pgDeepest 24 = 0 ∧ s.pgState 24 = 0) ∧ (∃ s : State, s.pgState 24 = 0 ∧ s.pgDeepest 24 ≠ 0) ∧
    (∃ s : State, 24 ∈ s.age.waking ∧ s.fault.owed = [] ∧ 2 ≤ s.pgState 24) ∧ (∃ s : State, 24 ∉ s.age.waking) ∧
    (∃ s : State, s.pgState 24 = 0 ∧ 24 ∉ s.age.waking ∧ s.pgPolicy 24 = 1) :=
  let held : State := built [⟨0x70, 24, [1]⟩]
  ⟨⟨held, 0, by decide +kernel⟩, ⟨regs [(Reg.pgStatus 24, 3)] held, 0, by decide +kernel⟩, ⟨held, by decide +kernel⟩,
   ⟨State.reset, by decide +kernel⟩, ⟨regs [(Reg.pgStatus 24, 1)], by decide +kernel⟩, ⟨regs [(Reg.pgStatus 24, 2)], by decide +kernel⟩,
   ⟨regs [(Reg.pgStatus 24, 3)], by decide +kernel⟩, ⟨held, by decide +kernel⟩,
   ⟨regs [(Reg.pgLatency 24, 0xFFFFFF)] (built []), by decide +kernel⟩,
   ⟨regs [(Reg.pgStatus 24, 3)] { State.reset with age := { waking := [24] } }, by decide +kernel⟩, ⟨State.reset, by decide +kernel⟩,
   held, by decide +kernel⟩

/-- A structure is built, regulation is automatic, and no code has been judged this second. -/
def vidS (code above : Nat) : State := regs [(Reg.ageCtrl, 0), (Reg.vidStatus, code)] (built [] { State.reset with age := { aboveSecs := above } })

theorem wit_VoltageSentinelsAndTemperature :
    (∃ s : State, s.loader.built = false) ∧ (∃ s : State, s.loader.built = true ∧ s.age.vidAt = some (s.edges / gridUs 1000000)) ∧
    (∃ s : State, (s.loader.built = true ∧ s.age.vidAt ≠ some (s.edges / gridUs 1000000)) ∧ s.bit Reg.ageCtrl 0 = true ∧ s.running = true) ∧
    (∃ (s : State) (corner : List Word), (s.loader.built = true ∧ s.age.vidAt ≠ some (s.edges / gridUs 1000000)) ∧ s.bit Reg.ageCtrl 0 = false ∧
      (∃ r ∈ corner, r.toNat * 1000000 < s.rateTarget) ∧ s.vidCode < 28) ∧
    (∃ (s : State) (corner : List Word), (s.loader.built = true ∧ s.age.vidAt ≠ some (s.edges / gridUs 1000000)) ∧ s.bit Reg.ageCtrl 0 = false ∧
      (∃ r ∈ corner, r.toNat * 1000000 < s.rateTarget) ∧ 28 ≤ s.vidCode) ∧
    (∃ (s : State) (corner : List Word), (s.loader.built = true ∧ s.age.vidAt ≠ some (s.edges / gridUs 1000000)) ∧ s.bit Reg.ageCtrl 0 = false ∧
      corner ≠ [] ∧ (∀ r ∈ corner, s.rateTarget * (1000 + s.rdn Reg.ageCtrl / 256 % 256) < r.toNat * 1000000 * 1000) ∧
      3600 = s.age.aboveSecs + 1 ∧ s.vidLow < s.vidCode) ∧
    (∃ (s : State) (corner : List Word), (s.loader.built = true ∧ s.age.vidAt ≠ some (s.edges / gridUs 1000000)) ∧ s.bit Reg.ageCtrl 0 = false ∧
      (∀ r ∈ corner, s.rateTarget ≤ r.toNat * 1000000) ∧ s.age.aboveSecs + 1 < 3600) ∧
    (∃ s : State, s.age.vmonAt = some (s.edges / gridUs 1000)) ∧
    (∃ (s : State) (mv : BitVec 16), s.age.vmonAt ≠ some (s.edges / gridUs 1000) ∧ 100 < 4 * (mv.toNat : Int) - (2800 + 25 * (s.vidCode : Int)) ∧
      s.age.vidEdge = some 0 ∧ 0 + gridUs 1000 ≤ s.edges) ∧
    (∃ s : State, s.age.hourAt = some (s.edges / gridUs 3600000000)) ∧
    (∃ (s : State) (k : Nat) (m : BitVec 24 × BitVec 24) (v : Nat), s.age.hourAt ≠ some (s.edges / gridUs 3600000000) ∧ k < 20 ∧ [m][k]? = some m ∧
      slowdown m.1.toNat m.2.toNat (s.otp.ringRatio.getD k 65536) = some v) ∧
    (∃ ref stress k : Nat, 0 < k * stress ∧ k * stress ≤ ref * 65536) ∧ (∃ s : State, s.age.sinceFit = 23) ∧ (∃ s : State, s.age.sinceFit = 24) ∧
    (∃ s : State, s.age.tjAt = some (s.edges / gridUs 1000)) ∧
    (∃ (s : State) (tj : BitVec 16), s.age.tjAt ≠ some (s.edges / gridUs 1000) ∧ s.bit Reg.thermStatus 0 = false ∧ s.faultLive 32 = false ∧
      (s.rdn Reg.thermCfg % 256 : Nat) * 256 < tj.toInt ∧ tj.toInt ≤ 120 * 256) ∧
    (∃ (s : State) (tj : BitVec 16), s.age.tjAt ≠ some (s.edges / gridUs 1000) ∧ 120 * 256 < tj.toInt ∧ 1 ≤ s.age.hotMs) :=
  ⟨⟨State.reset, by decide⟩, ⟨built [] { State.reset with age := { vidAt := some 0 } }, by decide +kernel⟩,
   ⟨regs [(Reg.ageCtrl, 1)] (built [] { State.reset with running := true }), by decide +kernel⟩,
   ⟨vidS 27 0, [1099], by decide +kernel, by decide +kernel, ⟨1099, List.mem_singleton_self _, by decide +kernel⟩, by decide +kernel⟩,
   ⟨vidS 28 0, [0], by decide +kernel, by decide +kernel, ⟨0, List.mem_singleton_self _, by decide +kernel⟩, by decide +kernel⟩,
   ⟨vidS 28 3599, [0xFFFFFFFF], by decide +kernel, by decide +kernel, by decide, by
     intro r h; obtain rfl := List.mem_singleton.1 h; decide +kernel, by decide +kernel⟩,
   ⟨vidS 28 3598, [0xFFFFFFFF], by decide +kernel, by decide +kernel, by
     intro r h; obtain rfl := List.mem_singleton.1 h; decide +kernel, by decide +kernel⟩,
   ⟨{ State.reset with age := { vmonAt := some 0 } }, by decide +kernel⟩,
   ⟨{ State.reset with edges := 625000, age := { vmonAt := some 0, vidEdge := some 0 } }, 900, by decide +kernel⟩,
   ⟨{ State.reset with age := { hourAt := some 0 } }, by decide +kernel⟩, ⟨State.reset, 0, (1000, 1000), 0, by decide +kernel⟩,
   ⟨1, 65536, 1, by decide⟩, ⟨{ State.reset with age := { sinceFit := 23 } }, by decide⟩, ⟨{ State.reset with age := { sinceFit := 24 } }, by decide⟩,
   ⟨{ State.reset with age := { tjAt := some 0 } }, by decide +kernel⟩, ⟨regs [(Reg.thermCfg, 100)], 0x7800, by decide +kernel⟩,
   { State.reset with age := { hotMs := 1 } }, 0x7801, by decide +kernel⟩

theorem wit_ExternalMemoryTrains :
    (∀ k ∈ [0, 1, 2, 3, 4, 5], (flds [(Reg.dramStatus, Fld.dramStatus_STATE, k)]).dramState = k) ∧
    (∃ s : State, s.dramState = 5 ∧ s.dramEn = true) ∧ (∃ s : State, s.dramState = 5 ∧ s.dramEn = false) ∧
    (∃ s : State, s.dramState = 3 ∧ s.dramBusy = false) ∧ (∃ s : State, s.dramState = 3 ∧ s.dramBusy = true) :=
  ⟨by decide +kernel, ⟨flds [(Reg.dramStatus, Fld.dramStatus_STATE, 5), (Reg.dramCtrl, ⟨0, 1⟩, 1)], by decide +kernel⟩,
   ⟨flds [(Reg.dramStatus, Fld.dramStatus_STATE, 5), (Reg.dramCtrl, ⟨0, 1⟩, 0)], by decide +kernel⟩,
   ⟨flds [(Reg.dramStatus, Fld.dramStatus_STATE, 3)], by decide +kernel⟩,
   flds [(Reg.dramStatus, Fld.dramStatus_STATE, 3)] { State.reset with pair := { source := true } }, by decide +kernel⟩

/-- External memory in SERVICE at a GRID edge, scrubbing each second and calibrating each millisecond, with alerts and a mapped-out interval of tREFI. -/
def served (e : Nat) : State :=
  flds [(Reg.dramStatus, Fld.dramStatus_STATE, 3)]
    (regs [(Reg.dramScrubCtrl, 0x10001), (Reg.dramZqCtrl, 0x10001)] { State.reset with edges := e, dram := { cfg := 3, timing := 1 } })

theorem wit_ExternalMemoryIsServed :
    (∃ s : State, s.dramState = 3 ∧ s.bit Reg.dramScrubCtrl 0 = true ∧
      s.dram.scrubAt + max 1 (s.fld Reg.dramScrubCtrl ⟨16, 16⟩) * gridUs 1000000 = s.edges) ∧
    (∃ s : State, s.dramState = 3 ∧ s.bit Reg.dramScrubCtrl 0 = true ∧
      s.edges < s.dram.scrubAt + max 1 (s.fld Reg.dramScrubCtrl ⟨16, 16⟩) * gridUs 1000000) ∧
    (∃ s : State, s.dramState = 3 ∧ s.dram.timing.toNat % 65536 * 20000 ≤
      (s.edges - s.dram.refreshAt) * 16 * s.dramRate * (if s.dramFast = true then 2 else 1)) ∧
    (∃ s : State, s.dramState = 3 ∧ ¬ s.dram.timing.toNat % 65536 * 20000 ≤
      (s.edges - s.dram.refreshAt) * 16 * s.dramRate * (if s.dramFast = true then 2 else 1)) ∧
    (∃ s : State, s.dramState = 3 ∧ s.bit Reg.dramZqCtrl 0 = true ∧ s.dram.zqAt + max 1 (s.fld Reg.dramZqCtrl ⟨16, 16⟩) * gridUs 1000 = s.edges) ∧
    (∃ s : State, s.dramState = 3 ∧ s.bit Reg.dramZqCtrl 0 = true ∧ s.edges < s.dram.zqAt + max 1 (s.fld Reg.dramZqCtrl ⟨16, 16⟩) * gridUs 1000) ∧
    (∃ s : State, s.dramState = 3 ∧ s.dram.tempAt + gridUs 1000000 = s.edges) ∧ (∃ s : State, s.dramState = 3 ∧ s.edges < s.dram.tempAt + gridUs 1000000) ∧
    (∀ crc : Bool, ∃ s : State, s.dramState = 3 ∧ s.dram.cfg.getLsbD (if crc then 0 else 1) = true) ∧
    (∀ crc : Bool, ∃ s : State, s.dramState = 3 ∧ s.dram.cfg.getLsbD (if crc then 0 else 1) = false) ∧ (∃ s : State, s.dramState ≠ 3) :=
  ⟨⟨served 625000000, by decide +kernel⟩, ⟨served 624999999, by decide +kernel⟩, ⟨served 625000, by decide +kernel⟩, ⟨served 0, by decide +kernel⟩,
   ⟨served 625000, by decide +kernel⟩, ⟨served 624999, by decide +kernel⟩, ⟨served 625000000, by decide +kernel⟩, ⟨served 624999999, by decide +kernel⟩,
   fun crc => ⟨served 0, by revert crc; decide +kernel⟩, fun crc => ⟨{ served 0 with dram := {} }, by revert crc; decide +kernel⟩,
   State.reset, by decide +kernel⟩

/-! ### Witnesses: the host interface and the machine -/

/-- The part runs and its SPI port is open. -/
def hostS (s : State := State.reset) : State := { s with running := true, ready := true }

/-- A unit in LOCKSTEP that holds, with both ports open. -/
def lockS : State := { pairS 4 1 1 with running := true, ready := true }

/-- What a port needs to reach a register, and that the access lies in BAR0. -/
abbrev Reaches (s : State) (p : Port) (a : Nat) : Prop := (s.running = true ∧ (p = .pcie ∨ s.ready = true)) ∧ (p = .spi ∨ a < 0x1000000)

theorem wit_HostRegisterAccesses :
    (∃ (s : State) (p : Port), ¬ (s.running = true ∧ (p = .pcie ∨ s.ready = true)) ∧ s.running = true) ∧
    (∃ a : Nat, pairOf a = 0) ∧
    (∀ k < 3, ∃ (s : State) (p : Port) (a : Nat) (v : Word), Reaches s p a ∧ (s.writeKind p a v).isSome = true ∧ pairOf a = k) ∧
    (∃ (s : State) (p : Port) (a : Nat) (v : Word), Reaches s p a ∧ s.writeKind p a v = none ∧ mirrored a = true ∧ (s.touch a).mirrors = true) ∧
    (∃ (s : State) (p : Port) (a : Nat) (v : Word), Reaches s p a ∧ s.writeKind p a v = none ∧ mirrored a = false ∧ pairOf a = 0) ∧
    (∃ (s : State) (p : Port) (a : Nat) (v : Word), Reaches s p a ∧ s.writeKind p a v = none ∧ mirrored a = false ∧ pairOf a = 1) ∧
    (∃ (s : State) (p : Port) (a : Nat) (v w : Word), Reaches s p a ∧ s.writeKind p a v = none ∧ mirrored a = false ∧ pairOf a = 2 ∧
      ((s.touch a).portAt p).writeLatch = some (a - 4, w)) ∧
    (∃ (s : State) (p : Port) (a : Nat) (v : Word), Reaches s p a ∧ s.writeKind p a v = none ∧ mirrored a = false ∧ pairOf a = 2 ∧
      ((s.touch a).portAt p).writeLatch = none) ∧
    (∃ (s : State) (p : Port) (a : Nat), Reaches s p a ∧ (s.readKind a).isSome = true) ∧
    (∃ (s : State) (p : Port) (a : Nat), Reaches s p a ∧ s.readKind a = none ∧ pairOf a = 0) ∧
    (∃ (s : State) (p : Port) (a : Nat) (hi : Word), Reaches s p a ∧ s.readKind a = none ∧ pairOf a = 2 ∧
      (((s.touch a).readTakes a).portAt p).readLatch = some (a - 4, hi)) ∧
    (∃ (s : State) (p : Port) (a : Nat), Reaches s p a ∧ s.readKind a = none ∧ pairOf a = 2 ∧ (((s.touch a).readTakes a).portAt p).readLatch = none) ∧
    (∃ s : State, s.running = true ∧ s.ready = true ∧ s.lockMask Reg.dbEn = 0 ∧ s.bit Reg.hostSpiCtrl 0 = false) ∧
    (regDef (0xFFFFFF / 4 * 4) = none) ∧
    (∃ (s : State) (a : Nat) (r : RegDef), s.running = true ∧ a < 0x1000000 ∧ regDef (a / 4 * 4) = some r ∧ groupAt a = none ∧
      s.lockedWhole (a / 4 * 4) r = true) ∧
    (∃ s : State, s.running = true ∧ s.ready = true ∧ s.bit Reg.hostSpiCtrl 0 = true ∧ s.lockMask Reg.dbEn = 0) ∧
    (∃ (s : State), s.running = true ∧ pairOf (Reg.tbSnapTickLo 7) = 1 ∧ s.readKind (Reg.tbSnapTickLo 7) = none) ∧
    (∃ (s : State), s.running = true ∧ pairOf (Reg.tbSnapTickLo 7 + 4) = 2 ∧ s.readKind (Reg.tbSnapTickLo 7 + 4) = none ∧
      s.host.pcie.readLatch = some (Reg.tbSnapTickLo 7, 9) ∧ groupAt (Reg.tbSnapTickLo 7 + 4) = none ∧
      (Reg.tbSnapTickLo 7 + 4) / 0x10000 = 7) ∧
    (∃ (s : State) (v : Word), s.running = true ∧ s.lockMask (Reg.leapLo 7) = 0 ∧ s.lockMask (Reg.leapHi 7) = 0 ∧ v &&& 0x3FFF0000 = 0 ∧
      s.host.pcie.writeLatch = some (Reg.leapLo 7, 5)) :=
  ⟨⟨{ State.reset with running := true }, .spi, by decide +kernel⟩, ⟨0, by decide +kernel⟩, by
     intro k h
     obtain rfl | rfl | rfl : k = 0 ∨ k = 1 ∨ k = 2 := by omega
     · exact ⟨hostS, .spi, 0xFFFFFF, 0, by decide +kernel⟩
     · exact ⟨hostS, .pcie, Reg.tbSnapTickLo 7, 0, by decide +kernel⟩
     · exact ⟨hostS, .pcie, Reg.tbSnapTickLo 7 + 4, 0, by decide +kernel⟩,
   ⟨flds [(Reg.pairCtrl, Fld.pairCtrl_MIRROR_WR, 1)] lockS, .pcie, Reg.storeSplit, 0, by decide +kernel⟩, ⟨lockS, .pcie, Reg.dbEn, 7, by decide +kernel⟩,
   ⟨hostS, .pcie, Reg.leapLo 7, 0, by decide +kernel⟩,
   ⟨hostS { State.reset with host := { pcie := { writeLatch := some (Reg.leapLo 7, 5) } } }, .pcie, Reg.leapLo 7 + 4, 0, 5, by decide +kernel⟩,
   ⟨hostS, .pcie, Reg.leapLo 7 + 4, 0, by decide +kernel⟩, ⟨hostS, .pcie, 0xFFFFFF, by decide +kernel⟩,
   ⟨hostS, .spi, Reg.dbEn, by decide +kernel⟩,
   ⟨hostS { State.reset with host := { pcie := { readLatch := some (Reg.tbSnapTickLo 7, 9) } } }, .pcie, Reg.tbSnapTickLo 7 + 4, 9, by decide +kernel⟩,
   ⟨hostS, .pcie, Reg.tbSnapTickLo 7 + 4, by decide +kernel⟩, ⟨hostS, by decide +kernel⟩, by decide +kernel,
   ⟨hostS { State.reset with loader := { built := true, locks := [(Reg.dbEn, 0xFFFFFFFF)] } }, Reg.dbEn, (regDef Reg.dbEn).get (by decide +kernel),
     by decide +kernel⟩,
   ⟨regs [(Reg.hostSpiCtrl, 1)] hostS, by decide +kernel⟩, ⟨hostS, by decide +kernel⟩,
   ⟨hostS { State.reset with host := { pcie := { readLatch := some (Reg.tbSnapTickLo 7, 9) } } }, by decide +kernel⟩,
   hostS { State.reset with host := { pcie := { writeLatch := some (Reg.leapLo 7, 5) } } }, 0x40000000, by decide +kernel⟩

theorem wit_WindowsAndTheSpiPort :
    (∃ s : State, s.running = false) ∧ (∃ s : State, s.running = true ∧ s.ready = false) ∧
    (∃ (s : State) (octets : List Byte), s.running = true ∧ s.ready = true ∧ octets.length < 4) ∧
    (∃ code : Byte, code ∈ ([0x02, 0x03, 0x0A, 0x0B] : List Byte)) ∧
    (∃ (s : State) (off : BitVec 26), s.running = true ∧ 0x2000000 ≤ off.toNat ∧ off.toNat % 4 = 0 ∧
      s.groupDark ((off.toNat - 0x2000000) / 0x200000) = false ∧ mirroredMem off.toNat = false ∧
      s.inTaskCode ((off.toNat - 0x2000000) / 0x20000) ((off.toNat - 0x2000000) % 0x20000) = false) ∧
    (∃ (s : State) (off : BitVec 26), s.running = true ∧ 0x2000000 ≤ off.toNat ∧ off.toNat % 4 = 0 ∧
      s.groupDark ((off.toNat - 0x2000000) / 0x200000) = false ∧ mirroredMem off.toNat = true ∧
      (s.mirrors = false ∧ (s.groupTouch ((off.toNat - 0x2000000) / 0x200000)).mirrors = false) ∧
      s.inTaskCode ((off.toNat - 0x2000000) / 0x20000) ((off.toNat - 0x2000000) % 0x20000) = false) ∧
    (∃ (s : State) (off : BitVec 26), s.running = true ∧ off.toNat + 2 < 0x1000000 ∧ (s.loader.built = false ∨ s.dramTrained = true) ∧
      s.memWf = true) ∧
    (∃ (s : State) (off : BitVec 26), s.running = true ∧ s.windowAt off.toNat = .reserved) ∧
    (∃ (s : State) (addr : Word), s.running = true ∧ s.ready = true ∧ s.bit Reg.hostSpiCtrl 0 = false ∧ addr.toNat / 4 * 4 < 0x1000000 ∧
      s.loader.built = false) ∧
    (∃ code : Byte, code ∉ ([0x02, 0x03, 0x0A, 0x0B] : List Byte)) :=
  ⟨⟨State.reset, by decide⟩, ⟨{ State.reset with running := true }, by decide⟩, ⟨hostS, [1, 2, 3], by decide⟩, ⟨0x0B, by decide⟩,
   ⟨hostS, 0x3FE0000, by decide +kernel⟩, ⟨hostS, 0x3FE8000, by decide +kernel⟩, ⟨hostS, 0xFFFFFD, by decide +kernel⟩,
   ⟨hostS, 0x1030550, by decide +kernel⟩, ⟨hostS, 0xFFFFFF, by decide +kernel⟩, 0, by decide⟩

theorem wit_PcieWatchdogAndDoorbells :
    (∃ gen width : Fin 5, gen ≠ 0 ∧ width ∈ ([1, 2, 4] : List (Fin 5))) ∧ (∃ s : State, s.host.linkUp = true) ∧
    (∃ (s : State), s.dmaOk = true ∧ s.txqRuns 3 = true ∧ txHead (s.txq 3).descs = .frame 1) ∧
    (∃ s : State, s.bit Reg.hostWdogCtrl 1 = true) ∧ (∃ s : State, s.bit Reg.hostWdogCtrl 1 = false) ∧ (∃ v : Word, v ≠ 0xD1) ∧
    (∃ (s : State) (v : Word), s.lockMask Reg.hostWdogCtrl = 0 ∧ v.toNat.testBit 0 = true ∧ s.bit Reg.hostWdogCtrl 0 = false) ∧
    (∃ s : State, s.lockMask Reg.hostWdogCtrl = 0 ∧ s.bit Reg.hostWdogCtrl 0 = true) ∧
    (∃ s : State, s.host.wdogRun = true ∧ s.bit Reg.hostWdogCtrl 0 = true ∧ s.fld Reg.hostWdogStatus Fld.hostWdogStatus_LEFT = 0) ∧
    (∃ s : State, ¬ (s.host.wdogRun = true ∧ s.bit Reg.hostWdogCtrl 0 = true ∧ s.fld Reg.hostWdogStatus Fld.hostWdogStatus_LEFT = 0) ∧
      s.fld Reg.hostWdogStatus Fld.hostWdogStatus_LEFT = 1) ∧
    (∃ s : State, s.running = true) ∧ (∃ v : Word, v ≠ 0xC5) :=
  ⟨⟨4, 4, by decide⟩, ⟨{ State.reset with host := { linkUp := true } }, by decide⟩,
   ⟨regs [(Reg.queueCtrl, 1), (Reg.txqCtrl 3, 1)]
      { State.reset with host := { linkUp := true, busMaster := true },
                         queue := { tx := [(3, { descs := [⟨0, 64, 3, 0⟩] })] } }, by decide +kernel⟩,
   ⟨regs [(Reg.hostWdogCtrl, 2)], by decide +kernel⟩, ⟨State.reset, by decide +kernel⟩, ⟨0, by decide⟩, ⟨State.reset, 1, by decide +kernel⟩,
   ⟨regs [(Reg.hostWdogCtrl, 1)], by decide +kernel⟩,
   ⟨flds [(Reg.hostWdogStatus, Fld.hostWdogStatus_LEFT, 0)] (regs [(Reg.hostWdogCtrl, 1)] { State.reset with host := { wdogRun := true } }),
     by decide +kernel⟩,
   ⟨flds [(Reg.hostWdogStatus, Fld.hostWdogStatus_LEFT, 1)] (regs [(Reg.hostWdogCtrl, 1)] { State.reset with host := { wdogRun := true } }),
     by decide +kernel⟩, ⟨hostS, by decide⟩, 0, by decide⟩

theorem wit_StagingStaysCanonical : ∃ (s : State) (off : BitVec 26), s.memWf = true ∧ off.toNat < 0x2000000 :=
  ⟨{ State.reset with staging := [(3, 7)] }, 0x1FFFFFF, by decide +kernel⟩

theorem wit_StepTakesTheFrontCommand :
    (∃ (s : State) (cs : List Instr), s.pending = .timeSnap :: cs) ∧ (∃ s : State, s.pending = []) :=
  ⟨⟨{ State.reset with pending := [.timeSnap] }, [], by decide⟩, State.reset, by decide⟩

theorem wit_OnlyTheForbiddenPulseStops :
    (∃ c : Instr, c = .poresetAssert 1000) ∧ (∃ c : Instr, c = .poresetAssert 5000) ∧ (∃ c : Instr, c = .tblCmdDone) ∧
    exec (.poresetAssert 1001) State.reset = .fault .forbiddenResetPulse :=
  ⟨⟨_, rfl⟩, ⟨_, rfl⟩, ⟨_, rfl⟩, rfl⟩

theorem wit_EveryStepShowsThePins : ∃ t : State, step State.reset = .next t := ⟨State.reset.idleStep.showPins, rfl⟩

/-! ### Witnesses: what passes the checks, with what the uninterpreted functions answer as a premise -/

/-- A full image with one PARAMS section, which makes lane 0 the SPARE one; digest, key and signature are zeros. -/
def image : List Byte :=
  [84, 83, 83, 73, 1, 0, 128, 0, 86, 146, 162, 162, 8, 1, 0, 0, 1, 0, 0, 0, 255, 255, 15, 0, 0, 0, 0, 0, 0, 0, 0, 0] ++ List.replicate 0x58 0 ++
    [32, 111, 143, 143, 0, 0, 0, 0] ++ [1, 0, 255, 0, 192, 0, 0, 0, 8, 0, 0, 0, 59, 242, 150, 141] ++ List.replicate 48 0 ++
    [48, 0, 0, 1, 16, 0, 0, 0] ++ List.replicate 64 0

theorem wit_CheckApplyOtpAndScrub_pass (h : Config.sha256 (slice image 0x80 (image.length - 64 - 0x80)) = 0)
    (k : Config.ed25519Verify 0 (image.take 0x7C) 0 = true) :
    ∃ s : State, s.loader.state = .check ∧ checkImage s s.loader.image (s.loader.source != 0) = 0 := by
  refine ⟨{ State.reset with loader := { state := .check, image := image } }, rfl, ?_⟩
  have e : Config.sha256 (slice image 0x80 (image.length - 64 - 0x80)) = Image.digest image :=
    h.trans (by decide +kernel)
  have v : Config.ed25519Verify (Image.signerKey image) (image.take 0x7C)
      (BitVec.ofNat 512 (leAt image (image.length - 64) 64)) = true := by
    have a : Image.signerKey image = 0 := by decide +kernel
    have b : BitVec.ofNat 512 (leAt image (image.length - 64) 64) = 0 := by decide +kernel
    simp only [a, b, k]
  simp only [checkImage, e, v]
  decide +kernel

/-- A snapshot's header with a digest of zeros. -/
def snapS : State := { State.reset with hold := { window := SMap.ofList 0 0 [0x54, 0x53, 0x48, 0x53, 1, 0, 128, 0] } }

theorem wit_TemperatureAndSnapshotCommands_restore (h : Config.sha256 (SMap.slurp 0 snapS.hold.window 0x80 0x28100) = 0)
    (k : ∀ sig, Config.ed25519Verify 0 (SMap.slurp 0 snapS.hold.window 0 128) sig = true) : snapS.restoreCheck = 0 := by
  have a : slice (SMap.slurp 0 snapS.hold.window 0 128) 0 8 = [0x54, 0x53, 0x48, 0x53, 1, 0, 128, 0] := by decide +kernel
  have b : snapS.on Reg.holdSnapStatus Fld.holdSnapStatus_BUSY = false := by decide +kernel
  have c : ¬ 2 < snapS.holdState := by decide +kernel
  have d : leAt (SMap.slurp 0 snapS.hold.window 0 128) 8 8 = snapS.otp.uid.toNat := by decide +kernel
  have e : leAt (SMap.slurp 0 snapS.hold.window 0 128) 0x30 32 = 0 := by decide +kernel
  have f : snapS.otp.idPub = 0 := rfl
  simp only [restoreCheck, a, b, c, d, e, f, h, k, ne_eq, not_true_eq_false, if_false, Bool.false_eq_true]
  decide

end Sys2Proof.Tests
end

section
/-!
PROOFS. The dead time of a Loupe channel (R182): which parts of a stamp reach a channel's own state, and what an event of a channel can be.
-/

namespace Sys2Proof.Machine.State

variable (s : State)

/-! ### Reads of a channel -/

@[simp] theorem lch_setLch_same (n : Nat) (f : LoupeCh → LoupeCh) : (s.setLch n f).lch n = f (s.lch n) :=
  SMap.get_set_same _ _ _ _

theorem lch_setLch_other {n m : Nat} (f : LoupeCh → LoupeCh) (h : m ≠ n) : (s.setLch n f).lch m = s.lch m :=
  SMap.get_set_other _ _ _ _ h

@[simp] theorem lch_showPins (n : Nat) : s.showPins.lch n = s.lch n := rfl

variable {s} in
theorem lch_congr {t : State} (h : t.loupe.ch = s.loupe.ch) (n : Nat) : t.lch n = s.lch n := by
  unfold lch; rw [h]

variable {s} in
theorem rd_congr {t : State} (h : t.regs = s.regs) (a : Nat) : t.rd a = s.rd a := by
  unfold rd; rw [h]

variable {s} in
theorem fld_congr {t : State} (h : t.regs = s.regs) (a : Nat) (f : Bits) : t.fld a f = s.fld a f := by
  unfold fld rdn; rw [rd_congr h]

/-! ### What leaves the channels alone -/

@[simp] theorem addSat_loupe (a : Nat) (f : Bits) (v : Nat) : (s.addSat a f v).loupe = s.loupe := rfl

@[simp] theorem raiseIrqIf_loupe (b : Bool) (n : Nat) : (s.raiseIrqIf b n).loupe = s.loupe := by
  unfold raiseIrqIf; split <;> rfl

@[simp] theorem gateEnd_loupe (n code : Nat) : (s.gateEnd n code).loupe = s.loupe := rfl

@[simp] theorem feedAligners_loupe (c : Nat) (x : Int) : (s.feedAligners c x).loupe = s.loupe :=
  List.foldlRecOn (motive := fun t : State => t.loupe = s.loupe) _ _ rfl fun t ht n _ => by
    split <;> exact ht

@[simp] theorem loupeCopy_ch (e : List Word) (busy : Bool) : (s.loupeCopy e busy).loupe.ch = s.loupe.ch := by
  unfold loupeCopy
  split
  · rfl
  · dsimp only
    split
    · rfl
    · rw [raiseIrqIf_loupe]; rfl

@[simp] theorem stampCopy_ch (n : Nat) (ticks : Int) (falling busy first : Bool) (v : Option Int) :
    (s.stampCopy n ticks falling busy first v).loupe.ch = s.loupe.ch := by
  unfold stampCopy
  split
  · cases v <;> exact loupeCopy_ch _ _ _
  · rfl

@[simp] theorem ppsCapture_loupe (n : Nat) (tb0 : Int) (falling : Bool) : (s.ppsCapture n tb0 falling).loupe = s.loupe := by
  unfold ppsCapture
  split
  · dsimp only
    split
    · rfl
    · rw [raiseIrqIf_loupe]; rfl
  · rfl

@[simp] theorem monitorSees_loupe (n : Nat) (at_ : Option Int) : (s.monitorSees n at_).loupe = s.loupe := by
  unfold monitorSees; split <;> rfl

@[simp] theorem monitorSees_regs (n : Nat) (at_ : Option Int) : (s.monitorSees n at_).regs = s.regs := by
  unfold monitorSees; split <;> rfl

/-! ### A stamp, a miss -/

/-- A stamp on channel `n` changes no other channel: all it does to the channels is one change of `n`. -/
theorem takeStamp_ch (n : Nat) (code : BitVec 16) (falling busy : Bool) :
    ∃ f, (s.takeStamp n code falling busy).loupe.ch = (s.setLch n f).loupe.ch := by
  refine ⟨?change, ?channels⟩
  case channels =>
    simp only [takeStamp, apply_ite State.loupe, gateEnd_loupe, ppsCapture_loupe, stampCopy_ch, feedAligners_loupe, addSat_loupe, ite_self]
    rfl

theorem missStamp_ch (n : Nat) (count : Bool) : (s.missStamp n count).loupe.ch = (s.setLch n LoupeCh.missed).loupe.ch := by
  unfold missStamp
  cases count
  all_goals
    dsimp only
    split
    · rw [monitorSees_loupe]; rfl
    · rfl

theorem missStamp_counted_regs (n : Nat) : (s.missStamp n true).regs = (s.addSat (Reg.loupeCounters n) ⟨0, 16⟩ 1).regs := by
  unfold missStamp
  dsimp only
  split
  · rw [monitorSees_regs]; rfl
  · rfl

/-- A counted miss adds one to MISSED, which saturates (R182; register map of the Loupe). -/
theorem missStamp_counted_missed (n : Nat) :
    (s.missStamp n true).fld (Reg.loupeCounters n) ⟨0, 16⟩ = min (s.fld (Reg.loupeCounters n) ⟨0, 16⟩ + 1) 65535 := by
  rw [fld_congr (s.missStamp_counted_regs n), addSat, fld_put_same _ _ _ _ (by decide)]
  exact Nat.mod_eq_of_lt (by dsimp only; omega)

theorem missStamp_counted_rd_other {n a : Nat} (h : a ≠ Reg.loupeCounters n) : (s.missStamp n true).rd a = s.rd a := by
  rw [rd_congr (s.missStamp_counted_regs n), addSat, rd_put_other _ _ _ h]

/-! ### Events -/

/-- An edge with this code falls within 2.5 ns of the edge channel `n` last stamped (R182). -/
def InDeadTime (n : Nat) (code : BitVec 16) : Prop := ∃ l, (s.lch n).lastAt = some l ∧ s.edgeAt n code - l < 2500

/-- The state as the divider of channel `n` passes an edge. -/
def dividerReset (n : Nat) : State := s.setLch n fun c => { c with pre := 0 }

theorem lch_dividerReset (n : Nat) : (s.dividerReset n).lch n = { s.lch n with pre := 0 } := lch_setLch_same s n _

theorem lch_dividerReset_other {n m : Nat} (h : m ≠ n) : (s.dividerReset n).lch m = s.lch m := lch_setLch_other s _ h

theorem inDeadTime_dividerReset (n : Nat) (code : BitVec 16) : (s.dividerReset n).InDeadTime n code ↔ s.InDeadTime n code := by
  have hat : (s.dividerReset n).edgeAt n code = s.edgeAt n code := by
    unfold edgeAt edgePs; rw [lch_dividerReset]; rfl
  unfold InDeadTime
  rw [lch_dividerReset, hat]

theorem any_dead_iff (n : Nat) (code : BitVec 16) :
    ((s.lch n).lastAt.any fun l => decide (s.edgeAt n code - l < 2500)) = true ↔ s.InDeadTime n code := by
  simp [InDeadTime, Option.any_eq_true]

variable {s} in
/-- A calibrated channel that captures misses an event in its dead time, and counts it. -/
theorem loupeEvent_of_inDeadTime {n : Nat} {code : BitVec 16} (falling busy : Bool) (hcap : s.loupeCaptures n = true)
    (hok : (s.lch n).calOk = true) (hdead : s.InDeadTime n code) : s.loupeEvent n code falling busy = s.missStamp n true := by
  unfold loupeEvent
  simp [hcap, hok, (s.any_dead_iff n code).2 hdead]

/-- An event is missed, or it is outside the dead time and the channels are as a stamp leaves them. -/
theorem loupeEvent_cases (n : Nat) (code : BitVec 16) (falling busy : Bool) :
    (∃ count, s.loupeEvent n code falling busy = s.missStamp n count) ∨
      ¬ s.InDeadTime n code ∧ (s.loupeEvent n code falling busy).loupe.ch = (s.takeStamp n code falling busy).loupe.ch := by
  unfold loupeEvent
  dsimp only
  split
  · exact .inl ⟨_, rfl⟩
  split
  · exact .inl ⟨_, rfl⟩
  · next hlive =>
    split
    · exact .inl ⟨_, rfl⟩
    · next hok =>
      refine .inr ⟨fun hdead => hlive ?_, ?_⟩
      · have hcal : (s.lch n).calOk = true := by simpa using hok
        simp [hcal, (s.any_dead_iff n code).2 hdead]
      · split
        · rw [monitorSees_loupe]
        · rfl

theorem loupeEvent_lch_other {n m : Nat} (code : BitVec 16) (falling busy : Bool) (h : m ≠ n) :
    (s.loupeEvent n code falling busy).lch m = s.lch m := by
  obtain ⟨count, he⟩ | ⟨-, he⟩ := s.loupeEvent_cases n code falling busy
  · rw [he, lch_congr (s.missStamp_ch n count), lch_setLch_other s _ h]
  · obtain ⟨f, hf⟩ := s.takeStamp_ch n code falling busy
    rw [lch_congr (he.trans hf), lch_setLch_other s f h]

/-- Only an event outside the dead time adds to the stamps taken. -/
theorem loupeEvent_taken {n : Nat} {code : BitVec 16} {falling busy : Bool}
    (h : ((s.loupeEvent n code falling busy).lch n).taken ≠ (s.lch n).taken) : ¬ s.InDeadTime n code := by
  obtain ⟨count, he⟩ | ⟨hlive, -⟩ := s.loupeEvent_cases n code falling busy
  · rw [he, lch_congr (s.missStamp_ch n count), lch_setLch_same] at h
    exact absurd rfl h
  · exact hlive

end Sys2Proof.Machine.State

namespace Sys2Proof.Machine

/-! ### The command -/

section

variable (s : State) (n : Fin 12) (src : Fin 22) (falling : Bool) (code : BitVec 16) (busy : Bool)

theorem exec_loupeStamp : exec (.loupeStamp n src falling code busy) s = execLoupeStamp n src falling code busy s := rfl

variable {s n src falling} in
/-- An edge of the channel's source that its divider passes is an event. -/
theorem exec_loupeStamp_event (hsees : s.loupeSees n src falling = true) (hdiv : s.loupeDiv n ≤ (s.lch n).pre + 1) :
    exec (.loupeStamp n src falling code busy) s = done ((s.dividerReset n).loupeEvent n code falling busy) := by
  rw [exec_loupeStamp, execLoupeStamp, if_pos hsees, if_neg (by omega), State.dividerReset]

/-- An edge is not one of the channel's, or the divider counts it, or it is an event. -/
theorem exec_loupeStamp_cases : ∃ t : State, exec (.loupeStamp n src falling code busy) s = .next t.showPins ∧
    (t = s ∨ t = s.setLch n (fun c => { c with pre := c.pre + 1 }) ∨ t = (s.dividerReset n).loupeEvent n code falling busy) := by
  refine ⟨_, rfl, ?_⟩
  split
  · split
    · exact .inr (.inl rfl)
    · exact .inr (.inr rfl)
  · exact .inl rfl

/-- An event in the dead time is counted in MISSED and leaves what was last stamped (R182). -/
theorem loupeStamp_missed_of_inDeadTime (hdead : s.InDeadTime n code) (hsees : s.loupeSees n src falling = true)
    (hdiv : s.loupeDiv n ≤ (s.lch n).pre + 1) (hcap : s.loupeCaptures n = true) (hok : (s.lch n).calOk = true) :
    Completes (.loupeStamp n src falling code busy) s fun t =>
      (t.lch n).taken = (s.lch n).taken ∧ (t.lch n).last = (s.lch n).last ∧ (t.lch n).lastAt = (s.lch n).lastAt ∧
      t.fld (Reg.loupeCounters n) ⟨0, 16⟩ = min (s.fld (Reg.loupeCounters n) ⟨0, 16⟩ + 1) 65535 ∧
      SameRegs s t [Reg.loupeCounters n] := by
  have hev : (s.dividerReset n).loupeEvent n code falling busy = (s.dividerReset n).missStamp n true :=
    State.loupeEvent_of_inDeadTime falling busy hcap (by rw [s.lch_dividerReset n]; exact hok) ((s.inDeadTime_dividerReset n code).2 hdead)
  have hlch : ((s.dividerReset n).missStamp n true).lch n = LoupeCh.missed { s.lch n with pre := 0 } := by
    rw [State.lch_congr ((s.dividerReset n).missStamp_ch n true), State.lch_setLch_same, s.lch_dividerReset n]
  refine ⟨_, exec_loupeStamp_event code busy hsees hdiv, ?_⟩
  simp only [hev, State.lch_showPins, hlch, State.fld_showPins]
  exact ⟨rfl, rfl, rfl, (s.dividerReset n).missStamp_counted_missed n, fun a ha =>
    (s.dividerReset n).missStamp_counted_rd_other (List.ne_of_not_mem_cons ha)⟩

/-- An edge that is stamped is outside the dead time (R182). -/
theorem loupeStamp_taken_outside_deadTime : Completes (.loupeStamp n src falling code busy) s fun t =>
    (t.lch n).taken ≠ (s.lch n).taken → ¬ s.InDeadTime n code := by
  obtain ⟨t, hexec, rfl | rfl | rfl⟩ := exec_loupeStamp_cases s n src falling code busy
  all_goals refine ⟨_, hexec, fun htaken => ?_⟩
  · exact absurd rfl htaken
  · rw [State.lch_showPins, State.lch_setLch_same] at htaken
    exact absurd rfl htaken
  · rw [State.lch_showPins] at htaken
    refine mt (s.inDeadTime_dividerReset n code).2 ((s.dividerReset n).loupeEvent_taken (falling := falling) (busy := busy) ?_)
    rw [s.lch_dividerReset n]
    exact htaken

/-- An edge on one channel leaves the others (R182). -/
theorem loupeStamp_lch_other : Completes (.loupeStamp n src falling code busy) s fun t => ∀ m, m ≠ n.val → t.lch m = s.lch m := by
  obtain ⟨t, hexec, rfl | rfl | rfl⟩ := exec_loupeStamp_cases s n src falling code busy
  all_goals refine ⟨_, hexec, fun m hm => ?_⟩
  · rfl
  · rw [State.lch_showPins, State.lch_setLch_other s _ hm]
  · rw [State.lch_showPins, State.loupeEvent_lch_other _ code falling busy hm, s.lch_dividerReset_other hm]

end

/-- Settles O18: the case split is `loupeEvent_cases`, by which an event in the dead time can only be a miss. -/
theorem deadTimeFollowsR182 : Obligations.DeadTimeFollowsR182 := by
  intro s n src falling code busy
  refine ⟨fun l hlast hnear hsees hdiv hcap hok => ?_, ?_, loupeStamp_lch_other s n src falling code busy⟩
  · exact loupeStamp_missed_of_inDeadTime s n src falling code busy ⟨l, hlast, hnear⟩ hsees hdiv hcap hok
  · obtain ⟨t, hexec, hlive⟩ := loupeStamp_taken_outside_deadTime s n src falling code busy
    exact ⟨t, hexec, fun htaken l hlast => Int.not_lt.1 fun hnear => hlive htaken ⟨l, hlast, hnear⟩⟩

end Sys2Proof.Machine
end

section
/-!
PROOFS. The software fault (R533): what a collector tick does to the registers when its one event is of source 47, which is not grave and
resets no block.
-/

namespace Sys2Proof.Machine.State

variable (s : State)

/-! ### The event in its detail register -/

theorem rd_putBit_other {a b : Nat} (i : Nat) (v : Bool) (h : b ≠ a) : (s.putBit a i v).rd b = s.rd b := s.rd_put_other _ _ h

theorem rd_putStatus_other (n : Nat) (b : Bool) {a : Nat} (h : a ∉ [Reg.faultStatusLo, Reg.faultStatusHi]) :
    (s.putStatus n b).rd a = s.rd a := by
  simp only [List.mem_cons, List.not_mem_nil, or_false, not_or] at h
  unfold putStatus
  split
  · exact s.rd_putBit_other _ _ h.1
  · exact s.rd_putBit_other _ _ h.2

/-- An event writes its source's detail register and, of the other registers, its status bit alone. -/
theorem rd_faultEvent (e : Nat × Nat × Bool) (a : Nat) :
    (s.faultEvent e).rd a =
      ((s.putStatus e.1 true).wrn (Reg.faultDetail e.1)
        (min 255 (s.rdn (Reg.faultDetail e.1) / 2 ^ 24 + 1) * 2 ^ 24 + if e.2.2 then 0xFFFF else e.2.1 % 65536)).rd a := by
  unfold faultEvent
  dsimp only
  split
  · rw [setPair_rd]
  · rfl

theorem rd_faultEvent_other (e : Nat × Nat × Bool) {a : Nat} (h : a ≠ Reg.faultDetail e.1)
    (hst : a ∉ [Reg.faultStatusLo, Reg.faultStatusHi]) : (s.faultEvent e).rd a = s.rd a := by
  rw [rd_faultEvent, rd_wrn, if_neg h, rd_putStatus_other s _ _ hst]

/-- DETAIL of an event that is not forced is the event's own, in 16 bits (R520). -/
theorem fld_detail_faultEvent (n d : Nat) : (s.faultEvent (n, d, false)).fld (Reg.faultDetail n) ⟨0, 16⟩ = d % 65536 := by
  unfold fld rdn
  rw [rd_faultEvent, rd_wrn, if_pos rfl, BitVec.toNat_ofNat]
  simp only [Bool.false_eq_true, if_false]
  omega

/-! ### The records and the pins -/

theorem rd_faultRecord_other (new : List Nat) {at_ time a : Nat} (h : a ∉ [at_, time, time + 4]) :
    (s.faultRecord at_ time new).rd a = s.rd a := by
  simp only [List.mem_cons, List.not_mem_nil, or_false, not_or] at h
  obtain ⟨hat, hlo, hhi⟩ := h
  rw [faultRecord, rd_wr64_other _ _ hlo hhi, rd_wrn, if_neg hat]

theorem rd_faultRecords_other (new : List Nat) {a : Nat} (hfirst : a ∉ [Reg.faultFirst, Reg.faultFirstTimeLo, Reg.faultFirstTimeHi])
    (hgrave : a ∉ [Reg.faultGrave, Reg.faultGraveTimeLo, Reg.faultGraveTimeHi]) : (s.faultRecords new).rd a = s.rd a := by
  unfold faultRecords
  simp only [apply_ite (fun t : State => t.rd a), rd_faultRecord_other _ new hfirst, rd_faultRecord_other _ new hgrave, ite_self]

@[simp] theorem rd_raiseIrqIf (b : Bool) (n a : Nat) : (s.raiseIrqIf b n).rd a = s.rd a := by
  unfold raiseIrqIf; split <;> rfl

theorem rd_faultPins_other (new : List Nat) {a : Nat} (h : a ∉ [Reg.faultNmi, Reg.faultEpin]) : (s.faultPins new).rd a = s.rd a := by
  simp only [List.mem_cons, List.not_mem_nil, or_false, not_or] at h
  obtain ⟨hnmi, hepin⟩ := h
  unfold faultPins
  dsimp only
  split
  case' isTrue => rw [setFault_rd, rd_putBit_other _ _ _ hepin]
  all_goals
    split
    · rw [setFault_rd, rd_putBit_other _ _ _ hnmi, rd_raiseIrqIf]
    · rw [rd_raiseIrqIf]

/-! ### The tick -/

/-- What a collector tick does with event `e` before the resets, its source not a grave one: the event, the records and the pins. -/
def recordEvent (e : Nat × Nat × Bool) : State :=
  let new := s.newLatches [e]
  (((s.setFault fun f => { f with strobes := [] }).faultEvent e).faultRecords new).faultPins new

/-- The registers in which a tick shows an event, but for the source's own status bit and detail. -/
def tickRegs : List Nat :=
  [Reg.faultFirst, Reg.faultFirstTimeLo, Reg.faultFirstTimeHi, Reg.faultGrave, Reg.faultGraveTimeLo, Reg.faultGraveTimeHi,
    Reg.faultNmi, Reg.faultEpin]

theorem rd_recordEvent (e : Nat × Nat × Bool) {a : Nat} (h : a ∉ tickRegs) :
    (s.recordEvent e).rd a = ((s.setFault fun f => { f with strobes := [] }).faultEvent e).rd a := by
  simp only [tickRegs, List.mem_cons, List.not_mem_nil, or_false, not_or] at h
  rw [recordEvent, rd_faultPins_other _ _ (by simp [h]), rd_faultRecords_other _ _ (by simp [h]) (by simp [h])]

theorem eq_of_mem_newLatches_singleton {e : Nat × Nat × Bool} {n : Nat} (h : n ∈ s.newLatches [e]) : n = e.1 := by
  simp only [newLatches, List.mem_filter, List.any_cons, List.any_nil, Bool.or_false, Bool.and_eq_true, beq_iff_eq] at h
  exact h.2.1.symm

/-- A property that its source lacks is lacking from all that one event latches. -/
theorem any_newLatches_singleton {e : Nat × Nat × Bool} {p : Nat → Bool} (h : p e.1 = false) : (s.newLatches [e]).any p = false :=
  List.any_eq_false.2 fun n hn => by rw [s.eq_of_mem_newLatches_singleton hn, h]; exact Bool.false_ne_true

theorem graveEffects_of_not_grave (before : State) {new : List Nat} (h : new.any graveSources.contains = false) :
    s.graveEffects before new = s := by
  unfold graveEffects; rw [h]; rfl

/-- Source 47 stands for no block: its reset is none, whatever its BRST (R523). -/
theorem resetOrOwe_software (d : Nat) : s.resetOrOwe 47 d = s := rfl

theorem faultResets_software {es : List (Nat × Nat × Bool)} (h : ∀ e ∈ es, e.1 = 47) : s.faultResets es = s := by
  unfold faultResets
  refine List.foldlRecOn (motive := (· = s)) _ _ rfl fun t ht n _ => ?_
  refine List.foldlRecOn (motive := (· = s)) _ _ ht fun u hu e he => ?_
  obtain ⟨hdue, hn⟩ := List.mem_filter.1 he
  obtain rfl : n = 47 := (beq_iff_eq.1 hn).symm.trans (h e (List.mem_filter.1 hdue).1)
  rw [resetOrOwe_software, if_neg (by decide : ¬ (47 : Nat) = 6), ite_self, hu]

/-- A tick whose one event is a software fault, with CRST 0, records it and resets nothing (R520–R523). -/
theorem collect_software {d : Nat} (hev : s.fault.strobes = [(47, d, false)]) (hcrst : s.bit (Reg.faultCfg 47) 3 = false) :
    s.collect = s.recordEvent (47, d, false) := by
  have hgrave : (s.newLatches [(47, d, false)]).any graveSources.contains = false :=
    s.any_newLatches_singleton (show graveSources.contains 47 = false by decide)
  have hcfg : (s.recordEvent (47, d, false)).rd (Reg.faultCfg 47) = s.rd (Reg.faultCfg 47) := by
    rw [s.rd_recordEvent _ (by decide), rd_faultEvent_other _ _ (show Reg.faultCfg 47 ≠ Reg.faultDetail 47 by decide) (by decide), setFault_rd]
  have hchip : (s.newLatches [(47, d, false)]).any (fun n => (s.recordEvent (47, d, false)).faultBit n 3) = false :=
    s.any_newLatches_singleton (by simpa [faultBit, bit, rdn, hcfg] using hcrst)
  unfold collect
  simp only [hev, List.foldl_cons, List.foldl_nil, graveEffects_of_not_grave _ _ hgrave]
  rw [faultResets_software _ (by simp), ← recordEvent, hchip]
  rfl

/-- The tick that takes a software fault shows its detail (R533). -/
theorem fld_detail_collect_software {d : Nat} (hev : s.fault.strobes = [(47, d, false)]) (hcrst : s.bit (Reg.faultCfg 47) 3 = false) :
    s.collect.fld (Reg.faultDetail 47) ⟨0, 16⟩ = d % 65536 := by
  rw [s.collect_software hev hcrst, fld, rdn, s.rd_recordEvent _ (by decide)]
  exact fld_detail_faultEvent _ 47 d

end Sys2Proof.Machine.State

namespace Sys2Proof.Machine

theorem exec_faultSoft (v : Word) (s : State) : exec (.faultSoft v) s = done (s.raiseFault 47 (v.toNat % 65536)) := rfl

theorem exec_faultTake (s : State) : exec .faultTake s = done s.collect := rfl

/-- Settles O10: the strobe of FAULT_SOFT is the tick's one event, and `collect_software` says what the tick makes of it. -/
theorem softFaultsFollowR533 : Obligations.SoftFaultsFollowR533 := by
  intro s v
  refine ⟨⟨_, exec_faultSoft v s, rfl, ?_⟩, fun hnone hcrst => ⟨_, exec_faultSoft v s, _, exec_faultTake _, ?_⟩⟩
  · simp
  · have htake := State.fld_detail_collect_software (s.raiseFault 47 (v.toNat % 65536)).showPins (d := v.toNat % 65536) (by simp [hnone]) hcrst
    exact htake.trans (Nat.mod_mod _ _)

end Sys2Proof.Machine
end

section
/-!
PROOFS. Admission in NESTED mode (R546): what eligibility asks of a target that has sources in service, and that neither a posting nor a claim
with nothing to take changes what is in service.
-/

namespace Sys2Proof.Machine.State

variable (s : State)

/-! ### Reads of a target -/

@[simp] theorem itgt_setItgt_same (t : Nat) (f : TargetSt → TargetSt) : (s.setItgt t f).itgt t = f (s.itgt t) :=
  SMap.get_set_same _ _ _ _

theorem itgt_setItgt_other {t u : Nat} (f : TargetSt → TargetSt) (h : u ≠ t) : (s.setItgt t f).itgt u = s.itgt u :=
  SMap.get_set_other _ _ _ _ h

@[simp] theorem itgt_wr (a : Nat) (v : Word) (t : Nat) : (s.wr a v).itgt t = s.itgt t := rfl

@[simp] theorem itgt_showPins (t : Nat) : s.showPins.itgt t = s.itgt t := rfl

@[simp] theorem itgt_msixSend (v t : Nat) : (s.msixSend v).itgt t = s.itgt t := by
  unfold msixSend; split <;> rfl

@[simp] theorem itgt_msixDrop (u t : Nat) : (s.msixDrop u).itgt t = s.itgt t := by
  unfold msixDrop
  split
  · rfl
  · split <;> rfl

/-! ### What leaves the sources in service alone -/

/-- A change of a target that keeps its stack keeps all stacks. -/
theorem stack_setItgt {u : Nat} {f : TargetSt → TargetSt} (hf : (f (s.itgt u)).stack = (s.itgt u).stack) (t : Nat) :
    ((s.setItgt u f).itgt t).stack = (s.itgt t).stack := by
  by_cases htu : t = u
  · rw [htu, itgt_setItgt_same, hf]
  · rw [itgt_setItgt_other s f htu]

theorem stack_intcPost (u t : Nat) : ((s.intcPost u).itgt t).stack = (s.itgt t).stack := by
  unfold intcPost
  dsimp only
  split
  · rfl
  split
  · rfl
  split
  · exact s.stack_setItgt rfl t
  · rw [itgt_msixSend]
    exact s.stack_setItgt rfl t

theorem stack_intcArbitrate (t : Nat) : (s.intcArbitrate.itgt t).stack = (s.itgt t).stack :=
  List.foldlRecOn (motive := fun u : State => (u.itgt t).stack = (s.itgt t).stack) _ _ rfl fun u hu k _ =>
    (u.stack_intcPost k t).trans hu

/-! ### Eligibility over a stack -/

variable {s} {t top : Nat} {rest : List Nat}

theorem irqAdmitted_of_irqEligible {n : Nat} (h : s.irqEligible t n = true) : s.irqAdmitted t n = true :=
  (Bool.and_eq_true_iff.1 h).2

theorem irqAdmitted_iff (hnest : s.intcNested = true) (hstack : (s.itgt t).stack = top :: rest) (n : Nat) :
    s.irqAdmitted t n = true ↔ s.irqGroup n < s.irqGroup top ∧ rest.length < 15 := by
  simp [irqAdmitted, hnest, hstack]

theorem irqGroup_lt_of_irqEligible (hnest : s.intcNested = true) (hstack : (s.itgt t).stack = top :: rest) {n : Nat}
    (h : s.irqEligible t n = true) : s.irqGroup n < s.irqGroup top :=
  ((irqAdmitted_iff hnest hstack n).1 (irqAdmitted_of_irqEligible h)).1

theorem irqEligible_of_full (hnest : s.intcNested = true) (hstack : (s.itgt t).stack = top :: rest) (hfull : rest.length = 15) (n : Nat) :
    s.irqEligible t n = false :=
  Bool.eq_false_iff.2 fun h => Nat.ne_of_lt ((irqAdmitted_iff hnest hstack n).1 (irqAdmitted_of_irqEligible h)).2 hfull

/-! ### A target with nothing to take -/

theorem arbitrate_of_none_eligible (h : ∀ n, s.irqEligible t n = false) : s.arbitrate t = none := by
  rw [arbitrate, List.filter_eq_nil_iff.2 fun n _ => by simp [h n]]
  rfl

theorem intcPost_of_arbitrate_none (h : s.arbitrate t = none) : s.intcPost t = s := by
  simp [intcPost, h]

/-- In NESTED mode a claim with nothing to take reads 0 and leaves the sources in service (R545). -/
theorem intcClaim_of_arbitrate_none (hnest : s.intcNested = true) (h : s.arbitrate t = none) :
    (s.intcClaim t).1 = 0 ∧ ((s.intcClaim t).2.itgt t).stack = (s.itgt t).stack := by
  unfold intcClaim
  dsimp only
  rw [if_pos hnest, h]
  split
  · exact ⟨rfl, rfl⟩
  · refine ⟨rfl, ?_⟩
    rw [stack_intcArbitrate, itgt_msixDrop]
    exact s.stack_setItgt rfl t

end Sys2Proof.Machine.State

namespace Sys2Proof.Machine

theorem exec_intcClaim (t : Fin 4) (s : State) :
    exec (.intcClaim t) s = done ((s.intcClaim t).2.wr (Reg.intcTgtClaim t) (s.intcClaim t).1) := rfl

/-- Settles O47: over a stack `irqAdmitted_iff` is the rule of R546, and on a full one it leaves arbitration nothing to post or to claim. -/
theorem nestedAdmissionFollowsR546 : Obligations.NestedAdmissionFollowsR546 := by
  intro s k top rest hnest hstack
  refine ⟨fun n => State.irqGroup_lt_of_irqEligible hnest hstack, fun n hle => ?_, fun hfull => ?_⟩
  · exact Bool.eq_false_iff.2 fun h => Nat.not_le_of_lt (State.irqGroup_lt_of_irqEligible hnest hstack h) hle
  · have hnone : s.arbitrate k = none := State.arbitrate_of_none_eligible (State.irqEligible_of_full hnest hstack hfull)
    obtain ⟨hword, hkept⟩ := State.intcClaim_of_arbitrate_none hnest hnone
    refine ⟨by rw [State.intcPost_of_arbitrate_none hnone], _, exec_intcClaim k s, ?_, ?_⟩
    · simp [State.bit, State.rdn, hword]
    · simpa using hkept

end Sys2Proof.Machine
end
